-- ==== Sys2Proof/Word.lean ====
section
/-! DEFINITION. The word of the part: 32 data bits (00_scope.md section 6, R22). -/

namespace Sys2Proof

/-- A word of memory, of the aperture or of a frame: 32 data bits, bit 0 the least significant. -/
abbrev Word := BitVec 32

/-- The outcome of a read slot (Table 2.1 of R22). -/
inductive ReadOutcome where
  | clean
  | corrected
  | uncorrectable
deriving DecidableEq, Repr, Inhabited

end Sys2Proof
end

