-- ==== Sys2Proof/Syntax.lean ====
section
/-! DEFINITION. The commands of the block: one constructor for each row of spec/opcode_table.json, with
what the outside supplies to that step as its operands. -/

namespace Sys2Proof

/-- A link port (R83). -/
inductive Port where
  | a
  | b
deriving DecidableEq, Repr

/-- A notice line (section 11.4). -/
inductive NoticeName where
  | na
  | nb
deriving DecidableEq, Repr

/-- A transaction presented by the processor (R9): a read of a number of words, or a write of words
each with its byte mask (bit k selects byte k). -/
inductive Transaction where
  | read (addr : BitVec 28) (words : Nat)
  | write (addr : BitVec 28) (words : List (Word × BitVec 4))
deriving DecidableEq, Repr

/-- A frame as it stands on the link (section 13.4): header word, payload words, CRC. -/
structure WireFrame where
  header : Word
  payload : List Word
  crc : BitVec 16
deriving DecidableEq, Repr

/-- What the channel memory shows at a read slot beyond what the part has stored there (R21, R22; log
entries 6 and 8): `fill` is the data of a word that nothing has written since POR, and `upset` marks
which of the 39 stored bits (0 to 31 data, 32 to 38 check) have gone wrong since they were last looked at. -/
structure CellSample where
  fill : Word
  upset : BitVec 39
deriving DecidableEq, Repr

/-- The commands, in the order of spec/opcode_table.json. A management command carries its parameter
words (R173, log entry 5), a frame step the port whose receive queue it takes from, a group end the
sample of the read slot where the group may have one. -/
inductive Instr where
  | por (chanId msize : BitVec 2)
  | msTick
  | pacingTick
  | processorTransaction (t : Transaction)
  | apertureWordWrite (index : Fin 16) (value : Word)
  | unknownCommand (code : Word)
  | status (page : Word)
  | settingsWrite (setting value : Word)
  | settingsRead (setting : Word)
  | restart
  | tableOpen
  | tableWrite (image0 image1 image2 index : Word)
  | tableClose
  | tableRead (index : Word)
  | coldStart
  | isolate
  | cycleMark (n : Word)
  | voteRead (cycle part : Word)
  | reenter
  | joinAt (n : Word)
  | digestRead (index : Word)
  | rowTableRead (position : Word)
  | spareRead (index : Word)
  | eventsRead
  | eventsClear (set : Word)
  | captureRead (cls : Word)
  | captureClear (cls : Word)
  | countersRead (first count : Word)
  | countersClear
  | arbiterGrant
  | processorReadEnd (m : CellSample)
  | processorWriteEnd (m : CellSample)
  | partialWriteEnd (m : CellSample)
  | scrubReadEnd (m : CellSample)
  | auditReadEnd (m : CellSample)
  | clearWriteEnd
  | copyReadEnd (m : CellSample)
  | frameWriteEnd (m : CellSample)
  | restoringWriteEnd
  | rowMoveCopyEnd (m : CellSample)
  | ageingSweep
  | coverageTimerExpiry
  | cycleWatchdogExpiry
  | voteDeadlineExpiry
  | partnerLost (p : Port)
  | uncheckedRunLimit
  | syncTimeout
  | frameArrival (p : Port) (f : WireFrame)
  | linkUp (p : Port) (f : WireFrame)
  | linkDown (p : Port)
  | silenceResetInDown (p : Port)
  | idleFrameSend (p : Port)
  | txFrameStart (p : Port)
  | txFrameEnd (p : Port)
  | serviceQueueMove
  | segmentEntryJoin
  | copyEndEntryJoin
  | idle (p : Port)
  | digest (p : Port)
  | copyRequest (p : Port)
  | copyAccept (p : Port)
  | copyRefuse (p : Port)
  | segment (p : Port)
  | forward (p : Port)
  | copyEnd (p : Port)
  | joined (p : Port)
  | abandon (p : Port)
  | repairRequest (p : Port)
  | repairEnd (p : Port)
  | copyRequestTimeout
  | repairAnswerTimeout
  | repairSegmentTimeout
  | noticePulseEnd (l : NoticeName)
  | noticeGapEnd (l : NoticeName)
deriving DecidableEq, Repr

end Sys2Proof
end

