-- ==== Sys2Proof/Decode.lean ====
section
/-! DEFINITION. The command that a word spells by the opcode table's bits. No row of
spec/opcode_table.json gives bits (every row's "fields" is empty and none has "fixed"), so no word
spells a command. The encodings the spec does give, of aperture words and of frames, are read in
Machine/Operands.lean and Machine/Frames.lean, where the aperture and the links bring them in. -/

namespace Sys2Proof

/-- No row of the table gives bits: no word spells a command. -/
def decodeTableWord (_nbits _w : Nat) : Option Instr := none

end Sys2Proof
end

