-- ==== Sys2Proof/Config.lean ====
section
/-! DEFINITION. What one PB-320 fixes (Table 0.2) and the four free values of the model: the outcome
that the check code gives a stored word with three or more wrong bits, the bit it then corrects, and which of two rules a
part follows at each of the two points where they contradict each other and nothing rules between them. -/

namespace Sys2Proof.Config

/-- The digest modulus M = 2^61 - 1 (Table 0.2, R55). -/
def digestModulus : Nat := 2305843009213693951

/-- Words of a row (Table 0.2). -/
def rowWords : Nat := 256

/-- Bytes of a block (Table 0.2). -/
def blockBytes : Nat := 4096

/-- Words of a block (Table 0.2). -/
def blockWords : Nat := 1024

/-- Entries the row error table holds at most (R37). -/
def rowTableSize : Nat := 64

/-- Frames a transmit queue holds at most (R90). -/
def txQueueSize : Nat := 16

/-- Frames a receive queue holds at most (R93). -/
def rxQueueSize : Nat := 8

/-- Places of the transmit queue that must be free before a service-queue entry moves (R92). -/
def servicePlaces : Nat := 4

/-- FORWARD entries the service queue holds at most (R137). -/
def maxForwards : Nat := 28

/-- SEGMENT entries the service queue holds at most (R134). -/
def maxSegments : Nat := 2

/-- MARK entries the service queue holds at most (R138). -/
def maxMarks : Nat := 2

/-- Blocks the resend list holds at most (R137). -/
def resendSize : Nat := 64

/-- Blocks the repair list holds at most (R149). -/
def repairSize : Nat := 8

/-- Records the vote table holds at most (R103). -/
def voteTableSize : Nat := 4

/-- A counter saturates here (R166). -/
def counterTop : Nat := 65535

/-- A capture's repeat count saturates here (R163). -/
def repeatTop : Nat := 255

/-- The service request timeout in ms (R130, R151). -/
def requestTimeout : Nat := 10

/-- The silence that takes a link DOWN, in ms (R87). -/
def silenceLimit : Nat := 5

/-- The outcome of a read of a stored word with three or more wrong bits, as a function of the data last stored
and of the wrong bits. R22: such a pattern 'may decode as any of the three outcomes'. FREE VALUE, log entry 7. -/
opaque wideOutcome : Word → BitVec 39 → ReadOutcome

/-- The one bit of those 39 that the decode takes to be wrong where that outcome is CORRECTED: which it is follows
from the code, which the spec does not give. FREE VALUE, log entry 7. -/
opaque wideBit : Word → BitVec 39 → Fin 39

/-- Whether a repair target that is asking or receiving answers a COPY_ACCEPT from a port it has not asked with ABANDON.
R131 has every accept 'with no re-entry record' so answered; R151 has a repair target ignore that one. FREE VALUE, log entry
22. -/
opaque strayAcceptAnswered : Bool

/-- Whether an ISOLATED part offers the DIGEST frame of n at a CYCLE_MARK(n), as a function of L and n. R62 has such a part
'go on sending' its digests 'in DIGEST frames'; R98 and R124 have the mark answer NOT_NOW and no frame sent. FREE VALUE, log
entry 57. -/
opaque isolatedDigest : Option Word → Word → Bool

end Sys2Proof.Config
end

