-- ==== Sys2Proof/Machine/State.lean ====
section
/-! DEFINITION. The state of the part as plain data, block by block (Table 0.1), the reasons a step can
stop, and the state right after power-on reset. -/

namespace Sys2Proof.Machine

/-! ### Names -/

/-- The channel modes (Table 8.1). -/
inductive Mode where
  | start | load | loaded | clearing | sync | run | repair | isolated | reentry | verify | ready
deriving DecidableEq, Repr

/-- The isolation causes (Table 8.3), with NONE as POR leaves it (R117). -/
inductive Cause where
  | none | commanded | cycleLate | voteDissent | split | noMajority | tableMismatch | noVoter
  | syncTimeout | vitalDamage | repairOverflow | digestDrift | overrun | noSource | sourceLost
  | mirrorMismatch | repairFailed | protocol
deriving DecidableEq, Repr

/-- The class of a region (Table 1.1). -/
inductive RegionClass where
  | vital | constant | nonvital
deriving DecidableEq, Repr

/-- The service role an IDLE frame announces (R91). -/
inductive Role where
  | none | source | target | repairSource | repairTarget
deriving DecidableEq, Repr

/-- The 24 event flags in the order of Table 11.1. -/
inductive Event where
  | memCorrected | memUncorrectable | accessRefused | rowWeak | rowSubstituted | moveFailed
  | sparesExhausted | rowTableFull | scrubLate | digestDrift | voteFailed | partnerDissent
  | partnerLost | linkADown | linkBDown | linkFault | cycleLate | modeChanged | isolated
  | serviceStarted | serviceEnded | repairDone | joinReady | joinMissed
deriving DecidableEq, Repr

/-- The 16 counters in the order of Table 11.4. -/
inductive Counter where
  | corrected | uncorrectable | refused | scrubPasses | scrubLate | rowTableOverflow | crcBadA
  | crcBadB | rxOverrunA | rxOverrunB | txDrop | wrongSender | staleDigest | forwardsDiscarded
  | resends | marksSkipped
deriving DecidableEq, Repr

/-- The capture classes (Table 11.2). -/
inductive CaptureClass where
  | memory | access | vote | link
deriving DecidableEq, Repr

/-- The requester a capture names (section 13.1). -/
inductive Requester where
  | p | s | m | xSource | xTarget | linkA | linkB
deriving DecidableEq, Repr

/-- The detail codes of a MEMORY capture (Table 2.4). -/
inductive MemoryDetail where
  | read | oldValue | merge | moveCopy
deriving DecidableEq, Repr

/-- The detail codes of a refused access (Table 1.5), in the order of Table 11.2. -/
inductive AccessDetail where
  | misaligned | partialBurstMask | apertureUnused | apertureCrossing | aperturePartial | noRegion
  | regionCrossing | modeClass | repairBlock
deriving DecidableEq, Repr

/-- The detail codes of a LINK capture (Table 11.2) other than RX_OVERRUN. -/
inductive LinkDetail where
  | crc | wrongSender | malformed | silence | badRun
deriving DecidableEq, Repr

/-- The outcome of a cycle (Table 7.2). -/
inductive VoteOutcome where
  | agree | partnerDissent | unchecked | localDissent | split | noMajority | abandoned
deriving DecidableEq, Repr

/-- The result of one region in a decision (Table 7.4). -/
inductive RegionResult where
  | agree | partnerDissent (p : Port) | unchecked | localDissent | split | noMajority
deriving DecidableEq, Repr

/-- A capture's detail code, with the region index or frame kind where Table 11.2 gives one. -/
inductive Detail where
  | memory (d : MemoryDetail)
  | access (d : AccessDetail)
  | vote (o : VoteOutcome) (index : Nat)
  | link (d : LinkDetail)
  | rxOverrun (kind : Nat)
deriving DecidableEq, Repr

/-! ### TXI and RGT (chapter 1) -/

/-- A region entry that is valid (Table 1.1); an empty entry is an absent one. `base` is a byte address,
`length` a number of blocks. -/
structure Region where
  cls : RegionClass
  scrub : Bool
  base : Nat
  length : Nat
deriving DecidableEq, Repr

/-- The response status of a transaction (R15, R18, R19). -/
inductive ResponseStatus where
  | okay | corrected | fault | refused
deriving DecidableEq, Repr

/-- The answer returned to the processor: one status and the data words of a read. -/
structure Response where
  status : ResponseStatus
  data : List Word
deriving DecidableEq, Repr

/-- The admitted memory transaction TXI is holding (R9, R17): what is left of a write or how many
words are left of a read, the address of the next word, and the answer so far. -/
structure Held where
  region : Fin 32
  cls : RegionClass
  next : Nat
  reads : Nat
  writes : List (Word × BitVec 4)
  status : ResponseStatus
  data : List Word
deriving DecidableEq, Repr

/-- An access that the processor presents (R9): a transaction, or in the form that the table's rows give one a word of
the aperture (R172) and a management command with its parameter words (R173, log entry 5). -/
inductive Access where
  | transaction (t : Transaction)
  | word (index : Fin 16) (value : Word)
  | command (code : Word) (params : List Word)
deriving DecidableEq, Repr

/-- TXI: the transaction held, the accesses presented meanwhile, for which the bus waits, first in first out (R9, log
entry 4), and the answers given: the latest, and those that the same step gave before it (the part's output, log entry
39). -/
structure Txi where
  held : Option Held
  waiting : List Access := []
  response : Option Response
  earlier : List Response := []
deriving DecidableEq, Repr

/-- RGT: the 32 entries and the table-closed flag (R3). -/
structure Rgt where
  table : Vector (Option Region) 32
  closed : Bool
deriving DecidableEq, Repr

/-! ### MSQ (chapter 2) -/

/-- A stored word of memory (R22): the data whose code word was last written and which of the 39
stored bits have gone wrong since (log entry 6). -/
structure Stored where
  data : Word
  flips : BitVec 39
deriving DecidableEq, Repr

/-- One listed word of memory: its physical location (row × 256 + word index) and what it stores. -/
abbrev MemoryCell := Nat × Stored

/-- A word operation that a requester presents (Table 2.2). Addresses are logical byte addresses. -/
inductive WordOp where
  | pRead (addr : Nat)
  | pWrite (addr : Nat) (value : Word)
  | pPartial (addr : Nat) (value : Word) (mask : BitVec 4)
  | copyRead (addr : Nat)
  | frameWrite (port : Port) (addr : Nat) (value : Word)
  | restoringWrite (port : Port) (addr : Nat) (value : Word)
  | moveCopy (addr : Nat)
  | scrubRead (region : Fin 32) (word : Nat) (addr : Nat)
  | auditRead (region : Fin 32) (word : Nat) (addr : Nat)
  | clearWrite (region : Fin 32) (word : Nat) (addr : Nat)
deriving DecidableEq, Repr

/-- The region of a word, with its class and the word index in it. -/
structure WordPlace where
  region : Fin 32
  cls : RegionClass
  word : Nat
deriving DecidableEq, Repr

/-- A locked group in flight, with what its grant fixed (R24, R36): the physical row and word it
reaches, the spare row written beside it (R28; the target of a row-move copy), the region of the word,
whether a write is digest-updating (R25), whether its slots count toward the yield count (R34),
whether it carries an audit word (R32), and whether its owner still waits for its outcome (log entry 12). -/
structure Group where
  op : WordOp
  row : Nat
  word : Nat
  mirror : Option Nat
  place : Option WordPlace
  updating : Bool
  counted : Bool
  audit : Bool
  live : Bool
deriving DecidableEq, Repr

/-- MSQ: the group in flight, the yield count (R34) and the two credits (R35). -/
structure Msq where
  port : Option Group
  yieldCount : Nat
  scrubCredit : Nat
  sourceCredit : Nat
deriving DecidableEq, Repr

/-! ### RET and SRM (chapter 3) -/

/-- The states of a row error table entry (Table 3.2). -/
inductive RowState where
  | tracking | weak | moving | replaced | moveFailed
deriving DecidableEq, Repr

/-- A row error table entry (Table 3.1). -/
structure RowEntry where
  row : Nat
  state : RowState
  count : Nat
  touched : Bool
  last : Nat
  firstSeen : Word
deriving DecidableEq, Repr

/-- RET: the entries, oldest first (R37), the ageing time (R40), and whether the latest ms tick found a
sweep due (log entry 14). -/
structure Ret where
  entries : List RowEntry
  ageing : Nat
  sweepDue : Bool
deriving DecidableEq, Repr

/-- A spare entry (Table 3.3), each state with the fields present in it. -/
inductive Spare where
  | free
  | moving (row pointer : Nat)
  | active (row : Nat) (time : Word)
  | retired (time : Word)
deriving DecidableEq, Repr

/-- SRM: the 16 spare entries, and the row of the entry chosen whose move starts when the group in flight ends (R46, log
entry 24). -/
structure Srm where
  spares : Vector Spare 16
  startWaiting : Option Nat
deriving DecidableEq, Repr

/-! ### DGU (chapter 4) -/

/-- A region digest record (Table 4.1): validity, D, audit RUNNING, A and p. -/
structure DigestRecord where
  valid : Bool
  digest : Nat
  running : Bool
  acc : Nat
  pointer : Nat
deriving DecidableEq, Repr

/-- DGU: 32 records and the table digest (R54). -/
structure Dgu where
  records : Vector DigestRecord 32
  tableDigest : Nat
deriving DecidableEq, Repr

/-! ### PTL (chapter 5) -/

/-- The walk in progress (Table 5.1). -/
inductive PassKind where
  | none | scrub | clear | verifyAudit | repairAudit
deriving DecidableEq, Repr

/-- A position of the walk: the next word to be presented. -/
structure Place where
  region : Fin 32
  word : Nat
deriving DecidableEq, Repr

/-- PTL (Table 5.1). `asked` holds the regions of a repair audit asked for while a scrub read is in
flight (R81, log entry 26), and `lateDue` says that the latest ms tick found the coverage timer at
its limit (log entry 14). The pending operation of Table 5.1 is computed (log entry 11). -/
structure Ptl where
  kind : PassKind
  place : Option Place
  riding : Bool
  suspended : Option (Option Place × Bool)
  auditList : List (Fin 32)
  asked : List (Fin 32)
  timer : Option Nat
  lateDue : Bool
deriving DecidableEq, Repr

/-! ### LKC (chapter 6) -/

/-- One entry of a DIGEST frame, and of a snapshot: region index, valid mark and digest. -/
structure DigestEntry where
  region : Nat
  valid : Bool
  digest : Nat
deriving DecidableEq, Repr

/-- The twelve frame kinds (Table 6.3) with the contents of Table 13.5. A mode is absent where it is
UNKNOWN; an ABANDON or COPY_REFUSE reason is the code received or sent. -/
inductive Frame where
  | idle (mode : Option Mode) (cycle : Option Word) (role : Role)
  | digest (cycle : Word) (mode : Option Mode) (tableDigest : Nat) (entries : List DigestEntry)
  | copyRequest (tableDigest : Nat)
  | copyAccept
  | copyRefuse (reason : Word)
  | segment (addr : Nat) (words : List Word)
  | forward (addr : Nat) (value : Word)
  | copyEnd
  | joined (cycle : Word)
  | abandon (reason : Word)
  | repairRequest (tableDigest : Nat) (block : Nat)
  | repairEnd (block : Nat)
deriving DecidableEq, Repr

/-- The memory writes left of a SEGMENT or FORWARD in work at a port (R94, R143, R155): whether they are
restoring writes, the first address of the frame, the next address, and the words not yet written. -/
structure FrameWork where
  restoring : Bool
  first : Nat
  next : Nat
  words : List Word
deriving DecidableEq, Repr

/-- The partner table entry of a port (Table 6.6); the link state is the port's own, and the
expected-voter flag is derived (R95). -/
structure Partner where
  mode : Option Mode
  cycle : Option Word
  role : Role
  absence : Nat
  lost : Bool
  suspect : Bool
deriving DecidableEq, Repr

/-- A link port (sections 6.3 to 6.6). `begun` says that a frame has begun sending since the latest ms
tick (R90), and `idleDue` that the latest tick called for an IDLE frame (log entry 17). -/
structure LinkPort where
  up : Bool
  goodRun : Nat
  badRun : Nat
  silence : Nat
  tx : List Frame
  sending : Option WireFrame
  begun : Bool
  idleDue : Bool
  rx : List Frame
  work : Option FrameWork
  partner : Partner
deriving DecidableEq, Repr

/-- LKC: the two ports. -/
structure Lkc where
  a : LinkPort
  b : LinkPort
deriving DecidableEq, Repr

/-! ### VTU (chapter 7) -/

/-- A local snapshot (R64). -/
structure Snapshot where
  entries : List DigestEntry
  tableDigest : Nat
deriving DecidableEq, Repr

/-- A partner's set in a vote record: the contents of its DIGEST frame (Table 7.2). -/
structure PartnerSet where
  mode : Option Mode
  tableDigest : Nat
  entries : List DigestEntry
deriving DecidableEq, Repr

/-- A vote record (Table 7.2). It is DECIDED when its outcome is present, OPEN otherwise; `results`
pairs a region index, or 32 for the table pseudo-region, with its result. -/
structure VoteRecord where
  cycle : Word
  snapshot : Option Snapshot
  expectA : Bool
  expectB : Bool
  deadline : Option Nat
  setA : Option PartnerSet
  setB : Option PartnerSet
  outcome : Option VoteOutcome
  results : List (Nat × RegionResult)
deriving DecidableEq, Repr

/-- VTU (Table 7.1). A stopped watchdog is an absent one. -/
structure Vtu where
  last : Option Word
  watchdog : Option Nat
  records : List VoteRecord
  unchecked : Nat
  syncCount : Nat
deriving DecidableEq, Repr

/-! ### MDC (chapter 8) -/

/-- MDC: the channel mode, the CHEN line and the isolation cause (R116 to R118). -/
structure Mdc where
  mode : Mode
  chen : Bool
  cause : Cause
deriving DecidableEq, Repr

/-! ### RSE (chapters 9 and 10) -/

/-- The kind of a service (Table 9.1). -/
inductive ServiceKind where
  | reentry | repair
deriving DecidableEq, Repr

/-- How far a block has been sent (R133). -/
inductive BlockState where
  | unsent | sending | sent
deriving DecidableEq, Repr

/-- The segment buffer: the block being sent, the segment, and the words read so far; the read pointer is
their number. -/
structure SegmentBuffer where
  block : Nat
  seg : Nat
  words : List Word
deriving DecidableEq, Repr

/-- The service record (Table 9.1). `walk` is the number of blocks of the map the main walk has passed;
`endQueued` says that the COPY_END of the present completion has been queued (R140, log entry 21). -/
structure Service where
  kind : ServiceKind
  port : Port
  map : List (Nat × BlockState)
  walk : Nat
  buffer : Option SegmentBuffer
  queue : List Frame
  resend : List Nat
  endQueued : Bool
deriving DecidableEq, Repr

/-- The phase of a re-entry (Table 9.2). -/
inductive ReentryPhase where
  | asking | receiving
deriving DecidableEq, Repr

/-- The re-entry record (Table 9.2). -/
structure Reentry where
  phase : ReentryPhase
  asked : Port
  triedA : Bool
  triedB : Bool
  time : Nat
  copyEnd : Bool
  auditsDone : Bool
  source : Option Word
  join : Option Word
deriving DecidableEq, Repr

/-- The phase of a repair (Table 10.1). -/
inductive RepairPhase where
  | asking | receiving | auditing
deriving DecidableEq, Repr

/-- The repair record (Table 10.1). `written` and `repaired` are sets kept without repeats. -/
structure Repair where
  phase : RepairPhase
  asked : Port
  triedA : Bool
  triedB : Bool
  time : Nat
  written : List Nat
  repaired : List (Fin 32)
deriving DecidableEq, Repr

/-- RSE: the service given as source, the re-entry or repair received as target, the repair list. -/
structure Rse where
  service : Option Service
  reentry : Option Reentry
  repair : Option Repair
  repairList : List Nat
deriving DecidableEq, Repr

/-! ### EVU (chapter 11) -/

/-- The fields of a capture record that is present (R163). -/
structure CaptureFields where
  cycle : Option Word
  time : Word
  address : Option Nat
  requester : Requester
  detail : Detail
deriving DecidableEq, Repr

/-- A capture record with its repeat count (R163). -/
structure Capture where
  fields : Option CaptureFields
  repeats : Nat
deriving DecidableEq, Repr

/-- The states of a line in PULSE style (R169). -/
inductive PulseState where
  | quiet | pulsing | holding
deriving DecidableEq, Repr

/-- A notice line: its pulse state, its pending mark, and the pacing ticks since the pulse or gap it is in began (log
entry 18). -/
structure NoticeLine where
  state : PulseState
  pending : Bool
  ticks : Nat
deriving DecidableEq, Repr

/-- EVU: the flag set (bit i is the flag of index i), the captures, the counters by index, the two lines and
the ms time counter. -/
structure Evu where
  flags : BitVec 24
  memory : Capture
  access : Capture
  vote : Capture
  link : Capture
  counters : Vector Nat 16
  na : NoticeLine
  nb : NoticeLine
  msTime : Word
deriving DecidableEq, Repr

/-! ### CMI (chapter 12) -/

/-- LINE_STYLE values. -/
inductive LineStyle where
  | level | pulse
deriving DecidableEq, Repr

/-- ROUTE values. -/
inductive Route where
  | none | a | b | both
deriving DecidableEq, Repr

/-- CAPTURE_MODE values. -/
inductive CaptureMode where
  | first | last
deriving DecidableEq, Repr

/-- The thirteen settings (Table 12.5), ROUTE by flag index and CAPTURE_MODE by class code. -/
structure Settings where
  scrubRate : Nat
  coverLimit : Nat
  sourceRate : Nat
  cycleLimit : Nat
  voteDeadline : Nat
  syncLimit : Nat
  agePeriod : Nat
  weakLimit : Nat
  noticeGap : Nat
  styleA : LineStyle
  styleB : LineStyle
  route : Vector Route 24
  captureMode : Vector CaptureMode 4
deriving DecidableEq, Repr

/-- CMI: the sixteen aperture words and the settings (R172, R177). -/
structure Cmi where
  words : Vector Word 16
  settings : Settings
deriving DecidableEq, Repr

/-! ### The whole part -/

/-- The state: the straps as sampled at POR (R21, R83), the thirteen blocks, the channel memory as a list of
listed words in rising order of location, and the commands that wait, first in first out. -/
structure State where
  chanId : BitVec 2
  msize : BitVec 2
  txi : Txi
  rgt : Rgt
  msq : Msq
  ret : Ret
  srm : Srm
  dgu : Dgu
  ptl : Ptl
  lkc : Lkc
  vtu : Vtu
  mdc : Mdc
  rse : Rse
  evu : Evu
  cmi : Cmi
  mem : List MemoryCell
  pending : List Instr
deriving DecidableEq, Repr

/-- No step of the part stops with a fault: the spec answers every bad access with a response status and
every failure with an isolation, both of which are next states. Nothing raises one. -/
inductive Fault where
deriving DecidableEq, Repr

/-- Why a command has no meaning. -/
inductive Refusal where
  /-- Raised by an arm of exec for a row not modelled yet; no arm raises it now. Safe: the machine stops. -/
  | notModelled (mnemonic : String)
deriving DecidableEq, Repr

/-! ### The values after power-on reset -/

/-- A digest record after POR (R54). -/
def DigestRecord.initial : DigestRecord :=
  { valid := false, digest := 0, running := false, acc := 0, pointer := 0 }

/-- A partner entry after POR (R96). -/
def Partner.initial : Partner :=
  { mode := none, cycle := none, role := .none, absence := 0, lost := false, suspect := false }

/-- A link port after POR (R96). -/
def LinkPort.initial : LinkPort :=
  { up := false, goodRun := 0, badRun := 0, silence := 0, tx := [], sending := none, begun := false,
    idleDue := false, rx := [], work := none, partner := Partner.initial }

/-- PTL after POR and after RESTART (R66). -/
def Ptl.initial : Ptl :=
  { kind := .none, place := none, riding := false, suspended := none, auditList := [], asked := [],
    timer := none, lateDue := false }

/-- VTU after POR and after RESTART (R97). -/
def Vtu.initial : Vtu :=
  { last := none, watchdog := none, records := [], unchecked := 0, syncCount := 0 }

/-- RSE after POR and after RESTART (R127, R149). -/
def Rse.initial : Rse := { service := none, reentry := none, repair := none, repairList := [] }

/-- An empty capture record (R163). -/
def Capture.initial : Capture := { fields := none, repeats := 0 }

/-- A notice line after POR: QUIET with pending clear (R170). -/
def NoticeLine.initial : NoticeLine := { state := .quiet, pending := false, ticks := 0 }

/-- EVU after POR (R160, R163, R166, R170, R171). -/
def Evu.initial : Evu :=
  { flags := 0, memory := Capture.initial, access := Capture.initial, vote := Capture.initial,
    link := Capture.initial, counters := Vector.replicate 16 0, na := NoticeLine.initial,
    nb := NoticeLine.initial, msTime := 0 }

/-- The POR column of Table 12.5 (R177). -/
def Settings.initial : Settings :=
  { scrubRate := 4, coverLimit := 900, sourceRate := 16, cycleLimit := 500, voteDeadline := 40,
    syncLimit := 20, agePeriod := 30, weakLimit := 3, noticeGap := 5, styleA := .level,
    styleB := .level, route := Vector.replicate 24 .a, captureMode := Vector.replicate 4 .first }

/-- An empty region table, open (R3). -/
def Rgt.initial : Rgt := { table := Vector.replicate 32 none, closed := false }

/-- DGU after POR and after RESTART (R54, R63). -/
def Dgu.initial : Dgu := { records := Vector.replicate 32 DigestRecord.initial, tableDigest := 0 }

/-- The part right after a power-on reset that samples these straps; the waiting commands are the
model's own and are kept. Memory holds no defined contents (R21): nothing is listed. -/
def State.afterPor (chanId msize : BitVec 2) (pending : List Instr) : State :=
  { chanId, msize
    txi := { held := none, response := none }
    rgt := Rgt.initial
    msq := { port := none, yieldCount := 0, scrubCredit := 0, sourceCredit := 0 }
    ret := { entries := [], ageing := 0, sweepDue := false }
    srm := { spares := Vector.replicate 16 .free, startWaiting := none }
    dgu := Dgu.initial
    ptl := Ptl.initial
    lkc := { a := LinkPort.initial, b := LinkPort.initial }
    vtu := Vtu.initial
    mdc := { mode := .start, chen := false, cause := .none }
    rse := Rse.initial
    evu := Evu.initial
    cmi := { words := Vector.replicate 16 0, settings := Settings.initial }
    mem := []
    pending }

/-- The machine right after reset, strapped as channel 0 with 16 MiB (log entry 1), with no command waiting. -/
def State.reset : State := State.afterPor 0 0 []

end Sys2Proof.Machine
end

