-- ==== Sys2Proof/Machine/Operands.lean ====
section
/-! DEFINITION. Operand forms: bit fields of a word, the codes of section 13.1, the region entry image
(section 13.2), the two-word split of a 61-bit value, and the words a transaction names. -/

namespace Sys2Proof.Machine

/-! ### Bit fields -/

/-- The unsigned value of `width` bits of a word from bit `lo` on. -/
def bits (w : Word) (lo width : Nat) : Nat := (w.toNat / 2 ^ lo) % 2 ^ width

/-- One bit of a word. -/
def bit (w : Word) (i : Nat) : Bool := decide (bits w i 1 = 1)

/-- A number placed from bit `lo` on. -/
def at_ (lo n : Nat) : Nat := n * 2 ^ lo

/-- A bit placed at `lo`. -/
def flagAt (lo : Nat) (b : Bool) : Nat := if b then 2 ^ lo else 0

/-- The word of a number. -/
def word (n : Nat) : Word := BitVec.ofNat 32 n

/-- An absent value reads 0 (R181). -/
def wordOr (w : Option Word) : Word := w.getD 0

/-- The low word of a 61-bit value: bits 0 to 31 (opening of chapter 13). -/
def lowWord (n : Nat) : Word := word (n % 2 ^ 32)

/-- The high word of a 61-bit value: bits 32 to 60 in bits 0 to 28. -/
def highWord (n : Nat) : Word := word (n / 2 ^ 32 % 2 ^ 29)

/-- The 61-bit value of two words; bits 29 to 31 of the high word are not part of it. -/
def joinWords (low high : Word) : Nat := low.toNat + bits high 0 29 * 2 ^ 32

/-! ### Codes (section 13.1) -/

/-- Table 13.1. -/
def Mode.code : Mode → Nat
  | .start => 0 | .load => 1 | .loaded => 2 | .clearing => 3 | .sync => 4 | .run => 5
  | .repair => 6 | .isolated => 7 | .reentry => 8 | .verify => 9 | .ready => 10

/-- A mode field as received: 11 to 15 is UNKNOWN (R182). -/
def Mode.ofCode : Nat → Option Mode
  | 0 => some .start | 1 => some .load | 2 => some .loaded | 3 => some .clearing | 4 => some .sync
  | 5 => some .run | 6 => some .repair | 7 => some .isolated | 8 => some .reentry
  | 9 => some .verify | 10 => some .ready | _ => none

/-- A mode field as given: 15 for UNKNOWN (Table 13.4). -/
def modeField (m : Option Mode) : Nat := (m.map Mode.code).getD 15

/-- Table 13.2. -/
def Cause.code : Cause → Nat
  | .none => 0 | .commanded => 1 | .cycleLate => 2 | .voteDissent => 3 | .split => 4
  | .noMajority => 5 | .tableMismatch => 6 | .noVoter => 7 | .syncTimeout => 8
  | .vitalDamage => 9 | .repairOverflow => 10 | .digestDrift => 11 | .overrun => 12
  | .noSource => 13 | .sourceLost => 14 | .mirrorMismatch => 15 | .repairFailed => 16
  | .protocol => 17

/-- The ABANDON reason OVERFLOW (Table 13.2). -/
def overflowReason : Word := 18

/-- The ABANDON reason SERVICE_ENDED (Table 13.2). -/
def serviceEndedReason : Word := 19

/-- The ABANDON reason of an isolation: the code of its cause (R122). -/
def Cause.reason (c : Cause) : Word := word c.code

/-- Service roles. -/
def Role.code : Role → Nat
  | .none => 0 | .source => 1 | .target => 2 | .repairSource => 3 | .repairTarget => 4

/-- A role field as received: 5 to 7 is NONE (R182). -/
def Role.ofCode : Nat → Role
  | 1 => .source | 2 => .target | 3 => .repairSource | 4 => .repairTarget | _ => .none

/-- Ports. -/
def portCode : Port → Nat
  | .a => 0 | .b => 1

/-- Capture classes, as a parameter word names them. -/
def CaptureClass.ofCode : Nat → Option CaptureClass
  | 0 => some .memory | 1 => some .access | 2 => some .vote | 3 => some .link | _ => none

/-- Requesters. -/
def Requester.code : Requester → Nat
  | .p => 0 | .s => 1 | .m => 2 | .xSource => 3 | .xTarget => 4 | .linkA => 5 | .linkB => 6

/-- The outcomes, numbered from 1 in the order of Table 7.2. -/
def VoteOutcome.code : VoteOutcome → Nat
  | .agree => 1 | .partnerDissent => 2 | .unchecked => 3 | .localDissent => 4 | .split => 5
  | .noMajority => 6 | .abandoned => 7

/-- The region result codes of VOTE_READ part 1. -/
def RegionResult.code : RegionResult → Nat
  | .agree => 1 | .partnerDissent .a => 2 | .partnerDissent .b => 3 | .unchecked => 4
  | .localDissent => 5 | .split => 6 | .noMajority => 7

/-- Detail codes, numbered from 1 in the order Table 11.2 lists them for each class. -/
def Detail.code : Detail → Nat
  | .memory .read => 1 | .memory .oldValue => 2 | .memory .merge => 3 | .memory .moveCopy => 4
  | .access .misaligned => 1 | .access .partialBurstMask => 2 | .access .apertureUnused => 3
  | .access .apertureCrossing => 4 | .access .aperturePartial => 5 | .access .noRegion => 6
  | .access .regionCrossing => 7 | .access .modeClass => 8 | .access .repairBlock => 9
  | .vote .partnerDissent _ => 1 | .vote .localDissent _ => 2 | .vote .split _ => 3
  | .vote .noMajority _ => 4 | .vote .agree _ => 0 | .vote .unchecked _ => 0
  | .vote .abandoned _ => 0
  | .link .crc => 1 | .link .wrongSender => 2 | .link .malformed => 3 | .link .silence => 4
  | .link .badRun => 5 | .rxOverrun _ => 6

/-- The region index or frame kind that goes with a detail code (Table 11.2). -/
def Detail.extra : Detail → Nat
  | .vote _ i => i
  | .rxOverrun k => k
  | _ => 0

/-- The index of an event flag (Table 11.1). -/
def Event.index : Event → Nat
  | .memCorrected => 0 | .memUncorrectable => 1 | .accessRefused => 2 | .rowWeak => 3
  | .rowSubstituted => 4 | .moveFailed => 5 | .sparesExhausted => 6 | .rowTableFull => 7
  | .scrubLate => 8 | .digestDrift => 9 | .voteFailed => 10 | .partnerDissent => 11
  | .partnerLost => 12 | .linkADown => 13 | .linkBDown => 14 | .linkFault => 15 | .cycleLate => 16
  | .modeChanged => 17 | .isolated => 18 | .serviceStarted => 19 | .serviceEnded => 20
  | .repairDone => 21 | .joinReady => 22 | .joinMissed => 23

/-- The index of a counter (Table 11.4). -/
def Counter.index : Counter → Fin 16
  | .corrected => 0 | .uncorrectable => 1 | .refused => 2 | .scrubPasses => 3 | .scrubLate => 4
  | .rowTableOverflow => 5 | .crcBadA => 6 | .crcBadB => 7 | .rxOverrunA => 8 | .rxOverrunB => 9
  | .txDrop => 10 | .wrongSender => 11 | .staleDigest => 12 | .forwardsDiscarded => 13
  | .resends => 14 | .marksSkipped => 15

/-- The pass kinds of STATUS page 0 (Table 13.4). -/
def PassKind.code : PassKind → Nat
  | .none => 0 | .scrub => 1 | .clear => 2 | .verifyAudit => 3 | .repairAudit => 4

/-- The states of ROW_TABLE_READ (Table 13.4). -/
def RowState.code : RowState → Nat
  | .tracking => 0 | .weak => 1 | .moving => 2 | .replaced => 3 | .moveFailed => 4

/-! ### The region entry image (Table 13.3) -/

/-- The class field; 3 names no class. -/
def RegionClass.ofCode : Nat → Option RegionClass
  | 0 => some .vital | 1 => some .constant | 2 => some .nonvital | _ => none

/-- The class field as stored. -/
def RegionClass.code : RegionClass → Nat
  | .vital => 0 | .constant => 1 | .nonvital => 2

/-- Word 0 of an entry's image; an empty entry is zero words (R1). -/
def imageWord0 : Option Region → Word
  | none => 0
  | some r => word (1 + at_ 4 r.cls.code + flagAt 8 r.scrub)

/-- Word 1 of an entry's image. -/
def imageWord1 : Option Region → Word
  | none => 0
  | some r => word r.base

/-- Word 2 of an entry's image. -/
def imageWord2 : Option Region → Word
  | none => 0
  | some r => word r.length

/-- What an entry image says (R5): an empty entry whatever its other fields, a region, or a valid entry
whose class field names no class. Bits outside the fields are ignored (R181). -/
inductive ParsedEntry where
  | empty
  | region (r : Region)
  | noClass
deriving DecidableEq, Repr

/-- Reading an entry image (Table 13.3, R5, R181). -/
def parseEntry (w0 w1 w2 : Word) : ParsedEntry :=
  if bit w0 0 then
    match RegionClass.ofCode (bits w0 4 2) with
    | some cls => .region { cls, scrub := bit w0 8, base := bits w1 0 28, length := bits w2 0 16 }
    | none => .noClass
  else .empty

/-! ### Transactions (R9) -/

/-- The first address of a transaction. -/
def txnAddress : Transaction → Nat
  | .read a _ => a.toNat
  | .write a _ => a.toNat

/-- The number of words of a transaction. -/
def txnLength : Transaction → Nat
  | .read _ n => n
  | .write _ ws => ws.length

/-- Whether a transaction is a write. -/
def txnWrites : Transaction → Bool
  | .read _ _ => false
  | .write _ _ => true

/-- A mask that selects all four bytes. -/
def fullMask : BitVec 4 := 15

/-- A mask that selects no byte. -/
def emptyMask : BitVec 4 := 0

/-- A write of two or more words has every byte mask full (check 2 of R12). -/
def burstMasksFull : Transaction → Bool
  | .read _ _ => true
  | .write _ ws => ws.length ≤ 1 || ws.all (fun w => w.2 == fullMask)

/-- A single-word write's mask is full or empty (check 5 of R12). -/
def singleMaskWhole : Transaction → Bool
  | .write _ [w] => w.2 == fullMask || w.2 == emptyMask
  | _ => true

/-- A single-word write whose mask selects no byte (R11, R17). -/
def writesNothing : Transaction → Bool
  | .write _ [w] => w.2 == emptyMask
  | _ => false

/-- The bytes of `new` that the mask selects over those of `old` (R9, R26): bit k of the mask selects
bits 8k to 8k + 7. -/
def mergeBytes (old new : Word) (mask : BitVec 4) : Word :=
  let m : Word :=
    (if mask.getLsbD 0 then 0x000000FF else 0) ||| (if mask.getLsbD 1 then 0x0000FF00 else 0) |||
      (if mask.getLsbD 2 then 0x00FF0000 else 0) ||| (if mask.getLsbD 3 then 0xFF000000 else 0)
  (new &&& m) ||| (old &&& ~~~m)

/-! ### Blocks and segments (R133) -/

/-- The first address of the block an address lies in. -/
def blockOf (addr : Nat) : Nat := addr / Config.blockBytes * Config.blockBytes

/-- The segment of an address within its block. -/
def segmentOf (addr : Nat) : Nat := addr % Config.blockBytes / 256

/-- The word of an address within its segment. -/
def wordOfSegment (addr : Nat) : Nat := addr % 256 / 4

end Sys2Proof.Machine
end

