-- ==== Sys2Proof/Machine/Flags.lean ====
section
/-! DEFINITION. The event unit (EVU, chapter 11): event flags, counters, capture records and the notice
lines. -/

namespace Sys2Proof.Machine

/-! ### Routing (R168) -/

/-- Whether a ROUTE value names a line. -/
def Route.names : Route → NoticeName → Bool
  | .a, .na => true
  | .b, .nb => true
  | .both, _ => true
  | _, _ => false

/-- Whether the flag of an index is routed to a line. -/
def Settings.routed (c : Settings) (i : Nat) (l : NoticeName) : Bool :=
  ((c.route[i]?).getD .none).names l

/-- The style of a line. -/
def Settings.style (c : Settings) : NoticeName → LineStyle
  | .na => c.styleA
  | .nb => c.styleB

/-- Whether at least one flag of a set is routed to a line. -/
def anyRouted (c : Settings) (flags : BitVec 24) (l : NoticeName) : Bool :=
  (List.range 24).any (fun i => flags.getLsbD i && c.routed i l)

/-- The state of a line. -/
def Evu.line (e : Evu) : NoticeName → NoticeLine
  | .na => e.na
  | .nb => e.nb

/-- Set the state of a line. -/
def Evu.setLine (e : Evu) (l : NoticeName) (n : NoticeLine) : Evu :=
  match l with
  | .na => { e with na := n }
  | .nb => { e with nb := n }

/-- Whether a line is asserted: in LEVEL style exactly while a flag routed to it is set (R168), in PULSE style
while it is PULSING (R169). -/
def State.asserted (s : State) (l : NoticeName) : Bool :=
  match s.cmi.settings.style l with
  | .level => anyRouted s.cmi.settings s.evu.flags l
  | .pulse => (s.evu.line l).state == .pulsing

/-! ### A line in PULSE style (Table 11.5) -/

/-- The pacing ticks of a number of ms: the tick comes every 10 µs (R35). -/
def ticksOf (ms : Nat) : Nat := ms * 100

/-- The pacing ticks of a pulse: 20 µs (R169). -/
def pulseTicks : Nat := 2

/-- The 20 µs of a pulse have passed (log entry 18). -/
def NoticeLine.pulseOver (n : NoticeLine) : Bool := n.state == .pulsing && decide (pulseTicks ≤ n.ticks)

/-- The gap has reached a number of ms (R169, log entry 18). -/
def NoticeLine.gapOver (n : NoticeLine) (gap : Nat) : Bool :=
  n.state == .holding && decide (ticksOf gap ≤ n.ticks)

/-- A rise: a pulse starts in QUIET, and is left pending otherwise. -/
def NoticeLine.rise (n : NoticeLine) : NoticeLine :=
  match n.state with
  | .quiet => { n with state := .pulsing, ticks := 0 }
  | _ => { n with pending := true }

/-- The gap reaches NOTICE_GAP: a pending pulse starts where a routed flag is set; the line is QUIET otherwise. -/
def NoticeLine.gapEnd (n : NoticeLine) (routedSet : Bool) : NoticeLine :=
  if n.pending && routedSet then { state := .pulsing, pending := false, ticks := 0 }
  else { state := .quiet, pending := false, ticks := 0 }

/-- A pulse ends: HOLDING with the gap starting now; with NOTICE_GAP 0 the gap ends as soon as it starts. -/
def NoticeLine.pulseEnd (n : NoticeLine) (gap : Nat) (routedSet : Bool) : NoticeLine :=
  let held := { n with state := .holding, ticks := 0 }
  if gap = 0 then held.gapEnd routedSet else held

/-- A clear or a ROUTE write that leaves no set flag routed to a PULSING line ends its pulse early. -/
def Evu.earlyEnd (e : Evu) (c : Settings) (l : NoticeName) : Evu :=
  if c.style l = .pulse && (e.line l).state = .pulsing && !anyRouted c e.flags l then
    e.setLine l ((e.line l).pulseEnd c.noticeGap false)
  else e

/-- The same for both lines. -/
def Evu.earlyEnds (e : Evu) (c : Settings) : Evu := (e.earlyEnd c .na).earlyEnd c .nb

/-- The rise of a flag at a line: only a line in PULSE style to which it is routed takes it. -/
def Evu.riseAt (e : Evu) (c : Settings) (i : Nat) (l : NoticeName) : Evu :=
  if c.style l = .pulse && c.routed i l then e.setLine l (e.line l).rise else e

/-! ### Flags and counters (R160, R166) -/

/-- The bit of a flag in the flag set. -/
def flagBit (i : Nat) : BitVec 24 := BitVec.ofNat 24 (2 ^ i)

/-- EVU takes an event report: the flag is set, and the change from clear to set is a rise at the lines. -/
def Evu.report (e : Evu) (c : Settings) (i : Nat) : Evu :=
  if e.flags.getLsbD i then e
  else (({ e with flags := e.flags ||| flagBit i }).riseAt c i .na).riseAt c i .nb

/-- A block fires an event (R160). -/
def State.fire (s : State) (ev : Event) : State :=
  { s with evu := s.evu.report s.cmi.settings ev.index }

/-- A counter report: 1 more, up to 65535 (R166). -/
def Evu.increment (e : Evu) (i : Fin 16) : Evu :=
  if e.counters[i] < Config.counterTop then { e with counters := e.counters.set i (e.counters[i] + 1) }
  else e

/-- A block increments a counter. -/
def State.count (s : State) (c : Counter) : State := { s with evu := s.evu.increment c.index }

/-! ### Captures (R163) -/

/-- The record of a class. -/
def Evu.capture (e : Evu) : CaptureClass → Capture
  | .memory => e.memory
  | .access => e.access
  | .vote => e.vote
  | .link => e.link

/-- Set the record of a class. -/
def Evu.setCapture (e : Evu) (k : CaptureClass) (c : Capture) : Evu :=
  match k with
  | .memory => { e with memory := c }
  | .access => { e with access := c }
  | .vote => { e with vote := c }
  | .link => { e with link := c }

/-- The index of a class among the CAPTURE_MODE settings: its code (section 13.1). -/
def CaptureClass.index : CaptureClass → Fin 4
  | .memory => 0 | .access => 1 | .vote => 2 | .link => 3

/-- The effect of an offer (Table 11.3): an empty record is filled, a present one is kept in FIRST mode and
replaced in LAST mode, and the repeat count rises by 1 up to 255. -/
def Capture.offered (c : Capture) (m : CaptureMode) (f : CaptureFields) : Capture :=
  { fields := if c.fields.isSome && m = .first then c.fields else some f
    repeats := if c.repeats < Config.repeatTop then c.repeats + 1 else c.repeats }

/-- A block offers a capture; it is stamped with L and the ms time (R163). -/
def State.offerCapture (s : State) (k : CaptureClass) (requester : Requester) (address : Option Nat)
    (detail : Detail) : State :=
  { s with
    evu := s.evu.setCapture k
      ((s.evu.capture k).offered s.cmi.settings.captureMode[k.index]
        { cycle := s.vtu.last, time := s.evu.msTime, address, requester, detail }) }

end Sys2Proof.Machine
end

