-- ==== Sys2Proof/Machine/Frames.lean ====
section
/-! DEFINITION. Frames on the wire (R84, R85, R182, section 13.4): the CRC, building a frame and reading
one. -/

namespace Sys2Proof.Machine

/-! ### The CRC (R84) -/

/-- One bit into the CRC register: exclusive-or with its top bit, shift left, 1021h where that gave 1. -/
def crcBit (c : BitVec 16) (b : Bool) : BitVec 16 :=
  if c.msb != b then (c <<< 1) ^^^ 0x1021 else c <<< 1

/-- One word into the CRC register, most significant bit first. -/
def crcWord (c : BitVec 16) (w : Word) : BitVec 16 :=
  (List.range 32).foldl (fun c i => crcBit c (w.getLsbD (31 - i))) c

/-- The CRC over the header and the payload words in order, from FFFFh. -/
def crcOf (header : Word) (payload : List Word) : BitVec 16 :=
  payload.foldl crcWord (crcWord 0xFFFF header)

/-! ### Kinds and payloads (Tables 6.3 and 13.5) -/

/-- The kind code, 0 to 11 in the order of Table 6.3. -/
def Frame.kind : Frame → Nat
  | .idle .. => 0 | .digest .. => 1 | .copyRequest .. => 2 | .copyAccept => 3 | .copyRefuse .. => 4
  | .segment .. => 5 | .forward .. => 6 | .copyEnd => 7 | .joined .. => 8 | .abandon .. => 9
  | .repairRequest .. => 10 | .repairEnd .. => 11

/-- The region mask of a DIGEST frame: bit j for an entry of region j. -/
def regionMask (entries : List DigestEntry) : Word :=
  word (entries.foldl (fun n e => n + 2 ^ e.region) 0)

/-- The two words of a DIGEST entry: digest bits, and the valid mark in bit 31 of the high word. -/
def entryWords (e : DigestEntry) : List Word :=
  [lowWord e.digest, highWord e.digest ||| word (flagAt 31 e.valid)]

/-- The payload words of a frame (Table 13.5). -/
def Frame.payload : Frame → List Word
  | .idle _ cycle role => [wordOr cycle, word (flagAt 0 cycle.isSome + at_ 4 role.code)]
  | .digest cycle _ td entries =>
      [cycle, lowWord td, highWord td, regionMask entries] ++ entries.flatMap entryWords
  | .copyRequest td => [lowWord td, highWord td]
  | .copyAccept => []
  | .copyRefuse reason => [reason]
  | .segment addr words => word addr :: words
  | .forward addr value => [word addr, value]
  | .copyEnd => []
  | .joined n => [n]
  | .abandon reason => [reason]
  | .repairRequest td block => [lowWord td, highWord td, word block]
  | .repairEnd block => [word block]

/-- The sender mode an IDLE or DIGEST header carries; the other kinds carry none. -/
def Frame.headerMode : Frame → Nat
  | .idle m _ _ => modeField m
  | .digest _ m _ _ => modeField m
  | _ => 0

/-- The header word (section 13.4): sender channel, kind, payload length, sender mode. -/
def Frame.header (f : Frame) (sender : Nat) : Word :=
  word (sender + at_ 4 f.kind + at_ 8 f.payload.length + at_ 16 f.headerMode)

/-- A frame as LKC builds it for the wire (R182). -/
def Frame.wire (f : Frame) (sender : Nat) : WireFrame :=
  { header := f.header sender, payload := f.payload, crc := crcOf (f.header sender) f.payload }

/-! ### Reading a frame (R85, R182) -/

/-- An address word: bits 28 to 31 are ignored. -/
def addressOf (w : Word) : Nat := bits w 0 28

/-- The entries of a DIGEST payload after its mask: one pair of words for each bit set, in ascending
index order; nothing where the words do not pair off with the bits. -/
def readEntries : List Nat → List Word → Option (List DigestEntry)
  | [], [] => some []
  | j :: js, lo :: hi :: ws =>
      (readEntries js ws).map
        ({ region := j, valid := bit hi 31, digest := joinWords lo hi } :: ·)
  | _, _ => none

/-- The indices of the bits set in a region mask. -/
def maskIndices (mask : Word) : List Nat := (List.range 32).filter (bit mask)

/-- The frame of a header and payload, or nothing where the kind is not one of the twelve or the
length is not the one its kind and contents require (check 3 of R85). -/
def parseFrame (header : Word) (payload : List Word) : Option Frame :=
  let mode := Mode.ofCode (bits header 16 4)
  if bits header 8 7 = payload.length then
    match bits header 4 4, payload with
    | 0, [cycle, w] =>
        some (.idle mode (if bit w 0 then some cycle else none) (Role.ofCode (bits w 4 3)))
    | 1, cycle :: lo :: hi :: mask :: ws =>
        (readEntries (maskIndices mask) ws).map (.digest cycle mode (joinWords lo hi) ·)
    | 2, [lo, hi] => some (.copyRequest (joinWords lo hi))
    | 3, [] => some .copyAccept
    | 4, [reason] => some (.copyRefuse reason)
    | 5, addr :: ws => if ws.length = 64 then some (.segment (addressOf addr) ws) else none
    | 6, [addr, value] => some (.forward (addressOf addr) value)
    | 7, [] => some .copyEnd
    | 8, [n] => some (.joined n)
    | 9, [reason] => some (.abandon reason)
    | 10, [lo, hi, block] => some (.repairRequest (joinWords lo hi) (addressOf block))
    | 11, [block] => some (.repairEnd (addressOf block))
    | _, _ => none
  else none

/-- The sender channel of a header. -/
def senderOf (header : Word) : Nat := bits header 0 2

/-- Whether the CRC received equals the CRC formed over the frame (check 1 of R85). -/
def crcGood (f : WireFrame) : Bool := f.crc == crcOf f.header f.payload

end Sys2Proof.Machine
end

