-- ==== Sys2Proof/Machine/Links.lean ====
section
/-! DEFINITION. The link controller (LKC, chapter 6) as the other blocks use it: ports and partners,
offering a frame, the partner table, and taking a frame from a receive queue. -/

namespace Sys2Proof.Machine

/-! ### Ports (R83) -/

/-- A port. -/
def State.link (s : State) : Port → LinkPort
  | .a => s.lkc.a
  | .b => s.lkc.b

/-- Set a port. -/
def State.setLink (s : State) (p : Port) (x : LinkPort) : State :=
  match p with
  | .a => { s with lkc := { s.lkc with a := x } }
  | .b => { s with lkc := { s.lkc with b := x } }

/-- The CHAN_ID straps read 3: the part has no identity (R83). -/
def State.noIdentity (s : State) : Bool := s.chanId == 3

/-- The identity of the channel a port leads to (R83). -/
def State.partnerId (s : State) : Port → Nat
  | .a => (s.chanId.toNat + 1) % 3
  | .b => (s.chanId.toNat + 2) % 3

/-- The two ports, the one with the lower partner identity first. -/
def State.portsByIdentity (s : State) : List Port :=
  if s.partnerId .a ≤ s.partnerId .b then [.a, .b] else [.b, .a]

/-- The requester a LINK or VOTE capture names. -/
def linkRequester : Port → Requester
  | .a => .linkA
  | .b => .linkB

/-! ### The partner table (R95) -/

/-- Set a port's partner entry. -/
def State.setPartner (s : State) (p : Port) (x : Partner) : State :=
  s.setLink p { s.link p with partner := x }

/-- The expected-voter flag, derived whenever it is read (R95). -/
def State.expectedVoter (s : State) (p : Port) : Bool :=
  let l := s.link p
  l.up && !l.partner.lost &&
    (l.partner.mode == some .run || (s.mdc.mode == .sync && l.partner.mode == some .sync))

/-- An eligible source of a re-entry (R129). -/
def State.eligibleSource (s : State) (p : Port) : Bool :=
  let l := s.link p
  l.up && l.partner.mode == some .run && l.partner.role == .none

/-- The service role that IDLE frames announce (R91, R128, R149). -/
def State.role (s : State) : Role :=
  match s.rse.service with
  | some v => match v.kind with
    | .reentry => .source
    | .repair => .repairSource
  | none =>
    if s.rse.reentry.isSome then .target
    else if s.rse.repair.isSome then .repairTarget
    else .none

/-! ### Offering a frame (R92) -/

/-- What the offering block is told. -/
inductive Offer where
  | queued | refused | dropped
deriving DecidableEq, Repr

/-- What becomes of a frame other than a service-queue entry that is offered on a port (Table 6.5). -/
def State.offerResult (s : State) (p : Port) : Offer :=
  if !(s.link p).up then .refused
  else if (s.link p).tx.length < Config.txQueueSize then .queued
  else .dropped

/-- Offering such a frame: it enters at the tail, is refused on a DOWN port, or is dropped and counted
TX_DROP. -/
def State.offerFrame (s : State) (p : Port) (f : Frame) : State :=
  match s.offerResult p with
  | .queued => s.setLink p { s.link p with tx := (s.link p).tx ++ [f] }
  | .refused => s
  | .dropped => s.count .txDrop

/-! ### Taking a frame (R94) -/

/-- The frame a port takes next: the head of its receive queue while no frame is in work. -/
def State.frontFrame (s : State) (p : Port) : Option Frame :=
  if (s.link p).work.isSome then none else (s.link p).rx.head?

/-- The frame leaves the queue as its work begins. -/
def State.dropFront (s : State) (p : Port) : State :=
  s.setLink p { s.link p with rx := (s.link p).rx.tail }

/-- The writes of a frame in work are given up at both ports (R127, R143, R155). The frame's work ends with that, and the port
may take its next frame while a write already granted is still performed (log entry 71). -/
def State.dropWork (s : State) : State :=
  { s with lkc := { a := { s.lkc.a with work := none }, b := { s.lkc.b with work := none } } }

end Sys2Proof.Machine
end

