-- ==== Sys2Proof/Machine/Regions.lean ====
section
/-! DEFINITION. The region table (RGT): lookup, the sets of regions the other blocks walk, the usable
limit and validation (R1, R2, R6, R20, R21). -/

namespace Sys2Proof.Machine

/-! ### The memory size (R21) -/

/-- The number of physical rows R: 01 is 32 MiB, 10 is 64 MiB, 00 and 11 are 16 MiB. -/
def State.rows (s : State) : Nat :=
  if s.msize = 1 then 32768 else if s.msize = 2 then 65536 else 16384

/-- The physical row of a spare (R21). -/
def State.spareRow (s : State) (i : Nat) : Nat := s.rows - 16 + i

/-- The usable limit: the memory size less 16 KiB (R6). -/
def State.usableLimit (s : State) : Nat := (s.rows - 16) * 1024

/-! ### Entries and lookup (R1, R2) -/

/-- The entry at an index. -/
def State.region (s : State) (i : Fin 32) : Option Region := s.rgt.table[i]

/-- The first address past a region (R1). -/
def Region.finish (r : Region) : Nat := r.base + r.length * Config.blockBytes

/-- The number of words of a region (R1). -/
def Region.words (r : Region) : Nat := r.length * Config.blockWords

/-- Whether a region's range contains an address. -/
def Region.contains (r : Region) (addr : Nat) : Bool := decide (r.base ≤ addr ∧ addr < r.finish)

/-- VITAL and CONSTANT regions are the digest regions (R1). -/
def Region.isDigest (r : Region) : Bool := r.cls != .nonvital

/-- All indices, ascending. -/
def allRegions : List (Fin 32) := List.finRange 32

/-- The region an address belongs to (R2): the entry of the lowest index that contains it, where entries of an open
table overlap (log entry 56). An entry of an open table contains its addresses above the usable limit too, where R10 has
them belong to no region; the model follows R2 there (log entry 67). -/
def State.findRegion (s : State) (addr : Nat) : Option (Fin 32) :=
  allRegions.find? (fun i => (s.region i).any (·.contains addr))

/-- The region of an address with its class and the word index in it. -/
def State.placeOf (s : State) (addr : Nat) : Option WordPlace :=
  match s.findRegion addr with
  | none => none
  | some i => (s.region i).map (fun r => { region := i, cls := r.cls, word := (addr - r.base) / 4 })

/-- The number of words of the region at an index; 0 for an empty entry. -/
def State.regionWords (s : State) (i : Fin 32) : Nat := ((s.region i).map (·.words)).getD 0

/-- The logical address of a word of a region. -/
def State.wordAddress (s : State) (i : Fin 32) (w : Nat) : Nat :=
  ((s.region i).map (·.base)).getD 0 + 4 * w

/-- Whether the entry at an index is a digest region. -/
def State.isDigestRegion (s : State) (i : Fin 32) : Bool := (s.region i).any (·.isDigest)

/-! ### The sets of R20 -/

/-- The valid entries, ascending. -/
def State.validRegions (s : State) : List (Fin 32) :=
  allRegions.filter (fun i => (s.region i).isSome)

/-- The digest regions, ascending. -/
def State.digestRegions (s : State) : List (Fin 32) := allRegions.filter s.isDigestRegion

/-- The scrub set: the digest regions and the NONVITAL regions whose scrub field is on. -/
def State.scrubSet (s : State) : List (Fin 32) :=
  allRegions.filter (fun i => (s.region i).any (fun r => r.isDigest || r.scrub))

/-- The next region of a walk after the one given. -/
def nextRegion (set : List (Fin 32)) (i : Fin 32) : Option (Fin 32) := set.find? (fun j => decide (i < j))

/-- The blocks of every digest region, ascending region index and address (R133). -/
def State.digestBlocks (s : State) : List Nat :=
  s.digestRegions.flatMap (fun i =>
    match s.region i with
    | none => []
    | some r => (List.range r.length).map (fun k => r.base + k * Config.blockBytes))

/-- Whether a block lies inside a CONSTANT region, and which. -/
def State.constantRegionOf (s : State) (addr : Nat) : Option (Fin 32) :=
  match s.placeOf addr with
  | some p => if p.cls = .constant then some p.region else none
  | none => none

/-! ### Validation at TABLE_CLOSE (R6) -/

/-- Why a table fails, with its code (section 13.1). -/
inductive BadTable where
  | baseAlign | lengthZero | beyondLimit | overlap | noVital
deriving DecidableEq, Repr

/-- The reason codes of a BAD_TABLE answer. -/
def BadTable.code : BadTable → Nat
  | .baseAlign => 1 | .lengthZero => 2 | .beyondLimit => 3 | .overlap => 4 | .noVital => 5

/-- Whether two ranges share an address. -/
def Region.shares (r q : Region) : Bool := decide (r.base < q.finish ∧ q.base < r.finish)

/-- The lowest-numbered earlier entry whose range entry `i` shares. -/
def State.earlierOverlap (s : State) (i : Fin 32) (r : Region) : Option (Fin 32) :=
  allRegions.find? (fun j => decide (j < i) && (s.region j).any (r.shares ·))

/-- The first check of Table 1.2 that a valid entry fails, with the earlier index for OVERLAP. -/
def State.checkEntry (s : State) (i : Fin 32) (r : Region) : Option (BadTable × Nat) :=
  if r.base % Config.blockBytes ≠ 0 then some (.baseAlign, 0)
  else if r.length = 0 then some (.lengthZero, 0)
  else if s.usableLimit < r.finish then some (.beyondLimit, 0)
  else match s.earlierOverlap i r with
    | some j => some (.overlap, j)
    | none => none

/-- What the validation of the table finds: the index, reason and earlier index of the first entry that
fails; index 32 with NO_VITAL where every entry passes and none is VITAL; nothing where the table passes. -/
def State.validateTable (s : State) : Option (Nat × BadTable × Nat) :=
  match allRegions.findSome? (fun i =>
      match s.region i with
      | none => none
      | some r => (s.checkEntry i r).map (fun (b, j) => (i.val, b, j))) with
  | some bad => some bad
  | none =>
    if allRegions.any (fun i => (s.region i).any (fun r => r.cls == .vital)) then none
    else some (32, .noVital, 0)

/-! ### The table image (R63) -/

/-- The 96 words of the table's image. -/
def Rgt.image (t : Rgt) : List Word :=
  allRegions.flatMap (fun i => [imageWord0 t.table[i], imageWord1 t.table[i], imageWord2 t.table[i]])

/-! ### The access matrix (R13) -/

/-- Table 1.6, without the repair-list condition of R14. -/
def matrixAllows (mode : Mode) (cls : RegionClass) (write : Bool) : Bool :=
  match mode, cls with
  | .start, _ => false
  | .load, _ => false
  | .loaded, _ => false
  | .clearing, _ => false
  | .sync, _ => true
  | .run, .constant => !write
  | .run, _ => true
  | .repair, .constant => !write
  | .repair, _ => true
  | .isolated, .nonvital => true
  | .isolated, _ => !write
  | .reentry, .nonvital => true
  | .reentry, _ => false
  | .verify, .nonvital => true
  | .verify, _ => false
  | .ready, .nonvital => true
  | .ready, _ => false

end Sys2Proof.Machine
end

