-- ==== Sys2Proof/Machine/Digests.lean ====
section
/-! DEFINITION. The digest unit (DGU, chapter 4): the digest formula, following writes, audits, and the
snapshot. -/

namespace Sys2Proof.Machine

/-! ### The formula (R55, R56) -/

/-- The digest of a run of words whose first has index `start`: the sum of value × (index + 1) mod M. -/
def digestFrom (start : Nat) : List Word → Nat
  | [] => 0
  | w :: ws => (w.toNat * (start + 1) + digestFrom (start + 1) ws) % Config.digestModulus

/-- The digest of a run of words (R55). -/
def digestOf (ws : List Word) : Nat := digestFrom 0 ws

/-- The delta of a write of `new` over `old` at index i: ((new - old) mod M) × (i + 1) mod M (R57). -/
def writeDelta (i : Nat) (old new : Word) : Nat :=
  (new.toNat + (Config.digestModulus - old.toNat)) % Config.digestModulus * (i + 1) %
    Config.digestModulus

/-- Sum mod M (R56). -/
def addDigest (x y : Nat) : Nat := (x + y) % Config.digestModulus

/-! ### A record -/

/-- A write report with a known old value (R57). -/
def DigestRecord.write (r : DigestRecord) (i : Nat) (old new : Word) : DigestRecord :=
  { r with
    digest := if r.valid then addDigest r.digest (writeDelta i old new) else r.digest
    acc := if r.running && i < r.pointer then addDigest r.acc (writeDelta i old new) else r.acc }

/-- A write report whose old value is unknown: INVALID with D 0, the audit abandoned (R58). -/
def DigestRecord.lose (r : DigestRecord) : DigestRecord :=
  { r with valid := false, digest := 0, running := false }

/-- An audit start (R60). -/
def DigestRecord.auditStart (r : DigestRecord) : DigestRecord :=
  { r with running := true, acc := 0, pointer := 0 }

/-- An audit stop: A and p are kept (R60). -/
def DigestRecord.auditStop (r : DigestRecord) : DigestRecord := { r with running := false }

/-- What DGU answers to an audit word. -/
inductive AuditAnswer where
  | notRunning | taken | matched | drift | established
deriving DecidableEq, Repr

/-- Whether an audit word is taken: the audit is RUNNING and the index is p (R60). -/
def DigestRecord.takes (r : DigestRecord) (i : Nat) : Bool := r.running && i == r.pointer

/-- The accumulator after the word at p (R60). -/
def DigestRecord.accAfter (r : DigestRecord) (v : Word) : Nat :=
  addDigest r.acc (v.toNat * (r.pointer + 1))

/-- An audit word of a region of n words (R60), with the audit's end at p = n (R61). -/
def DigestRecord.auditWord (r : DigestRecord) (n i : Nat) (v : Word) : DigestRecord :=
  if r.takes i then
    if r.pointer + 1 = n then
      { r with
        acc := r.accAfter v, pointer := r.pointer + 1, running := false
        digest := if r.valid then r.digest else r.accAfter v
        valid := true }
    else { r with acc := r.accAfter v, pointer := r.pointer + 1 }
  else r

/-- DGU's answer to that word (R60, Table 4.2). -/
def DigestRecord.auditAnswer (r : DigestRecord) (n i : Nat) (v : Word) : AuditAnswer :=
  if r.takes i then
    if r.pointer + 1 = n then
      if r.valid then (if r.accAfter v = r.digest then .matched else .drift) else .established
    else .taken
  else .notRunning

/-! ### The unit -/

/-- The record of a region. -/
def State.record (s : State) (i : Fin 32) : DigestRecord := s.dgu.records[i]

/-- Change the record of a region. -/
def State.updateRecord (s : State) (i : Fin 32) (f : DigestRecord → DigestRecord) : State :=
  { s with dgu := { s.dgu with records := s.dgu.records.set i (f s.dgu.records[i]) } }

/-- A write report (R57, R58): the old value is absent where it is unknown. -/
def State.reportWrite (s : State) (i : Fin 32) (w : Nat) (old : Option Word) (new : Word) : State :=
  s.updateRecord i (fun r =>
    match old with
    | some o => r.write w o new
    | none => r.lose)

/-- Every record INVALID and IDLE with zero values (R54, R62). -/
def State.invalidateAll (s : State) : State :=
  { s with dgu := { s.dgu with records := Vector.replicate 32 DigestRecord.initial } }

/-- The CLEAR pass has completed: every digest region VALID with D = 0, its audit IDLE (R62). -/
def State.validateCleared (s : State) : State :=
  { s with
    dgu := { s.dgu with
      records := Vector.ofFn (fun i : Fin 32 =>
        if s.isDigestRegion i then
          { s.dgu.records[i] with valid := true, digest := 0, running := false }
        else s.dgu.records[i]) } }

/-- The snapshot of R64: each digest region in ascending order with its validity and D, and the table digest. -/
def State.snapshot (s : State) : Snapshot :=
  { entries := s.digestRegions.map (fun (i : Fin 32) =>
      { region := i.val, valid := (s.record i).valid, digest := (s.record i).digest })
    tableDigest := s.dgu.tableDigest }

/-- Whether a write by P or X-target to a word is digest-updating at its grant (R25). -/
def State.updates (s : State) : Option WordPlace → Bool
  | none => false
  | some p => p.cls != .nonvital && ((s.record p.region).valid || (s.record p.region).running)

end Sys2Proof.Machine
end

