-- ==== Sys2Proof/Machine/Patrol.lean ====
section
/-! DEFINITION. The patrol engine (PTL, chapter 5): the walks and how a change of mode acts on them. What a
walk reports to the mode controller and the restoration engine is in Machine/Audits.lean. -/

namespace Sys2Proof.Machine

/-! ### The group in flight and its owner (R36, log entry 12) -/

/-- The operations of requester S. -/
def WordOp.ofS : WordOp → Bool
  | .scrubRead .. => true
  | .auditRead .. => true
  | .clearWrite .. => true
  | _ => false

/-- The operation of X as source. -/
def WordOp.ofCopy : WordOp → Bool
  | .copyRead .. => true
  | _ => false

/-- The operations of X as target. -/
def WordOp.ofTarget : WordOp → Bool
  | .frameWrite .. => true
  | .restoringWrite .. => true
  | _ => false

/-- The operation of requester M. -/
def WordOp.ofM : WordOp → Bool
  | .moveCopy .. => true
  | _ => false

/-- The group in flight of an owner that stops its work ends as granted, and the owner no longer acts on it. -/
def State.forget (s : State) (who : WordOp → Bool) : State :=
  { s with
    msq := { s.msq with
      port := s.msq.port.map (fun g => if who g.op then { g with live := false } else g) } }

/-- A scrub read that the walk waits for is in flight. -/
def State.scrubInFlight (s : State) : Bool :=
  s.msq.port.any (fun g => g.live && match g.op with
    | .scrubRead .. => true
    | _ => false)

/-! ### The SCRUB pass (R69 to R73) -/

/-- PTL changed. -/
def State.setPtl (s : State) (x : Ptl) : State := { s with ptl := x }

/-- A block of the region is on the repair list. -/
def State.regionListed (s : State) (i : Fin 32) : Bool :=
  s.rse.repairList.any (fun b => (s.region i).any (·.contains b))

/-- Whether the pass audits a region that it comes to (R72). -/
def State.rides (s : State) (i : Fin 32) : Bool :=
  s.isDigestRegion i && (s.record i).valid && !s.regionListed i

/-- The pass comes to word 0 of a region (R72). -/
def State.enterScrub (s : State) (i : Fin 32) : State :=
  (if s.rides i then s.updateRecord i DigestRecord.auditStart else s).setPtl
    { s.ptl with place := some { region := i, word := 0 }, riding := s.rides i }

/-- The pass stands at the first region of the scrub set, word 0. -/
def State.beginPass (s : State) : State :=
  match s.scrubSet with
  | i :: _ => s.enterScrub i
  | [] => s.setPtl { s.ptl with place := none, riding := false }

/-- The pass completes and the next one starts (R71). -/
def State.completePass (s : State) : State :=
  ((s.count .scrubPasses).setPtl { s.ptl with timer := some 0, lateDue := false }).beginPass

/-- The pass goes to the region after the one given, or completes. -/
def State.nextScrubRegion (s : State) (i : Fin 32) : State :=
  match nextRegion s.scrubSet i with
  | some j => s.enterScrub j
  | none => s.completePass

/-- The position moves to a word of a region, or past the region's end. -/
def State.scrubTo (s : State) (i : Fin 32) (w : Nat) : State :=
  if w < s.regionWords i then s.setPtl { s.ptl with place := some { region := i, word := w } }
  else s.nextScrubRegion i

/-- PTL looks up the block of the word it would present; in a listed block it presents nothing and moves to
the next block (R69). At most 8 blocks are listed (R149), so 9 looks reach a word it may read. -/
def State.skipListed : Nat → State → State
  | 0, s => s
  | k + 1, s =>
    match s.ptl.kind, s.ptl.place with
    | .scrub, some pl =>
      if blockOf (s.wordAddress pl.region pl.word) ∈ s.rse.repairList then
        skipListed k (s.scrubTo pl.region ((pl.word / Config.blockWords + 1) * Config.blockWords))
      else s
    | _, _ => s

/-- The same with as many looks as the repair list can make necessary. -/
def State.skip (s : State) : State := s.skipListed (Config.repairSize + 1)

/-- A SCRUB pass starts with the coverage timer at 0 (R68, R75). -/
def State.startScrub (s : State) : State :=
  ((s.setPtl { Ptl.initial with kind := .scrub, timer := some 0 }).beginPass).skip

/-- PTL gives up the riding audit of a region (R73). -/
def State.stopRiding (s : State) (i : Fin 32) : State :=
  (s.updateRecord i DigestRecord.auditStop).setPtl { s.ptl with riding := false }

/-- The suspended scrub pass resumes (R81): one suspended at word 0 decides its audit afresh. -/
def State.resumeScrub (s : State) : State :=
  match s.ptl.suspended with
  | none => s
  | some (place, ride) =>
    let s' := s.setPtl { s.ptl with
      kind := .scrub, place, riding := ride, suspended := none, auditList := [], asked := [] }
    match place with
    | some pl => if pl.word = 0 then (s'.enterScrub pl.region).skip else s'.skip
    | none => s'

/-! ### The other walks -/

/-- The CLEAR pass starts at the first valid region, word 0 (R77). -/
def State.startClear (s : State) : State :=
  s.setPtl { Ptl.initial with
    kind := .clear, place := s.validRegions.head?.map (fun i => { region := i, word := 0 }) }

/-- A walk of audits stands at word 0 of a region: DGU is sent an audit start (R79, R81). -/
def State.enterAudit (s : State) (i : Fin 32) : State :=
  (s.updateRecord i DigestRecord.auditStart).setPtl
    { s.ptl with place := some { region := i, word := 0 } }

/-- The VERIFY audit pass starts at the first digest region, word 0 (R79). -/
def State.startVerify (s : State) : State :=
  let s' := s.setPtl { Ptl.initial with kind := .verifyAudit }
  match s.digestRegions with
  | i :: _ => s'.enterAudit i
  | [] => s'

/-- The audit of the region in progress of an audit walk is stopped. -/
def State.stopAuditHere (s : State) : State :=
  match s.ptl.place with
  | some pl => s.updateRecord pl.region DigestRecord.auditStop
  | none => s

/-! ### A change of mode (Table 5.3) -/

/-- A change to ISOLATED. -/
def State.patrolIsolated (s : State) (old : Mode) : State :=
  match old with
  | .clearing => (s.forget WordOp.ofS).startScrub
  | .reentry => s.startScrub
  | .verify =>
    if s.ptl.kind = .verifyAudit then ((s.forget WordOp.ofS).stopAuditHere).startScrub
    else s.startScrub
  | _ =>
    if s.ptl.kind = .repairAudit then ((s.forget WordOp.ofS).stopAuditHere).resumeScrub
    else s.setPtl { s.ptl with asked := [] }

/-- What a change of mode does to the patrol (Table 5.3). -/
def State.patrolFollows (s : State) (old new : Mode) : State :=
  match new with
  | .clearing => s.startClear
  | .sync => s.startScrub
  | .verify => s.startVerify
  | .ready => s.startScrub
  | .isolated => s.patrolIsolated old
  | .reentry => (s.forget WordOp.ofS).setPtl Ptl.initial
  | .run => s
  | .repair => s
  | .start => s
  | .load => s
  | .loaded => s

end Sys2Proof.Machine
end

