-- ==== Sys2Proof/Machine/Restoration.lean ====
section
/-! DEFINITION. The restoration engine (RSE, chapters 9 and 10), the parts that ask nothing of the mode
controller: the copy engine, the service queue, source write reports, marks, and the end of a service. -/

namespace Sys2Proof.Machine

/-- RSE changed. -/
def State.setRse (s : State) (x : Rse) : State := { s with rse := x }

/-- The service record changed. -/
def State.setService (s : State) (v : Option Service) : State := s.setRse { s.rse with service := v }

/-- The re-entry record changed. -/
def State.setReentry (s : State) (v : Option Reentry) : State := s.setRse { s.rse with reentry := v }

/-- The repair record changed. -/
def State.setRepair (s : State) (v : Option Repair) : State := s.setRse { s.rse with repair := v }

/-! ### The end of a service (R141, R154, R122, R127) -/

/-- A service as source ends: an ABANDON is offered where the event calls for one, the record becomes absent
with its queue, map, buffer and resend list, and SERVICE_ENDED fires. -/
def State.endService (s : State) (reason : Option Word) : State :=
  match s.rse.service with
  | none => s
  | some v =>
    let s' := match reason with
      | some r => s.offerFrame v.port (.abandon r)
      | none => s
    ((s'.forget WordOp.ofCopy).setService none).fire .serviceEnded

/-- A re-entry as target ends with ABANDON on the asked port (R122, R127). -/
def State.endReentry (s : State) (reason : Word) : State :=
  match s.rse.reentry with
  | none => s
  | some v => ((s.offerFrame v.asked (.abandon reason)).setReentry none).fire .serviceEnded

/-- A partner has been asked for the block: before the first request the record names no asked port (log entry
51). -/
def Repair.hasAsked (v : Repair) : Bool := v.triedA || v.triedB

/-- Whether the end of a repair offers ABANDON on the asked port: an isolation in AUDITING offers none (R157), RESTART
does (R127, log entry 52). -/
def Repair.abandons (v : Repair) (isolation : Bool) : Bool :=
  v.hasAsked && !(isolation && v.phase == .auditing)

/-- A repair as target ends with ABANDON on the asked port (R122, R127, R157). -/
def State.endRepair (s : State) (reason : Word) (isolation : Bool) : State :=
  match s.rse.repair with
  | none => s
  | some v =>
    ((if v.abandons isolation then s.offerFrame v.asked (.abandon reason) else s).setRepair none).fire
      .serviceEnded

/-- Every service ends, the frame writes in work are given up and the repair list is emptied: the
restoration engine at an isolation (R122) and at RESTART (R127). -/
def State.endServices (s : State) (reason : Word) (isolation : Bool) : State :=
  let s' := ((((s.endService (some reason)).endReentry reason).endRepair reason isolation).forget
    WordOp.ofTarget).dropWork
  s'.setRse { s'.rse with repairList := [] }

/-! ### The block map and the copy engine (R133, R134) -/

/-- Set a block's state in the map. -/
def setBlock (b : Nat) (st : BlockState) (map : List (Nat × BlockState)) : List (Nat × BlockState) :=
  map.map (fun e => if e.1 = b then (b, st) else e)

/-- The state of a block in the map. -/
def Service.blockState (v : Service) (b : Nat) : Option BlockState :=
  (v.map.find? (fun e => e.1 == b)).map (·.2)

/-- The main walk is finished (R134). -/
def Service.walked (v : Service) : Bool := decide (v.map.length ≤ v.walk)

/-- A block is taken: it becomes SENDING and the buffer starts at segment 0 with read pointer 0. -/
def Service.takeBlock (v : Service) (b : Nat) : Service :=
  { v with
    map := setBlock b .sending v.map, buffer := some { block := b, seg := 0, words := [] },
    endQueued := false }

/-- The engine takes its next block: along the main walk, then from the head of the resend list (R134). -/
def Service.takeNext (v : Service) : Service :=
  if v.buffer.isSome then v
  else
    match v.map[v.walk]? with
    | some (b, _) => { v with walk := v.walk + 1 }.takeBlock b
    | none =>
      match v.resend with
      | b :: bs => { v with resend := bs }.takeBlock b
      | [] => v

/-- The number of FORWARD entries in the service queue. -/
def Service.forwards (v : Service) : Nat := v.queue.countP (fun f => f.kind == 6)

/-- The number of SEGMENT entries. -/
def Service.segments (v : Service) : Nat := v.queue.countP (fun f => f.kind == 5)

/-- The number of MARK entries: queued DIGEST frames. -/
def Service.marks (v : Service) : Nat := v.queue.countP (fun f => f.kind == 1)

/-- The number of COPY_END entries. -/
def Service.copyEnds (v : Service) : Nat := v.queue.countP (fun f => f.kind == 7)

/-- Every block of the map is SENT (R138). -/
def Service.allSent (v : Service) : Bool := v.map.all (fun e => e.2 == .sent)

/-- The word the engine presents a copy read for: the buffer's word at the read pointer, unless the segment is
complete and waits for its entry (R134). -/
def Service.readAddress (v : Service) : Option Nat :=
  match v.takeNext.buffer with
  | some b => if b.words.length < 64 then some (b.block + b.seg * 256 + b.words.length * 4) else none
  | none => none

/-- A copy read's value goes into the buffer at the read pointer (R134). -/
def Service.fill (v : Service) (w : Word) : Service :=
  { v with buffer := v.buffer.map (fun b => { b with words := b.words ++ [w] }) }

/-- The SEGMENT entry of a full buffer may join: fewer than 2 are queued (R134). -/
def Service.segmentReady (v : Service) : Option SegmentBuffer :=
  match v.buffer with
  | some b => if b.words.length = 64 && v.segments < Config.maxSegments then some b else none
  | none => none

/-- The SEGMENT entry joins; after segment 15 the block is SENT, a repair service queues its REPAIR_END, and
the engine takes the next block; otherwise the buffer moves to the next segment (R134, R153). -/
def Service.joinSegment (v : Service) (b : SegmentBuffer) : Service :=
  let v' : Service := { v with queue := v.queue ++ [Frame.segment (b.block + b.seg * 256) b.words] }
  if b.seg = 15 then
    let tail : List Frame := if v.kind = .repair then [.repairEnd b.block] else []
    let v'' : Service := { v' with
      map := setBlock b.block .sent v'.map, buffer := none, queue := v'.queue ++ tail }
    v''.takeNext
  else { v' with buffer := some { block := b.block, seg := b.seg + 1, words := [] } }

/-- A COPY_END entry may join (R140, log entry 21). -/
def Service.endReady (v : Service) : Bool :=
  v.kind == .reentry && v.walked && v.resend.isEmpty && v.buffer.isNone &&
    v.map.all (fun e => e.2 != .sending) && v.segments == 0 && v.copyEnds == 0 && !v.endQueued

/-- The COPY_END entry joins (R140). -/
def Service.joinEnd (v : Service) : Service :=
  { v with queue := v.queue ++ [.copyEnd], endQueued := true }

/-- The record of a re-entry service when it is created (R132). -/
def Service.newReentry (port : Port) (blocks : List Nat) : Service :=
  { kind := .reentry, port, map := blocks.map (fun b => (b, .unsent)), walk := 0, buffer := none,
    queue := [], resend := [], endQueued := false }

/-- The record of a repair service when it is created (R152). -/
def Service.newRepair (port : Port) (block : Nat) : Service :=
  { kind := .repair, port, map := [(block, .unsent)], walk := 0, buffer := none, queue := [],
    resend := [], endQueued := false }

/-! ### Source write reports (R136, R137) -/

/-- What a source write report does to the service. -/
inductive WriteAction where
  | none | patch | forward
deriving DecidableEq, Repr

/-- The action of Table 9.4 for a written address. -/
def Service.writeAction (v : Service) (addr : Nat) : WriteAction :=
  match v.blockState (blockOf addr) with
  | some .sent => .forward
  | some .sending =>
    match v.buffer with
    | none => .none
    | some b =>
      if segmentOf addr < b.seg then .forward
      else if segmentOf addr = b.seg then
        (if wordOfSegment addr < b.words.length then .patch else .none)
      else .none
  | some .unsent => .none
  | none => .none

/-- The buffer word is replaced by the new value. -/
def Service.patch (v : Service) (addr : Nat) (w : Word) : Service :=
  { v with buffer := v.buffer.map (fun b => { b with words := b.words.set (wordOfSegment addr) w }) }

/-- A forward that finds 28 queued sends its block back: UNSENT, at the tail of the resend list, the buffer
discarded where it is the block being sent, and the engine takes its next block (R137). -/
def Service.resendBlock (v : Service) (b : Nat) : Service :=
  { v with
    map := setBlock b .unsent v.map, resend := v.resend ++ [b],
    buffer := v.buffer.filter (fun x => x.block != b) }.takeNext

/-- A FORWARD entry is to join the queue (R137). -/
def State.queueForward (s : State) (v : Service) (addr : Nat) (w : Word) : State :=
  if v.forwards < Config.maxForwards then
    s.setService (some { v with queue := v.queue ++ [.forward addr w] })
  else if v.resend.length < Config.resendSize then
    (s.count .resends).setService (some (v.resendBlock (blockOf addr)))
  else (s.count .resends).endService (some overflowReason)

/-- RSE takes a source write report (R136); a repair service ignores it (R153). -/
def State.sourceWrite (s : State) (addr : Nat) (w : Word) : State :=
  match s.rse.service with
  | none => s
  | some v =>
    if v.kind = .repair then s
    else
      match v.writeAction addr with
      | .none => s
      | .patch => s.setService (some (v.patch addr w))
      | .forward => s.queueForward v addr w

/-! ### Marks (R138, R153) -/

/-- Whether the DIGEST frame joins the service queue as a MARK. -/
def Service.takesMark (v : Service) : Bool :=
  (v.kind == .repair || v.allSent) && v.marks < Config.maxMarks

/-- The DIGEST frame for the service port: queued as a MARK, or not sent and counted MARKS_SKIPPED. -/
def State.offerMark (s : State) (v : Service) (f : Frame) : State :=
  if v.takesMark then s.setService (some { v with queue := v.queue ++ [f] })
  else s.count .marksSkipped

end Sys2Proof.Machine
end

