-- ==== Sys2Proof/Machine/Rows.lean ====
section
/-! DEFINITION. The row error table (RET) and the spare row map (SRM), chapter 3: corrected-error reports,
ageing, the mapping of logical rows, and row moves. -/

namespace Sys2Proof.Machine

/-! ### The map (R23, R44) -/

/-- The spare that is ACTIVE for a logical row. -/
def State.activeSpare (s : State) (logical : Nat) : Option (Fin 16) :=
  (List.finRange 16).find? (fun i =>
    match s.srm.spares[i] with
    | .active r _ => r == logical
    | _ => false)

/-- The current row of a logical row (R23). -/
def State.currentRow (s : State) (logical : Nat) : Nat :=
  match s.activeSpare logical with
  | some i => s.spareRow i
  | none => logical

/-- The MOVING spare, with the physical row it replaces and the copy pointer. -/
def State.moving (s : State) : Option (Fin 16 × Nat × Nat) :=
  (List.finRange 16).findSome? (fun i =>
    match s.srm.spares[i] with
    | .moving r p => some (i, r, p)
    | _ => none)

/-- The logical row a physical row serves: the row itself, or for a row of the spare area the row its ACTIVE
spare holds (R46). -/
def State.logicalOf (s : State) (row : Nat) : Option Nat :=
  if row < s.rows - 16 then some row
  else (List.finRange 16).findSome? (fun i =>
    match s.srm.spares[i] with
    | .active r _ => if s.spareRow i = row then some r else none
    | _ => none)

/-- The spare row a write to a word must also reach (R28): a move out of the word's current row is in flight and
the word lies below the copy pointer. -/
def State.mirrorOf (s : State) (row word : Nat) : Option Nat :=
  match s.moving with
  | some (i, r, p) => if r = row && word < p then some (s.spareRow i) else none
  | none => none

/-- Set a spare entry. -/
def State.setSpare (s : State) (i : Fin 16) (x : Spare) : State :=
  { s with srm := { s.srm with spares := s.srm.spares.set i x } }

/-! ### Row entries (R37 to R39) -/

/-- Set the state of the entry of a row. -/
def setRowState (row : Nat) (st : RowState) (es : List RowEntry) : List RowEntry :=
  es.map (fun e => if e.row = row then { e with state := st } else e)

/-- RET's entries changed. -/
def State.setEntries (s : State) (es : List RowEntry) : State := { s with ret := { s.ret with entries := es } }

/-- Row moves are permitted in these modes (R45). -/
def Mode.permitsMoves : Mode → Bool
  | .sync => true | .run => true | .repair => true | .isolated => true | .verify => true
  | .ready => true | _ => false

/-- The oldest WEAK entry (R45). -/
def State.oldestWeak (s : State) : Option RowEntry := s.ret.entries.find? (fun e => e.state == .weak)

/-- The FREE spare with the lowest index (R46). -/
def State.lowestFree (s : State) : Option (Fin 16) :=
  (List.finRange 16).find? (fun i => s.srm.spares[i] == .free)

/-- The start of a move (R46). -/
def State.startMove (s : State) (i : Fin 16) (row : Nat) : State :=
  (s.setSpare i (.moving row 0)).setEntries (setRowState row .moving s.ret.entries)

/-- The group in flight is the copy of a move that RESTART has ended: its spare stays as it is until the group ends
(R51). -/
def State.endedMove (s : State) : Bool :=
  s.msq.port.any (fun g => !g.live && match g.op with
    | .moveCopy _ => true
    | _ => false)

/-- No move is in flight (R45): none has started, or RESTART has ended the one that had (log entry 25). -/
def State.noMove (s : State) : Bool := s.moving.isNone || s.endedMove

/-- Whether SRM may choose a move now: none in flight, the mode permits moves, and the oldest WEAK entry (R45). A move
chosen already, whose start waits, stands (log entry 24). -/
def State.weakToMove (s : State) : Option RowEntry :=
  if s.noMove && s.srm.startWaiting.isNone && s.mdc.mode.permitsMoves then s.oldestWeak else none

/-- SRM chooses a move (R45, R46). The start waits where a group is in flight; without a FREE spare
SPARES_EXHAUSTED fires. The spare of a move that RESTART has ended is not FREE before its group ends. -/
def State.chooseMove (s : State) : State :=
  match s.weakToMove with
  | none => s
  | some e =>
    match s.lowestFree with
    | none => s.fire .sparesExhausted
    | some i =>
      if s.msq.port.isSome then { s with srm := { s.srm with startWaiting := some e.row } }
      else s.startMove i e.row

/-- The move of a row chosen starts, in whatever mode the channel is by then (R46, R47). In every run the entry is still
WEAK and a spare FREE (log entry 24). -/
def State.startChosen (s : State) (row : Nat) : State :=
  match s.lowestFree with
  | some i =>
    if s.moving.isNone && s.ret.entries.any (fun e => e.row == row && e.state == .weak) then s.startMove i row else s
  | none => s

/-- A corrected error counted in its entry (R39). -/
def RowEntry.hit (e : RowEntry) (word : Nat) : RowEntry :=
  { e with count := if e.count < 15 then e.count + 1 else e.count, touched := true, last := word }

/-- Whether an entry turns WEAK at this count (R39). -/
def RowEntry.turnsWeak (e : RowEntry) (limit : Nat) : Bool := e.state == .tracking && limit ≤ e.count

/-- A TRACKING entry whose count has reached the limit becomes WEAK. -/
def RowEntry.weakened (e : RowEntry) (limit : Nat) : RowEntry :=
  if e.turnsWeak limit then { e with state := .weak } else e

/-- A corrected-error report for a row that has an entry (R39). -/
def State.hitRow (s : State) (e : RowEntry) (word : Nat) : State :=
  let limit := s.cmi.settings.weakLimit
  let s' := s.setEntries
    (s.ret.entries.map (fun x => if x.row = e.row then (x.hit word).weakened limit else x))
  if (e.hit word).turnsWeak limit then (s'.fire .rowWeak).chooseMove else s'

/-- A corrected-error report for a row without an entry (R38). -/
def State.newRow (s : State) (row word : Nat) : State :=
  if s.ret.entries.length < Config.rowTableSize then
    s.setEntries (s.ret.entries ++
      [{ row, state := .tracking, count := 1, touched := true, last := word, firstSeen := s.evu.msTime }])
  else (s.fire .rowTableFull).count .rowTableOverflow

/-- RET takes a corrected-error report (R38, R39). -/
def State.reportRow (s : State) (row word : Nat) : State :=
  match s.ret.entries.find? (fun e => e.row == row) with
  | some e => s.hitRow e word
  | none => s.newRow row word

/-! ### Ageing and WEAK_LIMIT (R40, R41) -/

/-- The three parts of a sweep on the entries (R40). -/
def sweepEntries (es : List RowEntry) : List RowEntry :=
  (es.filter (fun e => !(e.state == .tracking && !e.touched))).map (fun e =>
    { e with touched := false, state := if e.state = .moveFailed then .weak else e.state })

/-- The ageing sweep (R40). -/
def State.sweep (s : State) : State :=
  let s' := { s with ret := { entries := sweepEntries s.ret.entries, ageing := 0, sweepDue := false } }
  if s.ret.entries.any (fun e => e.state == .moveFailed) then s'.chooseMove else s'

/-- A new WEAK_LIMIT takes effect for the table at once (R41). -/
def State.applyWeakLimit (s : State) : State :=
  let limit := s.cmi.settings.weakLimit
  let s' := s.setEntries (s.ret.entries.map (·.weakened limit))
  if s.ret.entries.any (·.turnsWeak limit) then (s'.fire .rowWeak).chooseMove else s'

/-! ### The end of a copy (R47 to R49, R51) -/

/-- The move completes (R48): the spare becomes ACTIVE for the logical row the moved row served, a spare moved
out of is RETIRED, the entry is REPLACED. -/
def State.completeMove (s : State) (i : Fin 16) (row : Nat) : State :=
  match s.logicalOf row with
  | none => s.setSpare i .free
  | some logical =>
    let s1 := match s.activeSpare logical with
      | some j =>
        match s.srm.spares[j] with
        | .active _ t => s.setSpare j (.retired t)
        | _ => s
      | none => s
    (((s1.setSpare i (.active logical s.evu.msTime)).setEntries
      (setRowState row .replaced s.ret.entries)).fire .rowSubstituted).chooseMove

/-- The word at the copy pointer has been copied (R47). -/
def State.advanceMove (s : State) : State :=
  match s.moving with
  | none => s
  | some (i, row, p) =>
    if p + 1 = Config.rowWords then s.completeMove i row else s.setSpare i (.moving row (p + 1))

/-- The copy read was UNCORRECTABLE: the move fails (R49). -/
def State.failMove (s : State) : State :=
  match s.moving with
  | none => s
  | some (i, row, _) =>
    (((s.setSpare i .free).setEntries (setRowState row .moveFailed s.ret.entries)).fire
      .moveFailed).chooseMove

/-- A MOVING spare returns to FREE (R51). -/
def State.releaseSpare (s : State) : State :=
  match s.moving with
  | none => s
  | some (i, _, _) => s.setSpare i .free

end Sys2Proof.Machine
end

