-- ==== Sys2Proof/Machine/Modes.lean ====
section
/-! DEFINITION. The mode controller (MDC, chapter 8): changes of mode, CHEN and isolation. -/

namespace Sys2Proof.Machine

/-- The transitions of Table 8.2 other than isolations, RESTART and POR. -/
def Mode.leadsTo : Mode → Mode → Bool
  | .start, .load => true
  | .load, .loaded => true
  | .loaded, .clearing => true
  | .clearing, .sync => true
  | .sync, .run => true
  | .loaded, .reentry => true
  | .isolated, .reentry => true
  | .reentry, .verify => true
  | .verify, .ready => true
  | .ready, .run => true
  | .run, .repair => true
  | .repair, .run => true
  | _, _ => false

/-- The modes from which an isolation is carried out (R121). -/
def Mode.isolable : Mode → Bool
  | .clearing => true | .sync => true | .run => true | .repair => true | .reentry => true
  | .verify => true | .ready => true | _ => false

/-- The mode is set and CHEN follows it (R118). -/
def State.setMode (s : State) (m : Mode) : State :=
  { s with mdc := { s.mdc with mode := m, chen := decide (m = .run) } }

/-- The vote unit at the entry to SYNC: the watchdog starts at 0 and the counts are 0 (R120). -/
def State.voteSync (s : State) : State :=
  { s with vtu := { s.vtu with watchdog := some 0, unchecked := 0, syncCount := 0 } }

/-- An OPEN record closed by an isolation (R114). -/
def VoteRecord.close (r : VoteRecord) : VoteRecord :=
  if r.outcome.isNone then { r with outcome := some .abandoned, deadline := none, results := [] } else r

/-- The vote unit at an isolation: the watchdog stops and every OPEN record is ABANDONED (R114). -/
def State.voteIsolated (s : State) : State :=
  { s with vtu := { s.vtu with watchdog := none, records := s.vtu.records.map VoteRecord.close } }

/-- SRM's occasion at a change into a mode that permits moves (R45). -/
def State.moveOccasion (s : State) (m : Mode) : State := if m.permitsMoves then s.chooseMove else s

/-- A change of mode other than an isolation, carried out whole (R116): the mode and CHEN, the effects of
entry, MODE_CHANGED, and the blocks that act on it. -/
def State.enterMode (s : State) (m : Mode) : State :=
  let old := s.mdc.mode
  let s1 := s.setMode m
  let s2 := if m = .sync then s1.voteSync else s1
  ((s2.fire .modeChanged).patrolFollows old m).moveOccasion m

/-- A request for a change of mode: carried out where Table 8.2 allows it from the mode held, ignored
otherwise (R116). -/
def State.requestMode (s : State) (m : Mode) : State :=
  if s.mdc.mode.leadsTo m then s.enterMode m else s

/-- An isolation carried out (R122). -/
def State.enterIsolated (s : State) (c : Cause) : State :=
  let old := s.mdc.mode
  let s1 := s.setMode .isolated
  let s2 := { s1 with mdc := { s1.mdc with cause := c } }
  let s3 := (s2.voteIsolated.endServices c.reason true).fire .isolated
  ((s3.fire .modeChanged).patrolFollows old .isolated).moveOccasion .isolated

/-- A request for isolation: carried out in the seven modes of R121, ignored in the others. -/
def State.isolateFor (s : State) (c : Cause) : State :=
  if s.mdc.mode.isolable then s.enterIsolated c else s

end Sys2Proof.Machine
end

