-- ==== Sys2Proof/Machine/Vote.lean ====
section
/-! DEFINITION. The vote unit (VTU, chapter 7): the vote table, the decision and its consequences, and the
cycle mark. -/

namespace Sys2Proof.Machine

/-! ### Records -/

/-- VTU changed. -/
def State.setVtu (s : State) (x : Vtu) : State := { s with vtu := x }

/-- A record is OPEN while it has no outcome. -/
def VoteRecord.isOpen (r : VoteRecord) : Bool := r.outcome.isNone

/-- The partner set of a port. -/
def VoteRecord.setOf (r : VoteRecord) : Port → Option PartnerSet
  | .a => r.setA
  | .b => r.setB

/-- Whether a port is in the expected set. -/
def VoteRecord.expects (r : VoteRecord) : Port → Bool
  | .a => r.expectA
  | .b => r.expectB

/-- A partner's set stored: the set of its port (R104). -/
def VoteRecord.store (r : VoteRecord) (p : Port) (x : PartnerSet) : VoteRecord :=
  match p with
  | .a => { r with setA := some x }
  | .b => { r with setB := some x }

/-- A port taken out of the expected set and its set removed (R105). -/
def VoteRecord.dropPort (r : VoteRecord) (p : Port) : VoteRecord :=
  match p with
  | .a => { r with expectA := false, setA := none }
  | .b => { r with expectB := false, setB := none }

/-- The record holds a frame from every expected partner (R106). -/
def VoteRecord.complete (r : VoteRecord) : Bool :=
  (!r.expectA || r.setA.isSome) && (!r.expectB || r.setB.isSome)

/-- A new OPEN record (R103). -/
def VoteRecord.new (cycle : Word) : VoteRecord :=
  { cycle, snapshot := none, expectA := false, expectB := false, deadline := none, setA := none,
    setB := none, outcome := none, results := [] }

/-- The record of a cycle. -/
def State.recordFor (s : State) (cycle : Word) : Option VoteRecord :=
  s.vtu.records.find? (fun r => r.cycle == cycle)

/-- Replace the record of a cycle. -/
def State.putRecord (s : State) (r : VoteRecord) : State :=
  s.setVtu { s.vtu with records := s.vtu.records.map (fun x => if x.cycle = r.cycle then r else x) }

/-- How far a cycle is behind L (R103). -/
def behind (last cycle : Word) : Nat := (last - cycle).toNat

/-- The DECIDED record furthest behind L. -/
def furthestDecided (last : Word) : List VoteRecord → Option VoteRecord
  | [] => none
  | r :: rs =>
    match furthestDecided last rs with
    | none => if r.isOpen then none else some r
    | some q => if !r.isOpen && behind last q.cycle ≤ behind last r.cycle then some r else some q

/-- Room for one more record: a full table drops the DECIDED record furthest behind L (R103; without a DECIDED
record, which R103 rules out, the oldest goes, log entry 34). -/
def makeRoom (last : Word) (rs : List VoteRecord) : List VoteRecord :=
  if rs.length < Config.voteTableSize then rs
  else match furthestDecided last rs with
    | some q => rs.filter (fun r => r.cycle != q.cycle)
    | none => rs.tail

/-- A record is created for a cycle that has none. -/
def State.createRecord (s : State) (last cycle : Word) : State :=
  s.setVtu { s.vtu with records := makeRoom last s.vtu.records ++ [VoteRecord.new cycle] }

/-! ### Comparing values (R108, R109) -/

/-- A partner present as a voter: its set is stored and announces RUN, or SYNC while the own mode is SYNC. -/
def PartnerSet.votes (x : PartnerSet) (own : Mode) : Bool :=
  x.mode == some .run || (own == .sync && x.mode == some .sync)

/-- The voter of a port. -/
def VoteRecord.voter (r : VoteRecord) (own : Mode) (p : Port) : Option PartnerSet :=
  (r.setOf p).filter (·.votes own)

/-- A set's entry for a region. -/
def entryFor (es : List DigestEntry) (i : Nat) : Option DigestEntry := es.find? (fun e => e.region == i)

/-- Two entries are equal: both present and valid with equal digests. -/
def entriesEqual : Option DigestEntry → Option DigestEntry → Bool
  | some e, some f => e.valid && f.valid && e.digest == f.digest
  | _, _ => false

/-- The local value of a region equals a partner's; never where the table digests differ. -/
def localEquals (l : Snapshot) (x : PartnerSet) (i : Nat) : Bool :=
  x.tableDigest == l.tableDigest && entriesEqual (entryFor l.entries i) (entryFor x.entries i)

/-- Two partners' values of a region are equal; never where either table digest differs from the local one. -/
def partnersEqual (l : Snapshot) (x y : PartnerSet) (i : Nat) : Bool :=
  x.tableDigest == l.tableDigest && y.tableDigest == l.tableDigest &&
    entriesEqual (entryFor x.entries i) (entryFor y.entries i)

/-- Table 7.4 from the voters and the three comparisons. -/
def resultOf (a b : Option PartnerSet) (la lb : PartnerSet → Bool) (ab : PartnerSet → PartnerSet → Bool) :
    RegionResult :=
  match a, b with
  | some x, some y =>
    if la x && lb y then .agree
    else if la x then .partnerDissent .b
    else if lb y then .partnerDissent .a
    else if ab x y then .localDissent
    else .noMajority
  | some x, none => if la x then .agree else .split
  | none, some y => if lb y then .agree else .split
  | none, none => .unchecked

/-- The result of a digest region. -/
def regionResult (l : Snapshot) (a b : Option PartnerSet) (i : Nat) : RegionResult :=
  resultOf a b (localEquals l · i) (localEquals l · i) (partnersEqual l · · i)

/-- Two partners' values of the table pseudo-region are equal; never where either differs from the local one, also where
the two are the same number (R108, log entry 59). -/
def partnersTableEqual (l : Snapshot) (x y : PartnerSet) : Bool :=
  x.tableDigest == l.tableDigest && y.tableDigest == l.tableDigest

/-- The result of the table pseudo-region. -/
def tableResult (l : Snapshot) (a b : Option PartnerSet) : RegionResult :=
  resultOf a b (·.tableDigest == l.tableDigest) (·.tableDigest == l.tableDigest) (partnersTableEqual l)

/-- The index of the table pseudo-region (R110). -/
def tableIndex : Nat := 32

/-- The results of a decision: each digest region of the snapshot, then the pseudo-region. -/
def decisionResults (l : Snapshot) (a b : Option PartnerSet) : List (Nat × RegionResult) :=
  l.entries.map (fun e => (e.region, regionResult l a b e.region)) ++ [(tableIndex, tableResult l a b)]

/-- The outcome a result stands for. -/
def RegionResult.outcome : RegionResult → VoteOutcome
  | .agree => .agree
  | .partnerDissent _ => .partnerDissent
  | .unchecked => .unchecked
  | .localDissent => .localDissent
  | .split => .split
  | .noMajority => .noMajority

/-- The order of R110, a worse outcome higher. -/
def VoteOutcome.badness : VoteOutcome → Nat
  | .agree => 0 | .partnerDissent => 1 | .unchecked => 2 | .localDissent => 3 | .split => 4
  | .noMajority => 5 | .abandoned => 6

/-- The worse of two outcomes. -/
def worseOutcome (x y : VoteOutcome) : VoteOutcome := if x.badness < y.badness then y else x

/-- The outcome of the cycle: the worst of the results (R110). -/
def worstOutcome (rs : List (Nat × RegionResult)) : VoteOutcome :=
  rs.foldl (fun o r => worseOutcome o r.2.outcome) .agree

/-! ### The decision (R106 to R113) -/

/-- The lost flag of a partner whose absence count is 2 is set and PARTNER_LOST fires (R107). -/
def State.markLost (s : State) (p : Port) : State :=
  (s.setPartner p { (s.link p).partner with lost := true }).fire .partnerLost

/-- The absence count of one partner at a decision (R107). One that is lost already stays at 2 and is not reported lost
again (log entry 60). A set of a partner that does not vote counts as present: the count is 0, where R108 has such a set
count toward the absences (log entry 63). -/
def State.countAbsence (s : State) (r : VoteRecord) (p : Port) : State :=
  if (r.setOf p).isSome then s.setPartner p { (s.link p).partner with absence := 0 }
  else if r.expects p then
    let n := min 2 ((s.link p).partner.absence + 1)
    let s' := s.setPartner p { (s.link p).partner with absence := n }
    if n = 2 && !(s.link p).partner.lost then s'.markLost p else s'
  else s

/-- The suspect flag of a partner named by a PARTNER_DISSENT result is set (R110). -/
def State.markSuspect (s : State) (rs : List (Nat × RegionResult)) (p : Port) : State :=
  if rs.any (fun r => r.2 == .partnerDissent p) then
    s.setPartner p { (s.link p).partner with suspect := true }
  else s

/-- PARTNER_DISSENT fires once where any result names a partner. -/
def State.fireDissent (s : State) (rs : List (Nat × RegionResult)) : State :=
  if rs.any (fun r => r.2.outcome == .partnerDissent) then s.fire .partnerDissent else s

/-- The outcomes by which the channel fails the vote (R110, R111). -/
def VoteOutcome.fails : VoteOutcome → Bool
  | .localDissent => true | .split => true | .noMajority => true | _ => false

/-- VOTE_FAILED for a failing outcome. -/
def State.fireFailed (s : State) (o : VoteOutcome) : State := if o.fails then s.fire .voteFailed else s

/-- The requester of a VOTE capture (R110). -/
def voteRequester (r : RegionResult) (a : Option PartnerSet) : Requester :=
  match r with
  | .partnerDissent p => linkRequester p
  | _ => if a.isSome then .linkA else .linkB

/-- The VOTE capture of an outcome other than AGREE and UNCHECKED: the lowest index with that result (R110). -/
def State.captureVote (s : State) (rs : List (Nat × RegionResult)) (o : VoteOutcome)
    (a : Option PartnerSet) : State :=
  if o = .agree || o = .unchecked then s
  else match rs.find? (fun r => r.2.outcome == o) with
    | some r => s.offerCapture .vote (voteRequester r.2 a) none (.vote o r.1)
    | none => s

/-- The cause of a failing outcome (R111). -/
def failureCause (o : VoteOutcome) (table : RegionResult) : Cause :=
  if table.outcome.fails then .tableMismatch
  else match o with
    | .split => .split
    | .noMajority => .noMajority
    | _ => .voteDissent

/-- The unchecked-run count reaching 2 in RUN or REPAIR isolates the channel (R112). -/
def State.uncheckedLimit (s : State) : State :=
  if 2 ≤ s.vtu.unchecked && (s.mdc.mode == .run || s.mdc.mode == .repair) then s.isolateFor .noVoter
  else s

/-- The sync count reaching SYNC_LIMIT in SYNC isolates the channel (R113). -/
def State.syncLimit (s : State) : State :=
  if s.cmi.settings.syncLimit ≤ s.vtu.syncCount && s.mdc.mode == .sync then s.isolateFor .syncTimeout
  else s

/-- The consequence in SYNC of an outcome that does not fail (R113). -/
def State.syncOutcome (s : State) (o : VoteOutcome) : State :=
  if o = .agree then (s.setVtu { s.vtu with syncCount := 0 }).requestMode .run
  else (s.setVtu { s.vtu with syncCount := s.vtu.syncCount + 1 }).syncLimit

/-- The consequence in RUN and REPAIR of an outcome that does not fail (R112). -/
def State.runOutcome (s : State) (o : VoteOutcome) : State :=
  if o = .unchecked then (s.setVtu { s.vtu with unchecked := s.vtu.unchecked + 1 }).uncheckedLimit
  else s.setVtu { s.vtu with unchecked := 0 }

/-- The consequences by mode (R111 to R113). -/
def State.voteConsequence (s : State) (o : VoteOutcome) (table : RegionResult) : State :=
  if o.fails then (s.setVtu { s.vtu with unchecked := 0 }).isolateFor (failureCause o table)
  else if s.mdc.mode = .sync then s.syncOutcome o
  else s.runOutcome o

/-- The deciding of an OPEN record that holds a local snapshot, carried out whole (R106). -/
def State.decideWith (s : State) (r : VoteRecord) (l : Snapshot) : State :=
  let a := r.voter s.mdc.mode .a
  let b := r.voter s.mdc.mode .b
  let rs := decisionResults l a b
  let o := worstOutcome rs
  let s1 := (s.countAbsence r .a).countAbsence r .b
  let s2 := s1.putRecord { r with outcome := some o, deadline := none, results := rs }
  let s3 := ((((s2.markSuspect rs .a).markSuspect rs .b).fireDissent rs).fireFailed o).captureVote rs o a
  s3.voteConsequence o (tableResult l a b)

/-- A record is decided where it is OPEN and holds a local snapshot; any other waits (R106). -/
def State.decideRecord (s : State) (cycle : Word) : State :=
  match s.recordFor cycle with
  | none => s
  | some r =>
    if r.isOpen then
      match r.snapshot with
      | some l => s.decideWith r l
      | none => s
    else s

/-- The record of a cycle is decided at once where it holds a frame from every expected partner. -/
def State.decideIfComplete (s : State) (cycle : Word) : State :=
  match s.recordFor cycle with
  | none => s
  | some r => if r.complete then s.decideRecord cycle else s

/-! ### A partner's DIGEST (R104, R105) -/

/-- A partner's set stored in the record of a cycle. -/
def State.storeSet (s : State) (cycle : Word) (p : Port) (x : PartnerSet) : State :=
  match s.recordFor cycle with
  | none => s
  | some r => s.putRecord (r.store p x)

/-- How VTU takes DIGEST(m) while it takes frames (Table 7.3). -/
def State.takeSet (s : State) (last m : Word) (p : Port) (x : PartnerSet) : State :=
  match s.recordFor m with
  | some r =>
    if r.isOpen && m = last then (s.storeSet m p x).decideIfComplete m
    else if r.isOpen && (m - last = 1 || m - last = 2) then s.storeSet m p x
    else s.count .staleDigest
  | none =>
    if m - last = 1 || m - last = 2 then (s.createRecord last m).storeSet m p x
    else s.count .staleDigest

/-- The modes in which VTU takes frames and accepts marks (R98, R104). -/
def Mode.votes : Mode → Bool
  | .sync => true | .run => true | .repair => true | _ => false

/-- VTU takes a good DIGEST frame (R104, R105). -/
def State.voteDigest (s : State) (p : Port) (m : Word) (x : PartnerSet) : State :=
  let s' := s.setPartner p { (s.link p).partner with lost := false, absence := 0 }
  if s'.mdc.mode.votes then
    match s'.vtu.last with
    | some last => s'.takeSet last m p x
    | none => s'
  else s'

/-- VTU takes a link-down notice (R105). -/
def State.voteLinkDown (s : State) (p : Port) : State :=
  let s' := s.setVtu { s.vtu with
    records := s.vtu.records.map (fun r => if r.isOpen then r.dropPort p else r) }
  match s'.vtu.last with
  | some last => s'.decideIfComplete last
  | none => s'

/-! ### The cycle mark (R98 to R101) -/

/-- The DIGEST frame of a cycle (R100). -/
def State.digestFrame (s : State) (n : Word) : Frame :=
  .digest n (some s.mdc.mode) s.snapshot.tableDigest s.snapshot.entries

/-- The port on which the part serves as source. -/
def State.servicePort (s : State) : Option Port := s.rse.service.map (·.port)

/-- The DIGEST frame offered on one port: to the restoration engine where the part serves there (R100). -/
def State.offerDigest (s : State) (p : Port) (f : Frame) : State :=
  if (s.link p).up then
    match s.rse.service with
    | some v => if v.port = p then s.offerMark v f else s.offerFrame p f
    | none => s.offerFrame p f
  else s

/-- Whether that frame is sent or queued on a port. -/
def State.digestQueued (s : State) (p : Port) : Bool :=
  (s.link p).up &&
    match s.rse.service with
    | some v => if v.port = p then v.takesMark else s.offerResult p == .queued
    | none => s.offerResult p == .queued

/-- Step 1 of R99: L becomes n and the watchdog restarts. -/
def State.markLast (s : State) (n : Word) : State :=
  s.setVtu { s.vtu with last := some n, watchdog := some 0 }

/-- Steps 3 and 4: the record found or created, the snapshot, the expected set and the deadline. The expected set is what R95
says at this moment, also of a partner whose DIGEST of this cycle announced another mode (log entry 69). -/
def State.openRecord (s : State) (n : Word) : State :=
  let s' := if (s.recordFor n).isSome then s else s.createRecord n n
  match s'.recordFor n with
  | none => s'
  | some r => s'.putRecord { r with
      snapshot := some s.snapshot, expectA := s.expectedVoter .a, expectB := s.expectedVoter .b,
      deadline := some s.cmi.settings.voteDeadline, outcome := none, results := [] }

/-- Step 6: every other OPEN record that holds a local snapshot is decided. -/
def State.decideOthers (s : State) (n : Word) : State :=
  (s.vtu.records.map (·.cycle)).foldl (fun t c => if c = n then t else t.decideRecord c) s

/-- An accepted CYCLE_MARK(n) (R99). -/
def State.acceptMark (s : State) (n : Word) : State :=
  let s1 := (s.markLast n).openRecord n
  let s2 := (s1.offerDigest .a (s.digestFrame n)).offerDigest .b (s.digestFrame n)
  (s2.decideOthers n).decideIfComplete n

/-- What a CYCLE_MARK(n) that ISOLATED refuses leaves besides its answer; L, the vote table and the watchdog stay (R98, R124).
R62 has an ISOLATED channel go on sending its digests in DIGEST frames, and R98 and R124 have no frame sent. Nothing rules
between them: where the free value `Config.isolatedDigest` says so, the DIGEST frame of n (R100), with the digest records as
they stand, is offered on both ports, and otherwise nothing happens (log entry 57). -/
def State.isolatedMark (s : State) (n : Word) : State :=
  if Config.isolatedDigest s.vtu.last n then
    (s.offerFrame .a (s.digestFrame n)).offerFrame .b (s.digestFrame n)
  else s

/-- The number of ports on which its DIGEST frame is sent or queued. -/
def State.markPorts (s : State) : Nat :=
  (if s.digestQueued .a then 1 else 0) + (if s.digestQueued .b then 1 else 0)

/-- The expected set of the mark, bit 0 for A and bit 1 for B. -/
def State.expectedSet (s : State) : Nat := flagAt 0 (s.expectedVoter .a) + flagAt 1 (s.expectedVoter .b)

/-- Whether a mark is in sequence (R98). -/
def State.inSequence (s : State) (n : Word) : Bool :=
  match s.vtu.last with
  | some last => n == last + 1
  | none => true

end Sys2Proof.Machine
end

