-- ==== Sys2Proof/Machine/Answers.lean ====
section
/-! DEFINITION. The aperture words (R172, R173) and what the reading commands put into them: Table 13.4, and the
parts of VOTE_READ (section 13.3). -/

namespace Sys2Proof.Machine

/-! ### The aperture -/

/-- The statuses of Table 12.2. -/
inductive CommandStatus where
  | done | doneClamped | notNow | badParam | badTable | sequence | tooLate | noPartner | unknown
deriving DecidableEq, Repr

/-- Their codes (section 13.3). -/
def CommandStatus.code : CommandStatus → Nat
  | .done => 1 | .doneClamped => 2 | .notNow => 3 | .badParam => 4 | .badTable => 5
  | .sequence => 6 | .tooLate => 7 | .noPartner => 8 | .unknown => 9

/-- The aperture word at an index. -/
def State.apertureWord (s : State) (i : Nat) : Word := (s.cmi.words[i]?).getD 0

/-- A parameter word. -/
def State.param (s : State) (i : Nat) : Word := s.apertureWord i

/-- A value stored in an aperture word. -/
def State.storeWord (s : State) (i : Nat) (v : Word) : State :=
  { s with cmi := { s.cmi with words := s.cmi.words.setIfInBounds i v } }

/-- The values of words 8 to 15 in a response: the status, the results, and 0 in every word not used (R173). -/
def responseWord (status : CommandStatus) (results : List Word) (i : Nat) : Word :=
  if i = 8 then word status.code else (results[i - 9]?).getD 0

/-- The response replaces words 8 to 15. -/
def Cmi.respond (c : Cmi) (status : CommandStatus) (results : List Word) : Cmi :=
  { c with
    words := Vector.ofFn (fun i : Fin 16 =>
      if i.val < 8 then c.words[i] else responseWord status results i.val) }

/-- CMI answers a command. -/
def State.answer (s : State) (status : CommandStatus) (results : List Word) : State :=
  { s with cmi := s.cmi.respond status results }

/-- The answer BAD_PARAM with the first parameter word found wrong. -/
def State.badParam (s : State) (i : Nat) : State := s.answer .badParam [word i]

/-- The answer NOT_NOW with the mode in force. -/
def State.notNow (s : State) : State := s.answer .notNow [word s.mdc.mode.code]

/-! ### Fields of result words -/

/-- A number in a field of a result word. -/
def field (lo width n : Nat) : Nat := n % 2 ^ width * 2 ^ lo

/-- An absent number reads 0 (R181). -/
def numOr (n : Option Nat) : Word := word (n.getD 0)

/-! ### STATUS (Table 12.4, Table 13.4) -/

/-- The mode, in word 9 of every page. -/
def State.pageHead (s : State) : Nat := field 0 4 s.mdc.mode.code

/-- Page 0: the channel. -/
def State.pageChannel (s : State) : List Word :=
  [word (s.pageHead + field 8 5 s.mdc.cause.code + flagAt 16 s.mdc.chen + flagAt 17 s.vtu.last.isSome +
      flagAt 18 s.ptl.riding + flagAt 19 s.ptl.timer.isSome + field 24 3 s.ptl.kind.code),
    s.evu.msTime, wordOr s.vtu.last, numOr (s.ptl.place.map (·.region.val)),
    numOr (s.ptl.place.map (·.word)), numOr s.ptl.timer]

/-- Pages 1 and 2: the partner of a port. -/
def State.pagePartner (s : State) (p : Port) : List Word :=
  let l := s.link p
  [word (s.pageHead + flagAt 8 l.up + flagAt 9 l.partner.lost + flagAt 10 l.partner.suspect +
      flagAt 11 (s.expectedVoter p) + flagAt 12 l.partner.cycle.isSome +
      field 16 4 (modeField l.partner.mode) + field 20 3 l.partner.role.code +
      field 24 2 l.partner.absence),
    s.evu.msTime, wordOr l.partner.cycle, word (field 0 5 l.tx.length + field 8 4 l.rx.length)]

/-- The kind of a service (Table 13.4). -/
def ServiceKind.code : ServiceKind → Nat
  | .reentry => 0 | .repair => 1

/-- Page 3: the source service. -/
def State.pageSource (s : State) : List Word :=
  match s.rse.service with
  | none => [word (s.pageHead + field 8 3 s.role.code), s.evu.msTime]
  | some v =>
    [word (s.pageHead + field 8 3 s.role.code + flagAt 11 true + field 12 1 v.kind.code +
        field 13 1 (portCode v.port)),
      s.evu.msTime, word (v.map.countP (fun e => e.2 == .sent)), word v.map.length,
      word v.resend.length,
      word (field 0 5 v.forwards + field 8 2 v.segments + field 16 2 v.marks)]

/-- The phases, numbered in the order of Tables 9.2 and 10.1 (log entry 62). -/
def ReentryPhase.code : ReentryPhase → Nat
  | .asking => 0 | .receiving => 1

/-- The phases of a repair (log entry 62). -/
def RepairPhase.code : RepairPhase → Nat
  | .asking => 0 | .receiving => 1 | .auditing => 2

/-- The re-entry fields of page 4's word 9. Of the tried set, port A is the lower bit (log entry 62). -/
def reentryFields : Option Reentry → Nat
  | none => 0
  | some v =>
    flagAt 8 true + field 9 1 v.phase.code + field 10 1 (portCode v.asked) + flagAt 11 v.triedA +
      flagAt 12 v.triedB + flagAt 13 v.copyEnd + flagAt 14 v.auditsDone + flagAt 15 v.source.isSome +
      flagAt 16 v.join.isSome

/-- The repair fields of page 4's word 9. Of the tried set, port A is the lower bit (log entry 62). In AUDITING the asked
port and the tried set read as they were last (log entry 65). -/
def repairFields : Option Repair → Nat
  | none => 0
  | some v =>
    flagAt 17 true + field 18 2 v.phase.code + field 20 1 (portCode v.asked) + flagAt 21 v.triedA +
      flagAt 22 v.triedB

/-- Page 4: the target service. -/
def State.pageTarget (s : State) : List Word :=
  [word (s.pageHead + reentryFields s.rse.reentry + repairFields s.rse.repair +
      flagAt 23 (!s.rse.repairList.isEmpty) + field 24 4 s.rse.repairList.length),
    s.evu.msTime, wordOr (s.rse.reentry.bind (·.source)), wordOr (s.rse.reentry.bind (·.join)),
    numOr s.rse.repairList.head?]

/-- The results of a page. -/
def State.page (s : State) : Nat → List Word
  | 0 => s.pageChannel
  | 1 => s.pagePartner .a
  | 2 => s.pagePartner .b
  | 3 => s.pageSource
  | _ => s.pageTarget

/-! ### VOTE_READ (R115, section 13.3) -/

/-- The fields of a record in word 9 of part 0. The expected set is given while the record is OPEN. -/
def VoteRecord.fields (r : VoteRecord) : Nat :=
  flagAt 7 true + flagAt 8 (!r.isOpen) + flagAt 9 r.snapshot.isSome + flagAt 10 r.setA.isSome +
    flagAt 11 r.setB.isSome + flagAt 12 (r.isOpen && r.expectA) + flagAt 13 (r.isOpen && r.expectB) +
    field 16 3 ((r.outcome.map VoteOutcome.code).getD 0)

/-- The sender mode of a set, 15 where it is UNKNOWN (log entry 61); 0 where the set is absent. -/
def setModeField (x : Option PartnerSet) : Nat := (x.map (fun y => modeField y.mode)).getD 0

/-- Part 0. -/
def State.voteState (s : State) (r : Option VoteRecord) : List Word :=
  [word (flagAt 0 s.vtu.last.isSome + flagAt 1 s.vtu.watchdog.isSome + field 2 2 s.vtu.unchecked +
      field 4 3 s.vtu.records.length + (r.map VoteRecord.fields).getD 0 + field 24 7 s.vtu.syncCount),
    wordOr s.vtu.last, numOr s.vtu.watchdog, numOr (r.bind (·.deadline)),
    word (field 0 4 (setModeField (r.bind (·.setA))) + field 8 4 (setModeField (r.bind (·.setB))))]

/-- The result code of an index; 0 where there is none. -/
def resultCode (rs : List (Nat × RegionResult)) (i : Nat) : Nat :=
  ((rs.find? (fun x => x.1 == i)).map (fun x => x.2.code)).getD 0

/-- Eight results of four bits each, from an index on, the lowest index in the lowest bits (log entry 72). -/
def resultWord (rs : List (Nat × RegionResult)) (start : Nat) : Word :=
  word ((List.range 8).foldl (fun n j => n + field (4 * j) 4 (resultCode rs (start + j))) 0)

/-- Part 1; the pseudo-region in bits 0 to 3 of its word (log entry 72). -/
def voteResults (r : Option VoteRecord) : List Word :=
  let rs := (r.map (·.results)).getD []
  [resultWord rs 0, resultWord rs 8, resultWord rs 16, resultWord rs 24,
    word (field 0 4 (resultCode rs tableIndex))]

/-- The table digest of a set; 0 where the set is absent. -/
def setDigest (x : Option PartnerSet) : Nat := (x.map (·.tableDigest)).getD 0

/-- Part 2. -/
def voteDigests (r : Option VoteRecord) : List Word :=
  let a := setDigest (r.bind (·.setA))
  let b := setDigest (r.bind (·.setB))
  [lowWord a, highWord a, lowWord b, highWord b]

/-- The results of a part. -/
def State.votePart (s : State) (cycle : Word) : Nat → List Word
  | 0 => s.voteState (s.recordFor cycle)
  | 1 => voteResults (s.recordFor cycle)
  | _ => voteDigests (s.recordFor cycle)

/-! ### The other readings -/

/-- DIGEST_READ of a record (R65). -/
def State.digestWords (s : State) (i : Fin 32) : List Word :=
  let r := s.record i
  let isDigest := s.isDigestRegion i
  [word (flagAt 0 isDigest + flagAt 1 r.valid + flagAt 2 r.running),
    word (if isDigest then s.regionWords i else 0), lowWord r.digest, highWord r.digest,
    lowWord r.acc, highWord r.acc, word r.pointer]

/-- ROW_TABLE_READ (R43). -/
def State.rowWords (s : State) (position : Nat) : List Word :=
  match s.ret.entries[position]? with
  | none => [0, word s.ret.entries.length, word s.ret.ageing]
  | some e =>
    [word (flagAt 0 true + field 4 3 e.state.code + flagAt 7 e.touched + field 8 4 e.count +
        field 16 8 e.last),
      word s.ret.entries.length, word s.ret.ageing, word e.row, e.firstSeen]

/-- The state of a spare (Table 13.4). -/
def Spare.code : Spare → Nat
  | .free => 0 | .moving _ _ => 1 | .active _ _ => 2 | .retired _ => 3

/-- A spare's replaced row. -/
def Spare.row : Spare → Option Nat
  | .moving r _ => some r
  | .active r _ => some r
  | _ => none

/-- A spare's copy pointer. -/
def Spare.pointer : Spare → Option Nat
  | .moving _ p => some p
  | _ => none

/-- A spare's activation time. -/
def Spare.time : Spare → Option Word
  | .active _ t => some t
  | .retired t => some t
  | _ => none

/-- The number of spares in a state, by its code. -/
def State.sparesIn (s : State) (code : Nat) : Nat := s.srm.spares.toList.countP (fun x => x.code == code)

/-- SPARE_READ (R52). -/
def State.spareWords (s : State) (i : Fin 16) : List Word :=
  let x := s.srm.spares[i]
  [word (field 0 2 x.code + flagAt 2 x.row.isSome + flagAt 3 x.pointer.isSome + flagAt 4 x.time.isSome +
      field 8 5 (s.sparesIn 0) + field 16 5 (s.sparesIn 3)),
    numOr x.row, numOr x.pointer, wordOr x.time]

/-- The flag set as a word (section 13.3). -/
def State.flagWord (s : State) : Word := word s.evu.flags.toNat

/-- CAPTURE_READ (R165). -/
def Capture.resultWords (c : Capture) : List Word :=
  match c.fields with
  | none => [word (field 24 8 c.repeats)]
  | some f =>
    [word (flagAt 0 true + flagAt 1 f.cycle.isSome + flagAt 2 f.address.isSome +
        field 4 3 f.requester.code + field 8 8 f.detail.code + field 16 6 f.detail.extra +
        field 24 8 c.repeats),
      wordOr f.cycle, f.time, numOr f.address]

/-- COUNTERS_READ (R167). -/
def State.counterWords (s : State) (first count : Nat) : List Word :=
  (List.range count).map (fun k => word ((s.evu.counters[first + k]?).getD 0))

/-- The mode and role of a partner in a NO_PARTNER answer (R181); an UNKNOWN mode reads 15 (log entry 61). -/
def State.partnerField (s : State) (p : Port) : Nat :=
  field 0 4 (modeField (s.link p).partner.mode) + field 4 3 (s.link p).partner.role.code

/-- The result word of a NO_PARTNER answer. -/
def State.noPartnerWord (s : State) : Word :=
  word (s.partnerField .a + at_ 8 (s.partnerField .b))

end Sys2Proof.Machine
end

