-- ==== Sys2Proof/Machine/Audits.lean ====
section
/-! DEFINITION. What asks for isolations and services from below: re-entry and repair requests (R130,
R150, R151), repair audits and their reports (R81, R82, R158), the consequence of an uncorrectable word
(R125, R126), and the ends of the walks' operations (R70, R74, R78 to R81). -/

namespace Sys2Proof.Machine

/-! ### Asking for a copy (R130) -/

/-- Whether a port is in the tried set of a re-entry. -/
def Reentry.tried (v : Reentry) : Port → Bool
  | .a => v.triedA
  | .b => v.triedB

/-- A partner asked in a re-entry: the asked port, the tried set and the request time (R130). -/
def Reentry.ask (v : Reentry) (p : Port) : Reentry :=
  { v with
    phase := .asking, asked := p, time := 0
    triedA := v.triedA || p == .a, triedB := v.triedB || p == .b }

/-- The eligible partner not yet tried, the one with the lower identity first. -/
def State.copyCandidate (s : State) (v : Reentry) : Option Port :=
  s.portsByIdentity.find? (fun p => s.eligibleSource p && !v.tried p)

/-- RSE looks for a partner to ask. A request that does not enter the transmit queue counts as refused, and
another partner is looked for; without one the channel is isolated. The number bounds the partners left. -/
def State.seekCopy : Nat → State → State
  | 0, s => s.isolateFor .noSource
  | k + 1, s =>
    match s.rse.reentry with
    | none => s
    | some v =>
      match s.copyCandidate v with
      | none => s.isolateFor .noSource
      | some p =>
        let s' := s.setReentry (some (v.ask p))
        let s'' := s'.offerFrame p (.copyRequest s.dgu.tableDigest)
        if s'.offerResult p = .queued then s'' else seekCopy k s''

/-- A refusal of the request asked (R130): the next partner is looked for. -/
def State.copyRefused (s : State) : State := s.seekCopy 3

/-! ### Asking for a block (R150, R151) -/

/-- Whether a port is in the tried set of a repair. -/
def Repair.tried (v : Repair) : Port → Bool
  | .a => v.triedA
  | .b => v.triedB

/-- A partner asked for the head block (R151). -/
def Repair.ask (v : Repair) (p : Port) : Repair :=
  { v with
    phase := .asking, asked := p, time := 0, written := []
    triedA := v.triedA || p == .a, triedB := v.triedB || p == .b }

/-- The same with the tried set empty before, so that it holds the port asked alone. -/
def Repair.fresh (v : Repair) : Repair := { v with triedA := false, triedB := false }

/-- The partner that is an expected voter and not yet tried, the one with the lower identity first. -/
def State.repairCandidate (s : State) (v : Repair) : Option Port :=
  s.portsByIdentity.find? (fun p => s.expectedVoter p && !v.tried p)

/-- The head of the repair list, where there is one. -/
def State.headBlock (s : State) : Option Nat := s.rse.repairList.head?

/-- The REPAIR_REQUEST for the head block (R151). -/
def State.repairRequestFrame (s : State) : Frame :=
  .repairRequest s.dgu.tableDigest (s.headBlock.getD 0)

/-- RSE asks one partner for the head block. -/
def State.askBlock (s : State) (v : Repair) (p : Port) : State :=
  (s.setRepair (some (v.ask p))).offerFrame p s.repairRequestFrame

/-- Whether that request enters the transmit queue. -/
def State.blockAsked (s : State) (p : Port) : Bool := s.offerResult p == .queued

/-- RSE looks for a partner for the head block; without one the channel is isolated with NO_SOURCE (R151). -/
def State.seekBlock : Nat → State → State
  | 0, s => s.isolateFor .noSource
  | k + 1, s =>
    match s.rse.repair with
    | none => s
    | some v =>
      match s.repairCandidate v with
      | none => s.isolateFor .noSource
      | some p => if s.blockAsked p then s.askBlock v p else seekBlock k (s.askBlock v p)

/-- A refusal of the repair request: another partner is sought. -/
def State.blockRefused (s : State) : State := s.seekBlock 3

/-- The head block is asked for from one port, with the tried set holding that port alone (R156). -/
def State.askFrom (s : State) (p : Port) : State :=
  match s.rse.repair with
  | none => s
  | some v =>
    if s.blockAsked p then s.askBlock v.fresh p else (s.askBlock v.fresh p).blockRefused

/-- The head block is asked for from the lower-identity expected voter (R150). -/
def State.askFirst (s : State) : State :=
  match s.rse.repair with
  | none => s
  | some v => (s.setRepair (some v.fresh)).blockRefused

/-! ### Repair audits (R81, R82, R158) -/

/-- The repair audit failed: the channel is isolated (R158). -/
def State.repairFailed (s : State) : State := s.isolateFor .repairFailed

/-- The repair audit succeeded (R158). -/
def State.repairSucceeded (s : State) : State :=
  ((s.requestMode .run).setRepair none).fire .repairDone

/-- The repair audit was stopped because a block joined the list (R158). -/
def State.repairStopped (s : State) : State := s.askFirst

/-- The walk of a repair audit comes to a named region: an INVALID record is reported as failed (R81). At every end of
a repair audit RSE acts on the report before PTL resumes the scrub (log entry 53). -/
def State.enterRepairAudit (s : State) (i : Fin 32) : State :=
  if (s.record i).valid then s.enterAudit i else s.repairFailed.resumeScrub

/-- The walk goes to the next named region, or the repair audit has succeeded (R81). -/
def State.nextRepairAudit (s : State) (i : Fin 32) : State :=
  match nextRegion s.ptl.auditList i with
  | some j => s.enterRepairAudit j
  | none => s.repairSucceeded.resumeScrub

/-- A repair audit of the named regions begins; the SCRUB pass is suspended (R81), its riding-audit flag with it, and
the walk's own flag is off (log entry 54). -/
def State.beginRepairAudit (s : State) (regions : List (Fin 32)) : State :=
  let s' := s.setPtl { s.ptl with
    kind := .repairAudit, place := none, riding := false
    suspended := some (s.ptl.place, s.ptl.riding), auditList := regions, asked := [] }
  match regions with
  | i :: _ => s'.enterRepairAudit i
  | [] => s'.repairSucceeded.resumeScrub

/-- RSE asks for a repair audit. A scrub read in flight ends first (R81, log entry 26). -/
def State.askRepairAudit (s : State) (regions : List (Fin 32)) : State :=
  if s.scrubInFlight then s.setPtl { s.ptl with asked := regions } else s.beginRepairAudit regions

/-- The repaired regions in ascending index order. -/
def State.repairedRegions (v : Repair) : List (Fin 32) := allRegions.filter (fun i => i ∈ v.repaired)

/-! ### A block joins the repair list (R69, R73, R82) -/

/-- The riding audit, running or suspended, of the region holding the block is abandoned (R73). -/
def State.abandonRiding (s : State) (i : Fin 32) : State :=
  match s.ptl.kind, s.ptl.place with
  | .scrub, some pl => if s.ptl.riding && pl.region == i then s.stopRiding i else s
  | _, _ =>
    match s.ptl.suspended with
    | some (some pl, true) =>
      if pl.region = i then
        (s.updateRecord i DigestRecord.auditStop).setPtl { s.ptl with suspended := some (some pl, false) }
      else s
    | _ => s

/-- PTL and RSE at the moment a block of a region joins the list: the riding audit is abandoned, a repair
audit in progress or asked for is stopped and reported, and a scrub read not yet granted is withdrawn. RSE acts on the
report before PTL resumes the scrub (R82, log entry 53). -/
def State.blockJoined (s : State) (i : Fin 32) : State :=
  let s' := s.abandonRiding i
  if s'.ptl.kind = .repairAudit then
    (((s'.forget WordOp.ofS).stopAuditHere).repairStopped).resumeScrub
  else if s'.ptl.asked ≠ [] then (s'.setPtl { s'.ptl with asked := [] }).repairStopped
  else if s'.scrubInFlight then s'
  else s'.skip

/-! ### Uncorrectable words (R125, R126) -/

/-- A block joins the tail of the repair list. -/
def State.listBlock (s : State) (b : Nat) : State :=
  s.setRse { s.rse with repairList := s.rse.repairList ++ [b] }

/-- The record of a repair when the mode becomes REPAIR (R150). No partner has been asked yet, and the asked port of the
record stands for none (log entry 51). -/
def Repair.new : Repair :=
  { phase := .asking, asked := .a, triedA := false, triedB := false, time := 0, written := [],
    repaired := [] }

/-- The repair consequence in RUN: the source service ends, the block joins the list, the mode becomes REPAIR
and a partner is asked (R126, R150). -/
def State.enterRepair (s : State) (i : Fin 32) (b : Nat) : State :=
  let s1 := ((s.endService (some serviceEndedReason)).listBlock b).requestMode .repair
  ((s1.blockJoined i).setRepair (some Repair.new)).askFirst

/-- The repair consequence in REPAIR: the block joins the list, or as the ninth isolates the channel (R126). -/
def State.joinRepair (s : State) (i : Fin 32) (b : Nat) : State :=
  if b ∈ s.rse.repairList then s
  else if s.rse.repairList.length < Config.repairSize then (s.listBlock b).blockJoined i
  else s.isolateFor .repairOverflow

/-- MDC applies Table 8.4 to an uncorrectable word (R125). -/
def State.consequence (s : State) (pl : WordPlace) (addr : Nat) : State :=
  match pl.cls, s.mdc.mode with
  | .vital, .sync => s.isolateFor .vitalDamage
  | .vital, .run => s.isolateFor .vitalDamage
  | .vital, .repair => s.isolateFor .vitalDamage
  | .vital, .verify => s.isolateFor .vitalDamage
  | .vital, .ready => s.isolateFor .vitalDamage
  | .constant, .sync => s.isolateFor .vitalDamage
  | .constant, .run => s.enterRepair pl.region (blockOf addr)
  | .constant, .repair => s.joinRepair pl.region (blockOf addr)
  | .constant, .verify => s.isolateFor .vitalDamage
  | .constant, .ready => s.isolateFor .vitalDamage
  | _, _ => s

/-! ### The ends of the patrol's operations -/

/-- The modes in which a drift of the riding audit isolates the channel (R74). -/
def Mode.driftIsolates : Mode → Bool
  | .sync => true | .run => true | .repair => true | .ready => true | _ => false

/-- The riding audit of a region ended DRIFT (R74). -/
def State.ridingDrift (s : State) : State :=
  let s' := s.fire .digestDrift
  if s'.mdc.mode.driftIsolates then s'.isolateFor .digestDrift else s'

/-- DGU's answer to an audit word handed now. -/
def State.auditAnswer (s : State) (i : Fin 32) (w : Nat) (v : Word) : AuditAnswer :=
  (s.record i).auditAnswer (s.regionWords i) w v

/-- An audit word is handed to DGU (R60). -/
def State.handAudit (s : State) (i : Fin 32) (w : Nat) (v : Word) : State :=
  s.updateRecord i (fun r => r.auditWord (s.regionWords i) w v)

/-- What PTL does with DGU's answer to a riding audit word (R70, R73, R74). -/
def State.ridingAnswer (s : State) (a : AuditAnswer) : State :=
  match a with
  | .notRunning => s.setPtl { s.ptl with riding := false }
  | .drift => s.ridingDrift
  | _ => s

/-- A scrub read's value at PTL: handed as an audit word while the riding audit is on (R70). -/
def State.scrubWord (s : State) (i : Fin 32) (w : Nat) (o : ReadOutcome) (v : Word) : State :=
  if !s.ptl.riding then s
  else if o = .uncorrectable then s.stopRiding i
  else (s.handAudit i w v).ridingAnswer (s.auditAnswer i w v)

/-- A repair audit asked for while the scrub read was in flight begins now. -/
def State.beginAsked (s : State) : State :=
  match s.ptl.asked with
  | [] => s
  | rs => s.beginRepairAudit rs

/-- The pass moves on from the word just read: to the next word, past the region's end, or past a listed block
(R69, R70). -/
def State.scrubOn (s : State) (i : Fin 32) (w : Nat) : State := (s.scrubTo i (w + 1)).skip

/-- PTL takes the end of a scrub read that it waits for (R70). -/
def State.scrubEnd (s : State) (i : Fin 32) (w : Nat) (o : ReadOutcome) (v : Word) : State :=
  ((s.scrubWord i w o v).scrubOn i w).beginAsked

/-- The VERIFY audit pass goes to the next digest region, or completes and RSE sets its audits-complete flag
(R80, R144). -/
def State.nextVerify (s : State) (i : Fin 32) : State :=
  match nextRegion s.digestRegions i with
  | some j => s.enterAudit j
  | none =>
    (s.setPtl Ptl.initial).setReentry (s.rse.reentry.map (fun v => { v with auditsDone := true }))

/-- The position moves to the next word of an audit walk. -/
def State.auditOn (s : State) (i : Fin 32) (w : Nat) : State :=
  s.setPtl { s.ptl with place := some { region := i, word := w + 1 } }

/-- PTL takes DGU's answer in the VERIFY audit pass (R79). -/
def State.verifyAnswer (s : State) (i : Fin 32) (w : Nat) (a : AuditAnswer) : State :=
  match a with
  | .taken => s.auditOn i w
  | _ => s.nextVerify i

/-- PTL takes DGU's answer in a repair audit (R81). Only a MATCH lets it go on to the next region; that DGU
answers that the audit is not running, or establishes a record, cannot arise there (R82, log entry 40). -/
def State.repairAnswer (s : State) (i : Fin 32) (w : Nat) (a : AuditAnswer) : State :=
  match a with
  | .taken => s.auditOn i w
  | .matched => s.nextRepairAudit i
  | .drift => ((s.fire .digestDrift).repairFailed).resumeScrub
  | .notRunning => s.repairFailed.resumeScrub
  | .established => s.repairFailed.resumeScrub

/-- PTL takes the end of an audit read that it waits for; an UNCORRECTABLE one adds no term and stops the
audit (R60, R79). -/
def State.auditEnd (s : State) (i : Fin 32) (w : Nat) (o : ReadOutcome) (v : Word) : State :=
  if o = .uncorrectable then (s.updateRecord i DigestRecord.auditStop).auditOn i w
  else
    let a := s.auditAnswer i w v
    let s' := s.handAudit i w v
    if s.ptl.kind = .verifyAudit then s'.verifyAnswer i w a
    else if s.ptl.kind = .repairAudit then s'.repairAnswer i w a
    else s'

/-- PTL takes the end of a clear write: the next word, the next valid region, or the completion, which makes
the records VALID and then asks for SYNC (R77, R78). -/
def State.clearEnd (s : State) (i : Fin 32) (w : Nat) : State :=
  if w + 1 < s.regionWords i then s.auditOn i w
  else
    match nextRegion s.validRegions i with
    | some j => s.setPtl { s.ptl with place := some { region := j, word := 0 } }
    | none => s.validateCleared.requestMode .sync

end Sys2Proof.Machine
end

