-- ==== Sys2Proof/Machine/Settings.lean ====
section
/-! DEFINITION. The settings (section 12.4): their names, ranges, the modes in which each is writable, and the
effects of a new value (R41, R168, R170, R177, R178). -/

namespace Sys2Proof.Machine

/-- A setting as a command names it (Table 12.5). -/
inductive Setting where
  | scrubRate | coverLimit | sourceRate | cycleLimit | voteDeadline | syncLimit | agePeriod
  | weakLimit | noticeGap
  | style (l : NoticeName)
  | route (i : Fin 24)
  | captureMode (k : CaptureClass)
deriving DecidableEq, Repr

/-- A flag index of a ROUTE setting. -/
def routeOf (i : Nat) : Option Setting := if h : i < 24 then some (.route ⟨i, h⟩) else none

/-- The setting a parameter word names: the identifier in bits 0 to 7, the flag index or class in bits 8 to 15
(section 13.3, R181). -/
def settingOf (w : Word) : Option Setting :=
  match bits w 0 8 with
  | 0x40 => some .scrubRate
  | 0x41 => some .coverLimit
  | 0x42 => some .sourceRate
  | 0x43 => some .cycleLimit
  | 0x44 => some .voteDeadline
  | 0x45 => some .syncLimit
  | 0x46 => some .agePeriod
  | 0x47 => some .weakLimit
  | 0x48 => some .noticeGap
  | 0x49 => some (.style .na)
  | 0x4A => some (.style .nb)
  | 0x4B => routeOf (bits w 8 8)
  | 0x4C => (CaptureClass.ofCode (bits w 8 8)).map .captureMode
  | _ => none

/-- The three timing settings of the vote are writable in START, LOAD, LOADED and ISOLATED, the others in every
mode (Table 12.5). -/
def Setting.writable (st : Setting) (m : Mode) : Bool :=
  match st with
  | .cycleLimit => m == .start || m == .load || m == .loaded || m == .isolated
  | .voteDeadline => m == .start || m == .load || m == .loaded || m == .isolated
  | .syncLimit => m == .start || m == .load || m == .loaded || m == .isolated
  | _ => true

/-- The lower limit of a setting's range. -/
def Setting.lower : Setting → Nat
  | .scrubRate => 0
  | .coverLimit => 1
  | .sourceRate => 1
  | .cycleLimit => 10
  | .voteDeadline => 2
  | .syncLimit => 2
  | .agePeriod => 0
  | .weakLimit => 2
  | .noticeGap => 0
  | .style _ => 0
  | .route _ => 0
  | .captureMode _ => 0

/-- The upper limit of a setting's range; that of VOTE_DEADLINE follows the CYCLE_LIMIT in force (R178). -/
def Setting.upper (c : Settings) : Setting → Nat
  | .scrubRate => 64
  | .coverLimit => 3600
  | .sourceRate => 64
  | .cycleLimit => 5000
  | .voteDeadline => c.cycleLimit / 2
  | .syncLimit => 64
  | .agePeriod => 255
  | .weakLimit => 15
  | .noticeGap => 255
  | .style _ => 1
  | .route _ => 3
  | .captureMode _ => 1

/-- A value clamped to a setting's range (R177). -/
def Settings.clamp (c : Settings) (st : Setting) (v : Nat) : Nat :=
  if v < st.lower then st.lower else if st.upper c < v then st.upper c else v

/-- The numbers of the enumerated settings, in the order of the Range column from 0. -/
def LineStyle.code : LineStyle → Nat
  | .level => 0 | .pulse => 1

/-- The style of a number. -/
def LineStyle.ofCode (n : Nat) : LineStyle := if n = 0 then .level else .pulse

/-- ROUTE values. -/
def Route.code : Route → Nat
  | .none => 0 | .a => 1 | .b => 2 | .both => 3

/-- The ROUTE value of a number. -/
def Route.ofCode (n : Nat) : Route :=
  if n = 0 then .none else if n = 1 then .a else if n = 2 then .b else .both

/-- CAPTURE_MODE values. -/
def CaptureMode.code : CaptureMode → Nat
  | .first => 0 | .last => 1

/-- The CAPTURE_MODE value of a number. -/
def CaptureMode.ofCode (n : Nat) : CaptureMode := if n = 0 then .first else .last

/-- The value of a setting in force. -/
def Settings.value (c : Settings) : Setting → Nat
  | .scrubRate => c.scrubRate
  | .coverLimit => c.coverLimit
  | .sourceRate => c.sourceRate
  | .cycleLimit => c.cycleLimit
  | .voteDeadline => c.voteDeadline
  | .syncLimit => c.syncLimit
  | .agePeriod => c.agePeriod
  | .weakLimit => c.weakLimit
  | .noticeGap => c.noticeGap
  | .style l => (c.style l).code
  | .route i => c.route[i].code
  | .captureMode k => c.captureMode[k.index].code

/-- A value stored, already clamped; a CYCLE_LIMIT re-clamps VOTE_DEADLINE (R178). -/
def Settings.put (c : Settings) (st : Setting) (v : Nat) : Settings :=
  match st with
  | .scrubRate => { c with scrubRate := v }
  | .coverLimit => { c with coverLimit := v }
  | .sourceRate => { c with sourceRate := v }
  | .cycleLimit => { c with cycleLimit := v, voteDeadline := min c.voteDeadline (v / 2) }
  | .voteDeadline => { c with voteDeadline := v }
  | .syncLimit => { c with syncLimit := v }
  | .agePeriod => { c with agePeriod := v }
  | .weakLimit => { c with weakLimit := v }
  | .noticeGap => { c with noticeGap := v }
  | .style .na => { c with styleA := LineStyle.ofCode v }
  | .style .nb => { c with styleB := LineStyle.ofCode v }
  | .route i => { c with route := c.route.set i (Route.ofCode v) }
  | .captureMode k => { c with captureMode := c.captureMode.set k.index (CaptureMode.ofCode v) }

/-- Whether a write of a value clamps either value that it stores (R177, R178). A value outside the range is clamped also
where its limit is the value already held, which R177 could be read to answer DONE (log entry 68). -/
def Settings.clamps (c : Settings) (st : Setting) (v : Nat) : Bool :=
  c.clamp st v != v ||
    (st == .cycleLimit && decide (c.clamp st v / 2 < c.voteDeadline))

/-! ### The effects of a new value -/

/-- A new NOTICE_GAP ends a gap that has already lasted as long (R170). -/
def State.cutGap (s : State) (l : NoticeName) : State :=
  let c := s.cmi.settings
  let n := s.evu.line l
  if c.style l = .pulse && n.gapOver c.noticeGap then
    { s with evu := s.evu.setLine l (n.gapEnd (anyRouted c s.evu.flags l)) }
  else s

/-- The effects of a setting whose stored value has changed: WEAK_LIMIT on the row error table (R41), the styles,
the gap and the routes on the notice lines (R168, R170). The others act where they are next read. -/
def State.settingActs (s : State) (st : Setting) : State :=
  match st with
  | .weakLimit => s.applyWeakLimit
  | .style l => { s with evu := s.evu.setLine l NoticeLine.initial }
  | .noticeGap => (s.cutGap .na).cutGap .nb
  | .route _ => { s with evu := s.evu.earlyEnds s.cmi.settings }
  | _ => s

/-- A setting stored, with its effects; a value already held changes nothing (R177). -/
def State.storeSetting (s : State) (st : Setting) (v : Nat) : State :=
  let c := s.cmi.settings.put st v
  if c = s.cmi.settings then s
  else ({ s with cmi := { s.cmi with settings := c } }).settingActs st

end Sys2Proof.Machine
end

