-- ==== Sys2Proof/Machine/Ops.lean ====
section
/-! DEFINITION. The channel memory as the memory port sees it (R21, R22): stored words by physical
location, the outcome of a read slot, and write slots. -/

namespace Sys2Proof.Machine

/-! ### The listed words -/

/-- The key of a physical location: row × 256 + word index (R23). -/
def cellKey (row word : Nat) : Nat := row * Config.rowWords + word

/-- What a location stores, where something is listed for it. -/
def memLookup (mem : List MemoryCell) (key : Nat) : Option Stored :=
  (mem.find? (fun c => c.1 == key)).map (·.2)

/-- List a stored word at a location, keeping locations strictly rising. -/
def memInsert (key : Nat) (w : Stored) : List MemoryCell → List MemoryCell
  | [] => [(key, w)]
  | c :: cs =>
    if key < c.1 then (key, w) :: c :: cs
    else if key = c.1 then (key, w) :: cs
    else c :: memInsert key w cs

/-- The canonical form: locations strictly rising. Nothing is listed for a word that has not been looked
at or written since POR (R21, log entry 8). -/
def memWf : List MemoryCell → Bool
  | [] => true
  | [_] => true
  | a :: b :: cs => decide (a.1 < b.1) && memWf (b :: cs)

/-! ### Decoding a stored word (R22) -/

/-- How many of the 39 stored bits are wrong. -/
def wrongBits (flips : BitVec 39) : Nat := (List.range 39).countP (fun i => flips.getLsbD i)

/-- The 32 data bits as they stand in memory: bits 0 to 31 of the 39, those gone wrong among them (R22). -/
def Stored.bits (w : Stored) : Word := w.data ^^^ w.flips.setWidth 32

/-- The word with one of the 39 bits corrected: a check bit leaves the data (Table 2.1). -/
def correctBit (v : Word) (b : Fin 39) : Word := if b.val < 32 then v ^^^ (1#32 <<< b.val) else v

/-- The outcome of a read slot (Table 2.1): by the number of wrong bits for none, one and two, and free for three or
more. -/
def decodeOutcome (w : Stored) : ReadOutcome :=
  if wrongBits w.flips = 0 then .clean
  else if wrongBits w.flips = 1 then .corrected
  else if wrongBits w.flips = 2 then .uncorrectable
  else Config.wideOutcome w.data w.flips

/-- The data that a CORRECTED outcome hands on: with the one wrong bit corrected, or, where three or more are wrong, with
the bit corrected that the decode takes for it. -/
def correctedData (w : Stored) : Word :=
  if wrongBits w.flips = 1 then w.data else correctBit w.bits (Config.wideBit w.data w.flips)

/-- The outcome and the data handed on (Table 2.1): the stored data for CLEAN, zero for UNCORRECTABLE. -/
def readResult (w : Stored) : ReadOutcome × Word :=
  match decodeOutcome w with
  | .clean => (.clean, w.bits)
  | .corrected => (.corrected, correctedData w)
  | .uncorrectable => (.uncorrectable, 0)

/-- What stands at a location when a read slot looks at it: the listed word, or the sample's data for a
word nothing has written since POR, with the sample's upsets (log entries 6 and 8). -/
def sampled (mem : List MemoryCell) (key : Nat) (m : CellSample) : Stored :=
  match memLookup mem key with
  | some w => { w with flips := w.flips ^^^ m.upset }
  | none => { data := m.fill, flips := m.upset }

/-! ### Slots -/

/-- A read slot at a physical location: the memory as it then stands, the outcome and the data. -/
def State.readSlot (s : State) (row word : Nat) (m : CellSample) : State × ReadOutcome × Word :=
  let w := sampled s.mem (cellKey row word) m
  ({ s with mem := memInsert (cellKey row word) w s.mem }, readResult w)

/-- A write slot: the data with check bits newly computed (R22). -/
def State.writeSlot (s : State) (row word : Nat) (v : Word) : State :=
  { s with mem := memInsert (cellKey row word) { data := v, flips := 0 } s.mem }

/-- The write of a group: to the current row, and to the moving spare row where the group's grant found the
word below the copy pointer (R28). -/
def State.writeRows (s : State) (row word : Nat) (mirror : Option Nat) (v : Word) : State :=
  match mirror with
  | none => s.writeSlot row word v
  | some spare => (s.writeSlot row word v).writeSlot spare word v

end Sys2Proof.Machine
end

