-- ==== Sys2Proof/Machine/Sequencer.lean ====
section
/-! DEFINITION. The memory sequencer (MSQ, chapter 2): what each requester presents, the arbiter, the slots of
a group and the reports made when it ends. -/

namespace Sys2Proof.Machine

/-! ### What the requesters present (R24, R47, R66, R134, R143, R155; log entry 11) -/

/-- P: the next word of the transaction TXI holds (R17). -/
def State.opP (s : State) : Option WordOp :=
  match s.txi.held with
  | none => none
  | some h =>
    match h.writes with
    | (v, mask) :: _ => some (if mask = fullMask then .pWrite h.next v else .pPartial h.next v mask)
    | [] => if 0 < h.reads then some (.pRead h.next) else none

/-- The write a frame in work at a port presents. -/
def FrameWork.op (w : FrameWork) (p : Port) : Option WordOp :=
  match w.words with
  | v :: _ => some (if w.restoring then .restoringWrite p w.next v else .frameWrite p w.next v)
  | [] => none

/-- X as target: a frame in work, port A's first (log entry 31). -/
def State.opTarget (s : State) : Option WordOp :=
  match s.lkc.a.work.bind (·.op .a) with
  | some o => some o
  | none => s.lkc.b.work.bind (·.op .b)

/-- X: target writes, or as source the copy read at the read pointer. -/
def State.opX (s : State) : Option WordOp :=
  match s.opTarget with
  | some o => some o
  | none => (s.rse.service.bind (·.readAddress)).map .copyRead

/-- M: the copy of the word at the copy pointer, while the mode permits moves (R47). -/
def State.opM (s : State) : Option WordOp :=
  match s.moving with
  | some (_, row, ptr) =>
    if s.mdc.mode.permitsMoves then (s.logicalOf row).map (fun r => .moveCopy (r * 1024 + 4 * ptr)) else none
  | none => none

/-- S: the word at the walk's position. -/
def State.opS (s : State) : Option WordOp :=
  match s.ptl.place with
  | none => none
  | some pl =>
    let addr := s.wordAddress pl.region pl.word
    match s.ptl.kind with
    | .scrub => some (.scrubRead pl.region pl.word addr)
    | .clear => some (.clearWrite pl.region pl.word addr)
    | .verifyAudit => some (.auditRead pl.region pl.word addr)
    | .repairAudit => some (.auditRead pl.region pl.word addr)
    | .none => none

/-! ### Credit and eligibility (R33, R35) -/

/-- Whether an operation has credit (Table 2.5). -/
def State.hasCredit (s : State) : WordOp → Bool
  | .scrubRead .. => 0 < s.msq.scrubCredit
  | .copyRead .. => 0 < s.msq.sourceCredit
  | _ => true

/-- The first eligible waiting background operation, in the order X, M, S (R33). -/
def State.background (s : State) : Option WordOp :=
  match s.opX.filter s.hasCredit with
  | some o => some o
  | none =>
    match s.opM with
    | some o => some o
    | none => s.opS.filter s.hasCredit

/-- The credit an operation draws at its grant. -/
def Msq.draw (q : Msq) : WordOp → Msq
  | .scrubRead .. => { q with scrubCredit := q.scrubCredit - 1 }
  | .copyRead .. => { q with sourceCredit := q.sourceCredit - 1 }
  | _ => q

/-! ### The group of an operation (R23, R25, R28, R36) -/

/-- The logical address of an operation. -/
def WordOp.addr : WordOp → Nat
  | .pRead a => a
  | .pWrite a _ => a
  | .pPartial a _ _ => a
  | .copyRead a => a
  | .frameWrite _ a _ => a
  | .restoringWrite _ a _ => a
  | .moveCopy a => a
  | .scrubRead _ _ a => a
  | .auditRead _ _ a => a
  | .clearWrite _ _ a => a

/-- Whether an operation's write may be digest-updating: a write by P or a frame write (R25, R26). -/
def WordOp.mayUpdate : WordOp → Bool
  | .pWrite .. => true
  | .pPartial .. => true
  | .frameWrite .. => true
  | _ => false

/-- Whether an operation carries an audit word: an audit read, or a scrub read while the audit rides (R32). -/
def State.carriesAudit (s : State) : WordOp → Bool
  | .auditRead .. => true
  | .scrubRead .. => s.ptl.riding
  | _ => false

/-- The spare row a group also writes: the target of a row-move copy, or the moving spare for a word below the
copy pointer (R28, R29). -/
def State.mirrorFor (s : State) (op : WordOp) (row word : Nat) : Option Nat :=
  match op with
  | .moveCopy _ => s.moving.map (fun m => s.spareRow m.1)
  | _ => s.mirrorOf row word

/-- The group of an operation as its grant fixes it. -/
def State.groupOf (s : State) (op : WordOp) (counted : Bool) : Group :=
  let row := s.currentRow (op.addr / 1024)
  let idx := op.addr % 1024 / 4
  let place := s.placeOf op.addr
  { op, row, word := idx, mirror := s.mirrorFor op row idx, place
    updating := op.mayUpdate && s.updates place
    counted, audit := s.carriesAudit op, live := true }

/-- The slots of a granted group that are certain at its grant (Table 2.3); the write-back of a CORRECTED read
is counted when it proves needed (log entry 10). -/
def Group.slots (g : Group) : Nat :=
  let writes := if g.mirror.isSome then 2 else 1
  match g.op with
  | .pRead _ => 1
  | .pPartial _ _ _ => 1 + writes
  | _ => if g.updating then 1 + writes else writes

/-- The slots of the write-back of a CORRECTED read. -/
def Group.backSlots (g : Group) : Nat := if g.mirror.isSome then 2 else 1

/-- The port is granted to P (R34). -/
def State.grantP (s : State) (op : WordOp) : State :=
  let waits := s.background.isSome
  let g := s.groupOf op waits
  { s with msq := { s.msq with
      port := some g, yieldCount := if waits then s.msq.yieldCount + g.slots else 0 } }

/-- The copy engine takes the block of the copy read being granted, where it has not taken it (log entry 20). -/
def State.startCopy (s : State) (op : WordOp) : State :=
  match op with
  | .copyRead _ => s.setService (s.rse.service.map (·.takeNext))
  | _ => s

/-- The port is granted to a background requester (R34, R35). -/
def State.grantBackground (s : State) (op : WordOp) : State :=
  ({ s with msq := { s.msq.draw op with port := some (s.groupOf op false), yieldCount := 0 } }).startCopy op

/-- The arbiter makes a grant where the port is free and a requester waits and is eligible (R33, R34). -/
def State.arbitrate (s : State) : State :=
  if s.msq.port.isSome then s
  else
    match s.opP, s.background with
    | some p, some b => if 8 ≤ s.msq.yieldCount then s.grantBackground b else s.grantP p
    | some p, none => s.grantP p
    | none, some b => s.grantBackground b
    | none, none => s

/-! ### Reports (R30 to R32) -/

/-- The requester a capture names. -/
def WordOp.requester : WordOp → Requester
  | .pRead _ => .p
  | .pWrite _ _ => .p
  | .pPartial _ _ _ => .p
  | .copyRead _ => .xSource
  | .frameWrite _ _ _ => .xTarget
  | .restoringWrite _ _ _ => .xTarget
  | .moveCopy _ => .m
  | .scrubRead _ _ _ => .s
  | .auditRead _ _ _ => .s
  | .clearWrite _ _ _ => .s

/-- The detail of a MEMORY capture (Table 2.4). -/
def WordOp.detail : WordOp → MemoryDetail
  | .pWrite _ _ => .oldValue
  | .frameWrite _ _ _ => .oldValue
  | .pPartial _ _ _ => .merge
  | .moveCopy _ => .moveCopy
  | _ => .read

/-- A read slot with the outcome CORRECTED (R30). -/
def State.reportCorrected (s : State) (g : Group) : State :=
  ((s.count .corrected).fire .memCorrected).reportRow g.row g.word

/-- A read slot with the outcome UNCORRECTABLE (R31). -/
def State.reportUncorrectable (s : State) (g : Group) : State :=
  let s' := ((s.count .uncorrectable).fire .memUncorrectable).offerCapture .memory g.op.requester
    (some g.op.addr) (.memory g.op.detail)
  match g.place with
  | some pl => s'.consequence pl g.op.addr
  | none => s'

/-- The report of a read slot's outcome. -/
def State.reportOutcome (s : State) (g : Group) (o : ReadOutcome) : State :=
  match o with
  | .clean => s
  | .corrected => s.reportCorrected g
  | .uncorrectable => s.reportUncorrectable g

/-- The write-back of a CORRECTED read, within its group (R27). -/
def State.writeBack (s : State) (g : Group) (o : ReadOutcome) (v : Word) : State :=
  if o = .corrected then s.writeRows g.row g.word g.mirror v else s

/-- The yield count takes the write-back slots of a counted processor read (R34, log entry 10). -/
def State.countBack (s : State) (g : Group) (o : ReadOutcome) : State :=
  if g.counted && o = .corrected then
    { s with msq := { s.msq with yieldCount := s.msq.yieldCount + g.backSlots } }
  else s

/-- The DGU report of a digest-updating group (R32): the old value is unknown where it read UNCORRECTABLE. -/
def State.reportDigest (s : State) (g : Group) (o : ReadOutcome) (old new : Word) : State :=
  match g.place with
  | some pl =>
    if g.updating then
      s.reportWrite pl.region pl.word (if o = .uncorrectable then none else some old) new
    else s
  | none => s

/-- The RSE report of a processor write to a digest-region word that has changed the stored value (R32). -/
def State.reportSource (s : State) (g : Group) (changed : Bool) (new : Word) : State :=
  match g.place with
  | some pl => if pl.cls != .nonvital && changed then s.sourceWrite g.op.addr new else s
  | none => s

/-! ### The end of a group -/

/-- Whether the owner of the group in flight still waits for its outcome. -/
def State.groupLive (s : State) : Bool := s.msq.port.any (·.live)

/-- The group leaves the port; the move chosen whose start waited for it starts before the next grant (R46). -/
def State.endGroup (s : State) : State :=
  let s' := { s with
    msq := { s.msq with port := none }, srm := { s.srm with startWaiting := none } }
  match s.srm.startWaiting with
  | some row => s'.startChosen row
  | none => s'

/-- The worse of two word statuses (R18). -/
def ResponseStatus.worse : ResponseStatus → ResponseStatus → ResponseStatus
  | .refused, _ => .refused
  | _, .refused => .refused
  | .fault, _ => .fault
  | _, .fault => .fault
  | .corrected, _ => .corrected
  | _, .corrected => .corrected
  | .okay, .okay => .okay

/-- The word status of a read, and of a partial write by its old word (Table 1.8, R19). -/
def statusOf : ReadOutcome → ResponseStatus
  | .clean => .okay
  | .corrected => .corrected
  | .uncorrectable => .fault

/-- TXI answers the processor. -/
def State.respondTxi (s : State) (st : ResponseStatus) (data : List Word) : State :=
  { s with txi := { s.txi with response := some { status := st, data }, earlier := [] } }

/-- TXI takes a word's status and data: after the last word the burst is answered with the worst status and all
its data (R17 to R19). -/
def State.wordDone (s : State) (st : ResponseStatus) (data : List Word) : State :=
  match s.txi.held with
  | none => s
  | some h =>
    let h' : Held := { h with
      next := h.next + 4, reads := h.reads - 1, writes := h.writes.tail
      status := h.status.worse st, data := h.data ++ data }
    if h'.reads = 0 && h'.writes.isEmpty then
      ({ s with txi := { s.txi with held := none } }).respondTxi h'.status h'.data
    else { s with txi := { s.txi with held := some h' } }

end Sys2Proof.Machine
end

