-- ==== Sys2Proof/WellFormed.lean ====
section
/-! DEFINITION. Which commands the outside can present: the ranges the spec gives their operands. -/

namespace Sys2Proof

/-- A burst has 1 to 8 words (R9). -/
def Transaction.wellFormed : Transaction → Bool
  | .read _ n => decide (1 ≤ n ∧ n ≤ 8)
  | .write _ ws => decide (1 ≤ ws.length ∧ ws.length ≤ 8)

/-- The header's length field counts the payload words, bits 8 to 14 (section 13.4). -/
def WireFrame.wellFormed (f : WireFrame) : Bool :=
  decide (f.payload.length = (f.header.toNat / 256) % 128)

/-- The codes 01h to 17h name a command (section 13.3). -/
def namesCommand (code : Word) : Bool := decide (1 ≤ code.toNat ∧ code.toNat ≤ 23)

/-- The ranges of a command's operands. Word 0 of the aperture is the command code, so a plain word
write names words 1 to 15 (R172); an unknown command names none (R174). -/
def Instr.wellFormed : Instr → Bool
  | .processorTransaction t => t.wellFormed
  | .apertureWordWrite i _ => decide (i ≠ 0)
  | .unknownCommand c => !namesCommand c
  | .frameArrival _ f => f.wellFormed
  | .linkUp _ f => f.wellFormed
  | _ => true

end Sys2Proof
end

