-- ==== Sys2Proof/Machine/Transactions.lean ====
section
/-! DEFINITION. The transaction interface (TXI, chapter 1): address decoding and admission. What an admitted
aperture transaction does is in Machine/Commands.lean. -/

namespace Sys2Proof.Machine

/-! ### Address spaces (Table 1.4) -/

/-- The first address of the command aperture. -/
def apertureBase : Nat := 0x0FFFF000

/-- The first address past the command aperture. -/
def apertureEnd : Nat := 0x0FFFF040

/-- The three address spaces. -/
inductive Space where
  | memory | aperture | unused
deriving DecidableEq, Repr

/-- The space of a transaction's first address (R10). -/
def spaceOf (addr : Nat) : Space :=
  if addr < apertureBase then .memory else if addr < apertureEnd then .aperture else .unused

/-! ### Admission (Table 1.5) -/

/-- The address of a word of a transaction. -/
def txnWordAddress (t : Transaction) (k : Nat) : Nat := txnAddress t + 4 * k

/-- Every word of a burst belongs to a region (check 7). A word that an entry of lower index contains too, which only a
table still open can have, counts as of this one (log entry 56). -/
def Region.holdsBurst (r : Region) (t : Transaction) : Bool :=
  (List.range (txnLength t)).all (fun k => r.contains (txnWordAddress t k))

/-- Check 9: in REPAIR a read of a CONSTANT region touches no listed block (R14). -/
def State.touchesListed (s : State) (cls : RegionClass) (t : Transaction) : Bool :=
  s.mdc.mode == .repair && !txnWrites t && cls == .constant &&
    (List.range (txnLength t)).any (fun k => decide (blockOf (txnWordAddress t k) ∈ s.rse.repairList))

/-- What admission decides. -/
inductive Admission where
  | refused (d : AccessDetail)
  | aperture
  | memory (region : Fin 32) (cls : RegionClass)
deriving DecidableEq, Repr

/-- Checks 6 to 9, for a memory-space transaction. -/
def State.admitMemory (s : State) (t : Transaction) : Admission :=
  match s.findRegion (txnAddress t) with
  | none => .refused .noRegion
  | some i =>
    match s.region i with
    | none => .refused .noRegion
    | some r =>
      if !r.holdsBurst t then .refused .regionCrossing
      else if !matrixAllows s.mdc.mode r.cls (txnWrites t) then .refused .modeClass
      else if s.touchesListed r.cls t then .refused .repairBlock
      else .memory i r.cls

/-- Checks 3 to 5, for an aperture or unused-aperture transaction. -/
def admitAperture (t : Transaction) : Admission :=
  if apertureEnd ≤ txnAddress t then .refused .apertureUnused
  else if apertureEnd < txnWordAddress t (txnLength t) then .refused .apertureCrossing
  else if !singleMaskWhole t then .refused .aperturePartial
  else .aperture

/-- The checks of Table 1.5 in order. -/
def State.admission (s : State) (t : Transaction) : Admission :=
  if txnAddress t % 4 ≠ 0 then .refused .misaligned
  else if !burstMasksFull t then .refused .partialBurstMask
  else match spaceOf (txnAddress t) with
    | .memory => s.admitMemory t
    | _ => admitAperture t

/-! ### Answers -/

/-- The data words of a refused transaction: zero in every word of a read (R15). -/
def refusedData : Transaction → List Word
  | .read _ n => List.replicate n 0
  | .write _ _ => []

/-- A refused transaction (R15). -/
def State.refuse (s : State) (t : Transaction) (d : AccessDetail) : State :=
  (((s.fire .accessRefused).count .refused).offerCapture .access .p (some (txnAddress t))
    (.access d)).respondTxi .refused (refusedData t)

/-- An admitted memory transaction as TXI holds it (R17). -/
def heldOf (t : Transaction) (region : Fin 32) (cls : RegionClass) : Held :=
  match t with
  | .read a n => { region, cls, next := a.toNat, reads := n, writes := [], status := .okay, data := [] }
  | .write a ws => { region, cls, next := a.toNat, reads := 0, writes := ws, status := .okay, data := [] }

/-- An admitted memory transaction is held; a single-word write with an empty mask is answered OKAY at once (R17). -/
def State.hold (s : State) (t : Transaction) (region : Fin 32) (cls : RegionClass) : State :=
  if writesNothing t then s.respondTxi .okay []
  else { s with txi := { s.txi with held := some (heldOf t region cls) } }

end Sys2Proof.Machine
end

