-- ==== Sys2Proof/Machine/Commands.lean ====
section
/-! DEFINITION. The command interpreter (CMI, chapter 12): what each management command does when its code is
written to word 0, and the family of the aperture steps. -/

namespace Sys2Proof.Machine

open Host (Outcome)

/-! ### Judging (R174) -/

/-- A command is accepted in these modes, and answers NOT_NOW in the others. -/
def State.acceptedIn (s : State) (modes : Mode → Bool) (f : State → State) : State :=
  if modes s.mdc.mode then f s else s.notNow

/-! ### Reading commands -/

/-- STATUS (R175). -/
def State.cmdStatus (s : State) : State :=
  if (s.param 1).toNat ≤ 4 then s.answer .done (s.page (s.param 1).toNat) else s.badParam 1

/-- TABLE_READ (R8). -/
def State.cmdTableRead (s : State) : State :=
  if h : (s.param 1).toNat < 32 then
    let e := s.region ⟨(s.param 1).toNat, h⟩
    s.answer .done [imageWord0 e, imageWord1 e, imageWord2 e, word (flagAt 0 s.rgt.closed)]
  else s.badParam 1

/-- VOTE_READ (R115). -/
def State.cmdVoteRead (s : State) : State :=
  if (s.param 2).toNat ≤ 2 then s.answer .done (s.votePart (s.param 1) (s.param 2).toNat)
  else s.badParam 2

/-- DIGEST_READ (R65). -/
def State.cmdDigestRead (s : State) : State :=
  if h : (s.param 1).toNat < 32 then s.answer .done (s.digestWords ⟨(s.param 1).toNat, h⟩)
  else if (s.param 1).toNat = 32 then
    s.answer .done [lowWord s.dgu.tableDigest, highWord s.dgu.tableDigest]
  else s.badParam 1

/-- ROW_TABLE_READ (R43). -/
def State.cmdRowTableRead (s : State) : State :=
  if (s.param 1).toNat < Config.rowTableSize then s.answer .done (s.rowWords (s.param 1).toNat)
  else s.badParam 1

/-- SPARE_READ (R52). -/
def State.cmdSpareRead (s : State) : State :=
  if h : (s.param 1).toNat < 16 then s.answer .done (s.spareWords ⟨(s.param 1).toNat, h⟩)
  else s.badParam 1

/-- EVENTS_READ (R161). -/
def State.cmdEventsRead (s : State) : State :=
  s.answer .done [s.flagWord, word (flagAt 0 (s.asserted .na) + flagAt 1 (s.asserted .nb)), s.evu.msTime]

/-- CAPTURE_READ (R165). -/
def State.cmdCaptureRead (s : State) : State :=
  match CaptureClass.ofCode (s.param 1).toNat with
  | some k => s.answer .done (s.evu.capture k).resultWords
  | none => s.badParam 1

/-- COUNTERS_READ (R167). A sum above 16 is the fault of the count (log entry 29). -/
def State.cmdCountersRead (s : State) : State :=
  let first := (s.param 1).toNat
  let count := (s.param 2).toNat
  if 16 ≤ first then s.badParam 1
  else if count = 0 ∨ 7 < count ∨ 16 < first + count then s.badParam 2
  else s.answer .done (s.counterWords first count)

/-- SETTINGS_READ (R179). -/
def State.cmdSettingsRead (s : State) : State :=
  match settingOf (s.param 1) with
  | none => s.badParam 1
  | some st =>
    s.answer .done [s.param 1, word (s.cmi.settings.value st),
      word (flagAt 0 (st.writable s.mdc.mode))]

/-! ### Settings, flags, captures and counters -/

/-- The result words of a SETTINGS_WRITE: the setting, the value in force, and VOTE_DEADLINE after a CYCLE_LIMIT
write (R178). -/
def Settings.writeResults (c : Settings) (w : Word) (st : Setting) : List Word :=
  [w, word (c.value st)] ++ (if st = .cycleLimit then [word c.voteDeadline] else [])

/-- SETTINGS_WRITE (R177, R178). The identifier is checked before the mode (R174). -/
def State.cmdSettingsWrite (s : State) : State :=
  match settingOf (s.param 1) with
  | none => s.badParam 1
  | some st =>
    s.acceptedIn st.writable (fun s =>
      let v := (s.param 2).toNat
      let c := s.cmi.settings
      let s' := s.storeSetting st (c.clamp st v)
      s'.answer (if c.clamps st v then .doneClamped else .done)
        (s'.cmi.settings.writeResults (s.param 1) st))

/-- The flags that stay after a clear of a set: bits 24 to 31 of the set's word are ignored. -/
def clearFlags (flags : BitVec 24) (set : Word) : BitVec 24 := flags &&& ~~~(set.setWidth 24)

/-- EVENTS_CLEAR (R162). -/
def State.cmdEventsClear (s : State) : State :=
  let e : Evu := { s.evu with flags := clearFlags s.evu.flags (s.param 1) }
  let s' : State := { s with evu := e.earlyEnds s.cmi.settings }
  s'.answer .done [s'.flagWord, 0, s'.evu.msTime]

/-- CAPTURE_CLEAR (R165). -/
def State.cmdCaptureClear (s : State) : State :=
  match CaptureClass.ofCode (s.param 1).toNat with
  | some k => ({ s with evu := s.evu.setCapture k Capture.initial }).answer .done []
  | none => s.badParam 1

/-- COUNTERS_CLEAR (R167). -/
def State.cmdCountersClear (s : State) : State :=
  ({ s with evu := { s.evu with counters := Vector.replicate 16 0 } }).answer .done []

/-! ### The region table -/

/-- TABLE_OPEN (R4). -/
def State.cmdTableOpen (s : State) : State :=
  s.acceptedIn (· == .start) (fun s =>
    if s.noIdentity then s.badParam 0
    else (({ s with rgt := Rgt.initial }).requestMode .load).answer .done [])

/-- An entry of the table replaced. -/
def State.setRegion (s : State) (i : Fin 32) (e : Option Region) : State :=
  { s with rgt := { s.rgt with table := s.rgt.table.set i e } }

/-- TABLE_WRITE (R5): the image in words 1 to 3, the index in word 4. Where a valid entry's class names no class and the index
is above 31 too, Table 12.2 has BAD_PARAM give 'the first parameter word found wrong' and R5 does not say which is looked at
first: that the model names word 1 there, and not word 4, is its choice (log entry 73). -/
def State.cmdTableWrite (s : State) : State :=
  s.acceptedIn (· == .load) (fun s =>
    match parseEntry (s.param 1) (s.param 2) (s.param 3) with
    | .noClass => s.badParam 1
    | .empty =>
      if h : (s.param 4).toNat < 32 then
        (s.setRegion ⟨(s.param 4).toNat, h⟩ none).answer .done []
      else s.badParam 4
    | .region r =>
      if h : (s.param 4).toNat < 32 then
        (s.setRegion ⟨(s.param 4).toNat, h⟩ (some r)).answer .done []
      else s.badParam 4)

/-- The table is closed (R7): the flag, the table digest of the image, every record INVALID, and LOADED. -/
def State.closeTable (s : State) : State :=
  let s' : State := { s.invalidateAll with
    rgt := { s.rgt with closed := true }
    dgu := { s.invalidateAll.dgu with tableDigest := digestOf s.rgt.image } }
  s'.requestMode .loaded

/-- TABLE_CLOSE (R6, R7). -/
def State.cmdTableClose (s : State) : State :=
  s.acceptedIn (· == .load) (fun s =>
    match s.validateTable with
    | some (i, reason, earlier) => s.answer .badTable [word i, word reason.code, word earlier]
    | none =>
      s.closeTable.answer .done [word s.validRegions.length, word s.digestRegions.length])

/-! ### Modes -/

/-- COLD_START (R119). -/
def State.cmdColdStart (s : State) : State :=
  s.acceptedIn (· == .loaded) (fun s => (s.requestMode .clearing).answer .done [])

/-- ISOLATE (R123). -/
def State.cmdIsolate (s : State) : State :=
  s.acceptedIn Mode.isolable (fun s =>
    (s.isolateFor .commanded).answer .done [word s.mdc.mode.code])

/-- A row error table entry that was MOVING returns to WEAK (R42). -/
def RowEntry.restarted (e : RowEntry) : RowEntry := if e.state = .moving then { e with state := .weak } else e

/-- The move in flight ends (R51): its entry is WEAK, and its spare FREE, at once or when the copy group in flight
ends (log entry 25). A move chosen that has not started yet does not start (log entry 24). -/
def State.restartMove (s : State) : State :=
  let s' := if s.msq.port.any (fun g => g.op.ofM) then s else s.releaseSpare
  { s' with
    ret := { s'.ret with entries := s'.ret.entries.map RowEntry.restarted }
    srm := { s'.srm with startWaiting := none } }

/-- A group in flight at RESTART ends as granted, and its reports reach blocks in START (R36): no one waits for its outcome,
and no region, digest record or audit takes them (log entry 66). -/
def Group.orphan (g : Group) : Group := { g with live := false, place := none, audit := false }

/-- The group in flight at RESTART, if there is one. -/
def State.orphanGroup (s : State) : State := { s with msq := { s.msq with port := s.msq.port.map Group.orphan } }

/-- A partner entry after RESTART (R96). -/
def Partner.restarted (x : Partner) : Partner := { x with absence := 0, lost := false, suspect := false }

/-- A port after RESTART: only its partner's absence count and flags change. -/
def LinkPort.restarted (l : LinkPort) : LinkPort := { l with partner := l.partner.restarted }

/-- The blocks of Table 12.6 other than MDC and EVU. -/
def State.restartBlocks (s : State) : State :=
  let s' := ((s.endServices serviceEndedReason false).orphanGroup).restartMove
  { s' with
    rgt := Rgt.initial, dgu := Dgu.initial, ptl := Ptl.initial, vtu := Vtu.initial, rse := Rse.initial
    lkc := { a := s'.lkc.a.restarted, b := s'.lkc.b.restarted } }

/-- RESTART's changes (Table 12.6). -/
def State.restart (s : State) : State := (s.restartBlocks.setMode .start).fire .modeChanged

/-- RESTART (R180). -/
def State.cmdRestart (s : State) : State := s.restart.answer .done []

/-! ### Votes and services -/

/-- CYCLE_MARK (R98, R99); in ISOLATED it answers NOT_NOW as in every mode that does not accept it, and R62's frame is left
open (`isolatedMark`, log entry 57). -/
def State.cmdCycleMark (s : State) : State :=
  if s.mdc.mode = .isolated then (s.isolatedMark (s.param 1)).notNow
  else s.acceptedIn Mode.votes (fun s =>
    let n := s.param 1
    if s.inSequence n then
      (s.acceptMark n).answer .done [word s.markPorts, word s.expectedSet]
    else s.answer .sequence [wordOr s.vtu.last])

/-- The re-entry record at its creation (R129). -/
def Reentry.new : Reentry :=
  { phase := .asking, asked := .a, triedA := false, triedB := false, time := 0, copyEnd := false,
    auditsDone := false, source := none, join := none }

/-- The five steps of an accepted REENTER (R129). -/
def State.reenter (s : State) : State :=
  let s1 := (s.requestMode .reentry).invalidateAll
  let s2 := s1.setVtu { s1.vtu with records := [], last := none }
  (s2.setReentry (some Reentry.new)).seekCopy 3

/-- REENTER (R129): the result word names the partner first asked (log entry 32). -/
def State.cmdReenter (s : State) : State :=
  s.acceptedIn (fun m => m == .loaded || m == .isolated) (fun s =>
    match s.copyCandidate Reentry.new with
    | none => s.answer .noPartner [s.noPartnerWord]
    | some p => s.reenter.answer .done [word (s.partnerId p)])

/-- The window of JOIN_AT (R146). -/
def inJoinWindow (source n : Word) : Bool := decide (1 ≤ (n - source).toNat ∧ (n - source).toNat ≤ 8)

/-- JOIN_AT (R146). With S undefined no cycle is in the window (log entry 33). -/
def State.cmdJoinAt (s : State) : State :=
  s.acceptedIn (· == .ready) (fun s =>
    match s.rse.reentry with
    | none => s.answer .tooLate [0]
    | some v =>
      if v.source.any (inJoinWindow · (s.param 1)) then
        (s.setReentry (some { v with join := some (s.param 1) })).answer .done []
      else s.answer .tooLate [wordOr v.source])

/-! ### Words of the aperture (R172) -/

/-- A code that names no command (R174). -/
def State.cmdUnknown (s : State) : State := s.answer .unknown []

/-- The command of a code (section 13.3): matched against word 0 as a whole word. -/
def State.carryOut (s : State) : State :=
  match (s.apertureWord 0).toNat with
  | 0x01 => s.cmdStatus
  | 0x02 => s.cmdSettingsWrite
  | 0x03 => s.cmdSettingsRead
  | 0x04 => s.cmdRestart
  | 0x05 => s.cmdTableOpen
  | 0x06 => s.cmdTableWrite
  | 0x07 => s.cmdTableClose
  | 0x08 => s.cmdTableRead
  | 0x09 => s.cmdColdStart
  | 0x0A => s.cmdIsolate
  | 0x0B => s.cmdCycleMark
  | 0x0C => s.cmdVoteRead
  | 0x0D => s.cmdReenter
  | 0x0E => s.cmdJoinAt
  | 0x0F => s.cmdDigestRead
  | 0x10 => s.cmdRowTableRead
  | 0x11 => s.cmdSpareRead
  | 0x12 => s.cmdEventsRead
  | 0x13 => s.cmdEventsClear
  | 0x14 => s.cmdCaptureRead
  | 0x15 => s.cmdCaptureClear
  | 0x16 => s.cmdCountersRead
  | 0x17 => s.cmdCountersClear
  | _ => s.cmdUnknown

/-- CMI takes a written word: word 0 stores the code and carries out the command, words 1 to 7 store, words 8 to 15
change nothing. -/
def State.writeWord (s : State) (i : Nat) (v : Word) : State :=
  if i = 0 then (s.storeWord 0 v).carryOut else if i < 8 then s.storeWord i v else s

/-- The words of a write, in ascending address order (R11). -/
def State.writeWords (s : State) (i : Nat) : List Word → State
  | [] => s
  | v :: vs => (s.writeWord i v).writeWords (i + 1) vs

/-- The index of a transaction's first aperture word. -/
def apertureIndex (t : Transaction) : Nat := (txnAddress t - apertureBase) / 4

/-- An admitted aperture transaction (R11). -/
def State.aperture (s : State) (t : Transaction) : State :=
  match t with
  | .read _ n => s.respondTxi .okay ((List.range n).map (fun k => s.apertureWord (apertureIndex t + k)))
  | .write _ ws =>
    if writesNothing t then s.respondTxi .okay []
    else (s.writeWords (apertureIndex t) (ws.map (·.1))).respondTxi .okay []

/-- TXI takes a transaction (R9, R12). -/
def State.transaction (s : State) (t : Transaction) : State :=
  match s.admission t with
  | .refused d => s.refuse t d
  | .aperture => s.aperture t
  | .memory i cls => s.hold t i cls

/-- Parameter words stored from word 1 on. -/
def State.storeParams (s : State) (ps : List Word) : State := s.writeWords 1 ps

/-- A management command as one step (log entry 5): its parameters are in words 1 to 7 and the write of its code to
word 0 carries it out and is answered OKAY (R173). -/
def State.issued (s : State) (code : Word) (ps : List Word) (f : State → State) : State :=
  (f ((s.storeParams ps).storeWord 0 code)).respondTxi .okay []

/-! ### Presenting and taking an access (R9) -/

/-- TXI takes an access. -/
def State.take (s : State) : Access → State
  | .transaction t => s.transaction t
  | .word i v => (s.writeWord i v).respondTxi .okay []
  | .command code ps => s.issued code ps State.carryOut

/-- The accesses that wait. -/
def State.setWaiting (s : State) (as : List Access) : State := { s with txi := { s.txi with waiting := as } }

/-- An access is presented: while TXI holds a transaction the bus waits with it behind those that wait already, and
otherwise TXI takes it at once (R9, log entry 4). -/
def State.present (s : State) (a : Access) (taken : State) : State :=
  if s.txi.held.isSome then s.setWaiting (s.txi.waiting ++ [a]) else taken

/-- TXI takes the next waiting access in the step that has answered the one before, whose answer stays among those of
the step (log entry 39). -/
def State.takeNext (s : State) (a : Access) : State :=
  let s' := s.take a
  if s'.txi.held.isSome then s'
  else { s' with txi := { s'.txi with earlier := s.txi.earlier ++ s.txi.response.toList } }

/-- The waiting accesses are taken in their order while TXI holds none; those behind a transaction held wait on. -/
def State.takeAll (s : State) : List Access → State
  | [] => s
  | a :: as => if s.txi.held.isSome then s.setWaiting (a :: as) else (s.takeNext a).takeAll as

/-- A processor group ends, and when that has answered the transaction held, TXI takes those that wait (R9, log entry 4). -/
def State.thenTake (s : State) (groupEnd : State → State) : State :=
  (groupEnd (s.setWaiting [])).takeAll s.txi.waiting

/-- PROCESSOR_TRANSACTION (R9, R12). -/
def execProcessorTransaction (t : Transaction) (s : State) : Outcome State Fault Refusal :=
  .next (if t.wellFormed then s.present (.transaction t) (s.transaction t) else s)

/-- APERTURE_WORD_WRITE (R172): one word other than word 0. -/
def execApertureWordWrite (index : Fin 16) (value : Word) (s : State) : Outcome State Fault Refusal :=
  .next (if index ≠ 0 then s.present (.word index value) ((s.writeWord index value).respondTxi .okay []) else s)

/-- UNKNOWN_COMMAND (R174). -/
def execUnknownCommand (code : Word) (s : State) : Outcome State Fault Refusal :=
  .next (if namesCommand code then s
    else s.present (.command code []) (((s.storeWord 0 code).cmdUnknown).respondTxi .okay []))

/-- A management command is presented. -/
def State.issue (s : State) (code : Word) (ps : List Word) (f : State → State) : State :=
  s.present (.command code ps) (s.issued code ps f)

/-- STATUS (R175). -/
def execStatus (page : Word) (s : State) : Outcome State Fault Refusal :=
  .next (s.issue 0x01 [page] State.cmdStatus)

/-- SETTINGS_WRITE (R177). -/
def execSettingsWrite (setting value : Word) (s : State) : Outcome State Fault Refusal :=
  .next (s.issue 0x02 [setting, value] State.cmdSettingsWrite)

/-- SETTINGS_READ (R179). -/
def execSettingsRead (setting : Word) (s : State) : Outcome State Fault Refusal :=
  .next (s.issue 0x03 [setting] State.cmdSettingsRead)

/-- RESTART (R180). -/
def execRestart (s : State) : Outcome State Fault Refusal := .next (s.issue 0x04 [] State.cmdRestart)

/-- TABLE_OPEN (R4). -/
def execTableOpen (s : State) : Outcome State Fault Refusal := .next (s.issue 0x05 [] State.cmdTableOpen)

/-- TABLE_WRITE (R5). -/
def execTableWrite (image0 image1 image2 index : Word) (s : State) : Outcome State Fault Refusal :=
  .next (s.issue 0x06 [image0, image1, image2, index] State.cmdTableWrite)

/-- TABLE_CLOSE (R6). -/
def execTableClose (s : State) : Outcome State Fault Refusal := .next (s.issue 0x07 [] State.cmdTableClose)

/-- TABLE_READ (R8). -/
def execTableRead (index : Word) (s : State) : Outcome State Fault Refusal :=
  .next (s.issue 0x08 [index] State.cmdTableRead)

/-- COLD_START (R119). -/
def execColdStart (s : State) : Outcome State Fault Refusal := .next (s.issue 0x09 [] State.cmdColdStart)

/-- ISOLATE (R123). -/
def execIsolate (s : State) : Outcome State Fault Refusal := .next (s.issue 0x0A [] State.cmdIsolate)

/-- CYCLE_MARK (R99). -/
def execCycleMark (n : Word) (s : State) : Outcome State Fault Refusal :=
  .next (s.issue 0x0B [n] State.cmdCycleMark)

/-- VOTE_READ (R115). -/
def execVoteRead (cycle part : Word) (s : State) : Outcome State Fault Refusal :=
  .next (s.issue 0x0C [cycle, part] State.cmdVoteRead)

/-- REENTER (R129). -/
def execReenter (s : State) : Outcome State Fault Refusal := .next (s.issue 0x0D [] State.cmdReenter)

/-- JOIN_AT (R146). -/
def execJoinAt (n : Word) (s : State) : Outcome State Fault Refusal :=
  .next (s.issue 0x0E [n] State.cmdJoinAt)

/-- DIGEST_READ (R65). -/
def execDigestRead (index : Word) (s : State) : Outcome State Fault Refusal :=
  .next (s.issue 0x0F [index] State.cmdDigestRead)

/-- ROW_TABLE_READ (R43). -/
def execRowTableRead (position : Word) (s : State) : Outcome State Fault Refusal :=
  .next (s.issue 0x10 [position] State.cmdRowTableRead)

/-- SPARE_READ (R52). -/
def execSpareRead (index : Word) (s : State) : Outcome State Fault Refusal :=
  .next (s.issue 0x11 [index] State.cmdSpareRead)

/-- EVENTS_READ (R161). -/
def execEventsRead (s : State) : Outcome State Fault Refusal := .next (s.issue 0x12 [] State.cmdEventsRead)

/-- EVENTS_CLEAR (R162). -/
def execEventsClear (set : Word) (s : State) : Outcome State Fault Refusal :=
  .next (s.issue 0x13 [set] State.cmdEventsClear)

/-- CAPTURE_READ (R165). -/
def execCaptureRead (cls : Word) (s : State) : Outcome State Fault Refusal :=
  .next (s.issue 0x14 [cls] State.cmdCaptureRead)

/-- CAPTURE_CLEAR (R165). -/
def execCaptureClear (cls : Word) (s : State) : Outcome State Fault Refusal :=
  .next (s.issue 0x15 [cls] State.cmdCaptureClear)

/-- COUNTERS_READ (R167). -/
def execCountersRead (first count : Word) (s : State) : Outcome State Fault Refusal :=
  .next (s.issue 0x16 [first, count] State.cmdCountersRead)

/-- COUNTERS_CLEAR (R167). -/
def execCountersClear (s : State) : Outcome State Fault Refusal :=
  .next (s.issue 0x17 [] State.cmdCountersClear)

end Sys2Proof.Machine
end

