-- ==== Sys2Proof/Machine/FrameSteps.lean ====
section
/-! DEFINITION. The family of the frames taken from the receive queues (R86, R94), and the restoration engine's
timeouts (R130, R151, R156). -/

namespace Sys2Proof.Machine

open Host (Outcome)

/-! ### Announcements of a partner -/

/-- The modes a re-entry target announces while the service goes on (R141). -/
def announcesReentry (m : Option Mode) : Bool :=
  m == some .reentry || m == some .verify || m == some .ready

/-- RSE as source takes the mode announced by a good IDLE or DIGEST (R141, R154). -/
def State.serviceHears (s : State) (p : Port) (m : Option Mode) : State :=
  match s.rse.service with
  | none => s
  | some v =>
    if v.port = p then
      match v.kind with
      | .reentry => if announcesReentry m then s else s.endService none
      | .repair => if m = some .repair then s else s.endService none
    else s

/-- The source of a re-entry in RECEIVING announces that it is one no longer (R148). -/
def State.reentryHears (s : State) (p : Port) (stays : Bool) : State :=
  match s.rse.reentry with
  | none => s
  | some v =>
    if v.phase = .receiving && v.asked = p && !stays then s.isolateFor .sourceLost else s

/-- ABANDON with reason SERVICE_ENDED offered on a port. -/
def State.release (s : State) (p : Port) : State := s.offerFrame p (.abandon serviceEndedReason)

/-- The partner asked in a repair announces a mode other than RUN: a refusal with ABANDON (R151, R157). -/
def State.repairHears (s : State) (p : Port) (m : Option Mode) : State :=
  match s.rse.repair with
  | none => s
  | some v =>
    if v.phase != .auditing && v.asked = p && m != some .run then (s.release p).blockRefused else s

/-! ### IDLE (R95) -/

/-- The partner entry takes an IDLE frame. -/
def State.announceIdle (s : State) (p : Port) (m : Option Mode) (c : Option Word) (r : Role) : State :=
  s.setPartner p { (s.link p).partner with mode := m, cycle := c, role := r }

/-- A good IDLE frame is taken. -/
def State.takeIdle (s : State) (p : Port) (m : Option Mode) (c : Option Word) (r : Role) : State :=
  (((s.announceIdle p m c r).serviceHears p m).reentryHears p (m = some .run && r = .source)).repairHears
    p m

/-- IDLE (R95). -/
def execIdle (p : Port) (s : State) : Outcome State Fault Refusal :=
  .next (match s.frontFrame p with
    | some (.idle m c r) => (s.dropFront p).takeIdle p m c r
    | _ => s)

/-! ### DIGEST (R104, R145, R147) -/

/-- The partner entry takes a DIGEST frame; its role is left as it stands. -/
def State.announceDigest (s : State) (p : Port) (m : Option Mode) (c : Word) : State :=
  s.setPartner p { (s.link p).partner with mode := m, cycle := some c }

/-- The mirror check (R145): the table digest and every digest region's record equal the frame's. -/
def State.mirrors (s : State) (x : PartnerSet) : Bool :=
  x.tableDigest == s.dgu.tableDigest &&
    s.snapshot.entries.all (fun e => localEquals s.snapshot x e.region)

/-- VTU at a join (R114): L is n, the watchdog starts at 0, the unchecked-run count is 0. -/
def State.voteJoin (s : State) (n : Word) : State :=
  s.setVtu { s.vtu with last := some n, watchdog := some 0, unchecked := 0 }

/-- The target joins at cycle n (R147). -/
def State.joinNow (s : State) (p : Port) (n : Word) : State :=
  let s1 := ((s.requestMode .run).voteJoin n).offerFrame p (.joined n)
  ((s1.setPartner p { (s1.link p).partner with role := .none }).setReentry none).fire .serviceEnded

/-- The join cycle has gone by (R147). -/
def State.joinMissed (s : State) (v : Reentry) : State :=
  (s.setReentry (some { v with join := none })).fire .joinMissed

/-- A READY target's DIGEST(m) has passed the check (R147). -/
def State.tryJoin (s : State) (p : Port) (v : Reentry) (m : Word) : State :=
  match v.join with
  | none => s
  | some n =>
    if m = n then s.joinNow p n
    else if (m - n).toNat ≤ 2 ^ 31 - 1 then s.joinMissed v
    else s

/-- The mirror check has agreed: in VERIFY the mode becomes READY (R145). -/
def State.mirrorAgrees (s : State) (p : Port) (v : Reentry) (m : Word) : State :=
  match s.mdc.mode with
  | .verify => (s.requestMode .ready).fire .joinReady
  | .ready => s.tryJoin p v m
  | _ => s

/-- The mirror check has disagreed. -/
def State.mirrorDiffers (s : State) : State :=
  match s.mdc.mode with
  | .verify => s.isolateFor .mirrorMismatch
  | .ready => s.isolateFor .mirrorMismatch
  | _ => s

/-- RSE as target takes the source's DIGEST(m) (R145). -/
def State.targetDigest (s : State) (p : Port) (m : Word) (x : PartnerSet) : State :=
  match s.rse.reentry with
  | none => s
  | some v =>
    if v.phase = .receiving && v.asked = p then
      let v' : Reentry := { v with source := some m }
      let s' := s.setReentry (some v')
      if v.auditsDone then (if s'.mirrors x then s'.mirrorAgrees p v' m else s'.mirrorDiffers) else s'
    else s

/-- A good DIGEST frame is taken: the partner entry, then the vote unit, then the restoration engine
(R86, log entry 19). At a target in RECEIVING the check of the announced mode (R148) comes before the mirror check
(R145, log entry 64). -/
def State.takeDigest (s : State) (p : Port) (m : Word) (x : PartnerSet) : State :=
  let s1 := ((s.announceDigest p x.mode m).voteDigest p m x).serviceHears p x.mode
  ((s1.reentryHears p (x.mode = some .run)).repairHears p x.mode).targetDigest p m x

/-- DIGEST (R104). -/
def execDigest (p : Port) (s : State) : Outcome State Fault Refusal :=
  .next (match s.frontFrame p with
    | some (.digest m mode td es) =>
      (s.dropFront p).takeDigest p m { mode, tableDigest := td, entries := es }
    | _ => s)

/-! ### Requests judged by a source (R132, R152) -/

/-- COPY_REFUSE reasons (Table 13.5). -/
inductive RefuseReason where
  | notRun | busy | tableMismatch
deriving DecidableEq, Repr

/-- The codes of the reasons. -/
def RefuseReason.code : RefuseReason → Nat
  | .notRun => 1 | .busy => 2 | .tableMismatch => 3

/-- COPY_REFUSE offered on a port. -/
def State.refuseCopy (s : State) (p : Port) (r : RefuseReason) : State :=
  s.offerFrame p (.copyRefuse (word r.code))

/-- A request from the target port of a service of these kinds first ends that service. -/
def State.requestAgain (s : State) (p : Port) (ends : ServiceKind → Bool) : State :=
  match s.rse.service with
  | some v => if v.port = p && ends v.kind then s.endService none else s
  | none => s

/-- The checks common to both requests, in the order of Tables 9.3 and 10.2. -/
def State.judgeRequest (s : State) (td : Nat) : Option RefuseReason :=
  if s.mdc.mode ≠ .run then some .notRun
  else if s.rse.service.isSome then some .busy
  else if td ≠ s.dgu.tableDigest then some .tableMismatch
  else none

/-- A service begins. -/
def State.startService (s : State) (v : Service) : State := (s.setService (some v)).fire .serviceStarted

/-- A COPY_REQUEST has passed: the service is created where the COPY_ACCEPT enters the queue (R132). -/
def State.acceptCopy (s : State) (p : Port) : State :=
  let s' := s.offerFrame p .copyAccept
  if s.offerResult p = .queued then s'.startService (Service.newReentry p s.digestBlocks) else s'

/-- A COPY_REQUEST is taken (R132). -/
def State.takeCopyRequest (s : State) (p : Port) (td : Nat) : State :=
  let s' := s.requestAgain p (fun _ => true)
  match s'.judgeRequest td with
  | some r => s'.refuseCopy p r
  | none => s'.acceptCopy p

/-- COPY_REQUEST (R132). -/
def execCopyRequest (p : Port) (s : State) : Outcome State Fault Refusal :=
  .next (match s.frontFrame p with
    | some (.copyRequest td) => (s.dropFront p).takeCopyRequest p td
    | _ => s)

/-- The fourth check of Table 10.2. -/
def State.servesBlock (s : State) (block : Nat) : Bool :=
  block % Config.blockBytes == 0 && (s.constantRegionOf block).isSome

/-- A REPAIR_REQUEST is taken (R152). -/
def State.takeRepairRequest (s : State) (p : Port) (td block : Nat) : State :=
  let s' := s.requestAgain p (· == .repair)
  match s'.judgeRequest td with
  | some r => s'.refuseCopy p r
  | none =>
    if s'.servesBlock block then s'.startService (Service.newRepair p block)
    else s'.refuseCopy p .tableMismatch

/-- REPAIR_REQUEST (R152). -/
def execRepairRequest (p : Port) (s : State) : Outcome State Fault Refusal :=
  .next (match s.frontFrame p with
    | some (.repairRequest td block) => (s.dropFront p).takeRepairRequest p td block
    | _ => s)

/-- A JOINED is taken: from the target port it ends the re-entry service (R141). -/
def State.takeJoined (s : State) (p : Port) : State :=
  match s.rse.service with
  | some v => if v.port = p && v.kind = .reentry then s.endService none else s
  | none => s

/-- JOINED (R141). -/
def execJoined (p : Port) (s : State) : Outcome State Fault Refusal :=
  .next (match s.frontFrame p with
    | some (.joined _) => (s.dropFront p).takeJoined p
    | _ => s)

/-! ### Answers taken by a target (R130, R131, R151) -/

/-- A COPY_ACCEPT at a part without a re-entry record is answered with ABANDON (R131). Of one that a repair target takes from
another port than the one it is asking or receiving from, R131 says so too, and R151 that it is ignored: which of the two the
part follows is the free value `Config.strayAcceptAnswered`. That R151 does not speak of AUDITING, where no partner is being
asked (R157), is the model's reading (log entry 22). -/
def State.strayAccept (s : State) (p : Port) : State :=
  match s.rse.repair with
  | some v => if v.phase = .auditing || v.asked = p || Config.strayAcceptAnswered then s.release p else s
  | none => s.release p

/-- A COPY_ACCEPT is taken (R131): in any case but the one that a re-entry waits for it is answered with ABANDON, which the
model leaves open for one alone (R151, `strayAccept`). -/
def State.takeCopyAccept (s : State) (p : Port) : State :=
  match s.rse.reentry with
  | some v =>
    if v.phase = .asking && v.asked = p then
      (s.setReentry (some { v with phase := .receiving })).fire .serviceStarted
    else s.release p
  | none => s.strayAccept p

/-- COPY_ACCEPT (R131). -/
def execCopyAccept (p : Port) (s : State) : Outcome State Fault Refusal :=
  .next (match s.frontFrame p with
    | some .copyAccept => (s.dropFront p).takeCopyAccept p
    | _ => s)

/-- A COPY_REFUSE is taken (R130, R151), whatever its reason. -/
def State.takeCopyRefuse (s : State) (p : Port) : State :=
  match s.rse.reentry, s.rse.repair with
  | some v, _ => if v.phase = .asking && v.asked = p then s.copyRefused else s
  | none, some v => if v.phase = .asking && v.asked = p then s.blockRefused else s
  | none, none => s

/-- COPY_REFUSE (R130). -/
def execCopyRefuse (p : Port) (s : State) : Outcome State Fault Refusal :=
  .next (match s.frontFrame p with
    | some (.copyRefuse _) => (s.dropFront p).takeCopyRefuse p
    | _ => s)

/-! ### ABANDON (R141, R148, R151, R154, R157) -/

/-- An ABANDON at a source. -/
def State.serviceAbandoned (s : State) (p : Port) : State :=
  match s.rse.service with
  | some v => if v.port = p then s.endService none else s
  | none => s

/-- An ABANDON at a re-entry target. -/
def State.reentryAbandoned (s : State) (p : Port) (reason : Word) : State :=
  match s.rse.reentry with
  | none => s
  | some v =>
    if v.asked ≠ p then s
    else match v.phase with
      | .asking => s.copyRefused
      | .receiving => s.isolateFor (if reason = overflowReason then .overrun else .sourceLost)

/-- An ABANDON at a repair target. -/
def State.repairAbandoned (s : State) (p : Port) (reason : Word) : State :=
  match s.rse.repair with
  | none => s
  | some v =>
    if v.asked ≠ p then s
    else match v.phase with
      | .asking => s.blockRefused
      | .receiving => if reason = serviceEndedReason then s.blockRefused else s.isolateFor .sourceLost
      | .auditing => s

/-- An ABANDON is taken. -/
def State.takeAbandon (s : State) (p : Port) (reason : Word) : State :=
  ((s.serviceAbandoned p).reentryAbandoned p reason).repairAbandoned p reason

/-- ABANDON (R148). -/
def execAbandon (p : Port) (s : State) : Outcome State Fault Refusal :=
  .next (match s.frontFrame p with
    | some (.abandon reason) => (s.dropFront p).takeAbandon p reason
    | _ => s)

/-! ### Data taken by a target (R142, R143, R155) -/

/-- The frame's writes begin. -/
def State.beginWork (s : State) (p : Port) (restoring : Bool) (addr : Nat) (words : List Word) : State :=
  s.setLink p { s.link p with work := some { restoring, first := addr, next := addr, words } }

/-- An address lies in a digest region of the own table. -/
def State.inDigestRegion (s : State) (addr : Nat) : Bool := (s.placeOf addr).any (fun x => x.cls != .nonvital)

/-- A SEGMENT or FORWARD that has no taker (R142). -/
def State.discardData (s : State) : State := s.count .forwardsDiscarded

/-- A SEGMENT at a repair target (R155). -/
def State.repairSegment (s : State) (p : Port) (v : Repair) (addr : Nat) (words : List Word) : State :=
  if v.asked ≠ p ∨ v.phase = .auditing then s.discardData
  else if addr % 256 ≠ 0 ∨ s.headBlock ≠ some (blockOf addr) then s.isolateFor .protocol
  else
    let s' := s.setRepair (some { v with phase := .receiving, time := 0 })
    (if v.phase = .asking then s'.fire .serviceStarted else s').beginWork p true addr words

/-- A SEGMENT is taken. -/
def State.takeSegment (s : State) (p : Port) (addr : Nat) (words : List Word) : State :=
  match s.rse.repair with
  | some v => s.repairSegment p v addr words
  | none =>
    if !s.rse.reentry.any (fun v => v.phase == .receiving && v.asked == p) then s.discardData
    else if addr % 256 ≠ 0 ∨ !s.inDigestRegion addr then s.isolateFor .protocol
    else s.beginWork p false addr words

/-- SEGMENT (R143). -/
def execSegment (p : Port) (s : State) : Outcome State Fault Refusal :=
  .next (match s.frontFrame p with
    | some (.segment addr words) => (s.dropFront p).takeSegment p addr words
    | _ => s)

/-- A FORWARD is taken. -/
def State.takeForward (s : State) (p : Port) (addr : Nat) (value : Word) : State :=
  if !s.rse.reentry.any (fun v => v.phase == .receiving && v.asked == p) then s.discardData
  else if addr % 4 ≠ 0 ∨ !s.inDigestRegion addr then s.isolateFor .protocol
  else s.beginWork p false addr [value]

/-- FORWARD (R143). -/
def execForward (p : Port) (s : State) : Outcome State Fault Refusal :=
  .next (match s.frontFrame p with
    | some (.forward addr value) => (s.dropFront p).takeForward p addr value
    | _ => s)

/-- A COPY_END is taken: the first one in REENTRY sets the flag and asks for VERIFY (R144). -/
def State.takeCopyEnd (s : State) (p : Port) : State :=
  match s.rse.reentry with
  | none => s
  | some v =>
    if v.phase = .receiving && v.asked = p && !v.copyEnd then
      (s.setReentry (some { v with copyEnd := true })).requestMode .verify
    else s

/-- COPY_END (R144). -/
def execCopyEnd (p : Port) (s : State) : Outcome State Fault Refusal :=
  .next (match s.frontFrame p with
    | some .copyEnd => (s.dropFront p).takeCopyEnd p
    | _ => s)

/-! ### REPAIR_END (R156) -/

/-- All sixteen segments have been written. -/
def Repair.whole (v : Repair) : Bool := (List.range 16).all (fun k => decide (k ∈ v.written))

/-- The region of a restored block joins the repaired regions. -/
def Repair.restore (v : Repair) (region : Option (Fin 32)) : Repair :=
  match region with
  | some i => if i ∈ v.repaired then v else { v with repaired := i :: v.repaired }
  | none => v

/-- The head block is restored: it leaves the list, and the new head is asked for from the same port or the repair
audit is asked for (R156, R158). -/
def State.blockRestored (s : State) (p : Port) (v : Repair) (block : Nat) : State :=
  let v' := v.restore (s.findRegion block)
  let s' := ((s.setRse { s.rse with
    repair := some v', repairList := s.rse.repairList.tail }).fire .serviceEnded)
  if s'.rse.repairList = [] then
    (s'.setRepair (some { v' with phase := .auditing })).askRepairAudit (State.repairedRegions v')
  else s'.askFrom p

/-- A REPAIR_END is taken. -/
def State.takeRepairEnd (s : State) (p : Port) (block : Nat) : State :=
  match s.rse.repair with
  | none => s
  | some v =>
    if v.asked = p && v.phase != .auditing && s.headBlock = some block then
      (if v.whole then s.blockRestored p v block else s.askFrom p)
    else s

/-- REPAIR_END (R156). -/
def execRepairEnd (p : Port) (s : State) : Outcome State Fault Refusal :=
  .next (match s.frontFrame p with
    | some (.repairEnd block) => (s.dropFront p).takeRepairEnd p block
    | _ => s)

/-! ### Timeouts -/

/-- COPY_REQUEST_TIMEOUT (R130). -/
def execCopyRequestTimeout (s : State) : Outcome State Fault Refusal :=
  .next (match s.rse.reentry with
    | some v =>
      if v.phase = .asking && Config.requestTimeout ≤ v.time then (s.release v.asked).copyRefused else s
    | none => s)

/-- REPAIR_ANSWER_TIMEOUT (R151). -/
def execRepairAnswerTimeout (s : State) : Outcome State Fault Refusal :=
  .next (match s.rse.repair with
    | some v =>
      if v.phase = .asking && Config.requestTimeout ≤ v.time then (s.release v.asked).blockRefused else s
    | none => s)

/-- REPAIR_SEGMENT_TIMEOUT (R156). -/
def execRepairSegmentTimeout (s : State) : Outcome State Fault Refusal :=
  .next (match s.rse.repair with
    | some v =>
      if v.phase = .receiving && Config.requestTimeout ≤ v.time then s.askFrom v.asked else s
    | none => s)

end Sys2Proof.Machine
end

