-- ==== Sys2Proof/Machine/GroupEnds.lean ====
section
/-! DEFINITION. The family of the memory port: ARBITER_GRANT and the ends of the locked groups. A group's
slots are performed in the step that ends it (log entry 9). -/

namespace Sys2Proof.Machine

open Host (Outcome)

/-- ARBITER_GRANT (R33). -/
def execArbiterGrant (s : State) : Outcome State Fault Refusal := .next s.arbitrate

/-! ### Processor groups

When the group's word is the last of the transaction held, the transaction is answered, and then TXI takes the accesses
that wait (R9). A group with a read of the old word gives DGU its report before the outcome of that read is acted on, and
RSE its report after it (log entry 55). -/

/-- A processor read group ends (R18, R27). -/
def State.processorReadEnd (s : State) (g : Group) (m : CellSample) : State :=
  let r := s.readSlot g.row g.word m
  let s1 := (r.1.writeBack g r.2.1 r.2.2).reportOutcome g r.2.1
  ((s1.countBack g r.2.1).wordDone (statusOf r.2.1) [r.2.2]).endGroup

/-- PROCESSOR_READ_END (R18). -/
def execProcessorReadEnd (m : CellSample) (s : State) : Outcome State Fault Refusal :=
  match s.msq.port with
  | some g => match g.op with
    | .pRead _ => .next (s.thenTake (State.processorReadEnd · g m))
    | _ => .next s
  | none => .next s

/-- A full-word processor write group ends: with the read of the old word first where it is digest-updating,
a plain write otherwise (R25, R32). The word's status is OKAY (R19). -/
def State.processorWriteEnd (s : State) (g : Group) (v : Word) (m : CellSample) : State :=
  if g.updating then
    let r := s.readSlot g.row g.word m
    let s1 := (r.1.writeRows g.row g.word g.mirror v).reportDigest g r.2.1 r.2.2 v
    let s2 := s1.reportOutcome g r.2.1
    ((s2.reportSource g (r.2.1 = .uncorrectable || r.2.2 != v) v).wordDone .okay []).endGroup
  else
    (((s.writeRows g.row g.word g.mirror v).reportSource g true v).wordDone .okay []).endGroup

/-- PROCESSOR_WRITE_END (R25). -/
def execProcessorWriteEnd (m : CellSample) (s : State) : Outcome State Fault Refusal :=
  match s.msq.port with
  | some g => match g.op with
    | .pWrite _ v => .next (s.thenTake (State.processorWriteEnd · g v m))
    | _ => .next s
  | none => .next s

/-- A partial write group ends: the written bytes merged over the old word, or over zero where it reads
UNCORRECTABLE (R26). -/
def State.partialWriteEnd (s : State) (g : Group) (v : Word) (mask : BitVec 4) (m : CellSample) : State :=
  let r := s.readSlot g.row g.word m
  let new := mergeBytes r.2.2 v mask
  let s1 := (r.1.writeRows g.row g.word g.mirror new).reportDigest g r.2.1 r.2.2 new
  let s2 := s1.reportOutcome g r.2.1
  let s3 := s2.reportSource g (r.2.1 = .uncorrectable || r.2.2 != new) new
  (s3.wordDone (statusOf r.2.1) []).endGroup

/-- PARTIAL_WRITE_END (R26). -/
def execPartialWriteEnd (m : CellSample) (s : State) : Outcome State Fault Refusal :=
  match s.msq.port with
  | some g => match g.op with
    | .pPartial _ v mask => .next (s.thenTake (State.partialWriteEnd · g v mask m))
    | _ => .next s
  | none => .next s

/-! ### Patrol groups -/

/-- The audit word a group carries reaches DGU although PTL no longer waits for it (R32, R66). -/
def State.strayAudit (s : State) (g : Group) (i : Fin 32) (w : Nat) (o : ReadOutcome) (v : Word) : State :=
  if g.audit && o != .uncorrectable then s.handAudit i w v else s

/-- A scrub read group ends (R70). -/
def State.scrubReadEnd (s : State) (g : Group) (i : Fin 32) (w : Nat) (m : CellSample) : State :=
  let r := s.readSlot g.row g.word m
  let s1 := (r.1.writeBack g r.2.1 r.2.2).reportOutcome g r.2.1
  (if s1.groupLive then s1.scrubEnd i w r.2.1 r.2.2 else s1.strayAudit g i w r.2.1 r.2.2).endGroup

/-- SCRUB_READ_END (R70). -/
def execScrubReadEnd (m : CellSample) (s : State) : Outcome State Fault Refusal :=
  match s.msq.port with
  | some g => match g.op with
    | .scrubRead i w _ => .next (s.scrubReadEnd g i w m)
    | _ => .next s
  | none => .next s

/-- An audit read group ends (R60, R79, R81). -/
def State.auditReadEnd (s : State) (g : Group) (i : Fin 32) (w : Nat) (m : CellSample) : State :=
  let r := s.readSlot g.row g.word m
  let s1 := (r.1.writeBack g r.2.1 r.2.2).reportOutcome g r.2.1
  (if s1.groupLive then s1.auditEnd i w r.2.1 r.2.2 else s1.strayAudit g i w r.2.1 r.2.2).endGroup

/-- AUDIT_READ_END (R60). -/
def execAuditReadEnd (m : CellSample) (s : State) : Outcome State Fault Refusal :=
  match s.msq.port with
  | some g => match g.op with
    | .auditRead i w _ => .next (s.auditReadEnd g i w m)
    | _ => .next s
  | none => .next s

/-- A clear write of zero ends (R77). -/
def State.clearWriteEnd (s : State) (g : Group) (i : Fin 32) (w : Nat) : State :=
  let s1 := s.writeRows g.row g.word g.mirror 0
  (if g.live then s1.clearEnd i w else s1).endGroup

/-- CLEAR_WRITE_END (R77). -/
def execClearWriteEnd (s : State) : Outcome State Fault Refusal :=
  match s.msq.port with
  | some g => match g.op with
    | .clearWrite i w _ => .next (s.clearWriteEnd g i w)
    | _ => .next s
  | none => .next s

/-! ### Restoration groups -/

/-- RSE takes the end of a copy read: the value goes into the buffer, or an uncorrectable word discards the
buffer (R134, R135). -/
def State.copyDone (s : State) (o : ReadOutcome) (v : Word) : State :=
  s.setService (s.rse.service.map (fun x =>
    if o = .uncorrectable then { x with buffer := none } else x.fill v))

/-- A copy read group ends (R134). -/
def State.copyReadEnd (s : State) (g : Group) (m : CellSample) : State :=
  let r := s.readSlot g.row g.word m
  let s1 := (r.1.writeBack g r.2.1 r.2.2).reportOutcome g r.2.1
  (if s1.groupLive then s1.copyDone r.2.1 r.2.2 else s1).endGroup

/-- COPY_READ_END (R134). -/
def execCopyReadEnd (m : CellSample) (s : State) : Outcome State Fault Refusal :=
  match s.msq.port with
  | some g => match g.op with
    | .copyRead _ => .next (s.copyReadEnd g m)
    | _ => .next s
  | none => .next s

/-- The segments written take a segment of the head block whose last write has ended (R155). -/
def State.segmentWritten (s : State) (first : Nat) : State :=
  match s.rse.repair with
  | some v =>
    if s.headBlock = some (blockOf first) && !(segmentOf first ∈ v.written) then
      s.setRepair (some { v with written := segmentOf first :: v.written })
    else s
  | none => s

/-- A write of the frame in work at a port has ended; after the last one the frame's work ends (R94, R143, R155). -/
def State.workDone (s : State) (p : Port) : State :=
  match (s.link p).work with
  | none => s
  | some w =>
    match w.words.tail with
    | [] =>
      let s' := s.setLink p { s.link p with work := none }
      if w.restoring then s'.segmentWritten w.first else s'
    | ws => s.setLink p { s.link p with work := some { w with next := w.next + 4, words := ws } }

/-- A frame write group ends (R25, R143). -/
def State.frameWriteEnd (s : State) (g : Group) (p : Port) (v : Word) (m : CellSample) : State :=
  let s2 :=
    if g.updating then
      let r := s.readSlot g.row g.word m
      ((r.1.writeRows g.row g.word g.mirror v).reportDigest g r.2.1 r.2.2 v).reportOutcome g r.2.1
    else s.writeRows g.row g.word g.mirror v
  (if s2.groupLive then s2.workDone p else s2).endGroup

/-- FRAME_WRITE_END (R143). -/
def execFrameWriteEnd (m : CellSample) (s : State) : Outcome State Fault Refusal :=
  match s.msq.port with
  | some g => match g.op with
    | .frameWrite p _ v => .next (s.frameWriteEnd g p v m)
    | _ => .next s
  | none => .next s

/-- A restoring write ends: a plain write (R155). -/
def State.restoringWriteEnd (s : State) (g : Group) (p : Port) (v : Word) : State :=
  let s1 := s.writeRows g.row g.word g.mirror v
  (if g.live then s1.workDone p else s1).endGroup

/-- RESTORING_WRITE_END (R155). -/
def execRestoringWriteEnd (s : State) : Outcome State Fault Refusal :=
  match s.msq.port with
  | some g => match g.op with
    | .restoringWrite p _ v => .next (s.restoringWriteEnd g p v)
    | _ => .next s
  | none => .next s

/-! ### Row moves -/

/-- The write slot of a row-move copy: the data read goes to the spare; it is left out where the read is
UNCORRECTABLE (R29). -/
def State.copyToSpare (s : State) (g : Group) (o : ReadOutcome) (v : Word) : State :=
  match g.mirror with
  | some spare => if o = .uncorrectable then s else s.writeSlot spare g.word v
  | none => s

/-- A row-move copy group ends (R29, R47, R49). A move that RESTART has ended gives its spare back first, and the
group's report finds no move (R51). -/
def State.rowMoveCopyEnd (s : State) (g : Group) (m : CellSample) : State :=
  let r := s.readSlot g.row g.word m
  let s1 := r.1.copyToSpare g r.2.1 r.2.2
  if g.live then
    let s2 := s1.reportOutcome g r.2.1
    (if r.2.1 = .uncorrectable then s2.failMove else s2.advanceMove).endGroup
  else (s1.releaseSpare.reportOutcome g r.2.1).endGroup

/-- ROW_MOVE_COPY_END (R47). -/
def execRowMoveCopyEnd (m : CellSample) (s : State) : Outcome State Fault Refusal :=
  match s.msq.port with
  | some g => match g.op with
    | .moveCopy _ => .next (s.rowMoveCopyEnd g m)
    | _ => .next s
  | none => .next s

end Sys2Proof.Machine
end

