-- ==== Sys2Proof/Machine/LinkSteps.lean ====
section
/-! DEFINITION. The family of the links (chapter 6) and of the service queue: arrivals, link states, sending,
and the moves and joins of service-queue entries (R134, R139, R140). -/

namespace Sys2Proof.Machine

open Host (Outcome)

/-! ### A port going DOWN (R88) -/

/-- The events of the two ports. -/
def linkDownEvent : Port → Event
  | .a => .linkADown
  | .b => .linkBDown

/-- A partner entry after step 4 of R88. -/
def Partner.afterDown (x : Partner) : Partner := { x with mode := none, cycle := none, role := .none }

/-- A port after steps 2 to 4, its counters at 0; what is being sent and a frame in work go on. -/
def LinkPort.afterDown (l : LinkPort) : LinkPort :=
  { l with
    up := false, goodRun := 0, badRun := 0, silence := 0, tx := [], rx := []
    partner := l.partner.afterDown }

/-- RSE takes a link-down notice as source (R141, R154). -/
def State.serviceLinkDown (s : State) (p : Port) : State :=
  match s.rse.service with
  | some v => if v.port = p then s.endService none else s
  | none => s

/-- RSE takes a link-down notice in a re-entry (R130, R148). -/
def State.reentryLinkDown (s : State) (p : Port) : State :=
  match s.rse.reentry with
  | some v =>
    if v.asked = p then
      match v.phase with
      | .asking => s.copyRefused
      | .receiving => s.isolateFor .sourceLost
    else s
  | none => s

/-- RSE takes a link-down notice in a repair (R151, R157). -/
def State.repairLinkDown (s : State) (p : Port) : State :=
  match s.rse.repair with
  | some v =>
    if v.asked = p then
      match v.phase with
      | .asking => s.blockRefused
      | .receiving => s.isolateFor .sourceLost
      | .auditing => s
    else s
  | none => s

/-- A port goes from UP to DOWN (R88). Of its step 5 the vote unit acts before the restoration engine (log entry
58). -/
def State.goDown (s : State) (p : Port) (d : LinkDetail) : State :=
  let s1 := (s.fire (linkDownEvent p)).offerCapture .link (linkRequester p) none (.link d)
  let s2 := (s1.setLink p (s1.link p).afterDown).voteLinkDown p
  ((s2.serviceLinkDown p).reentryLinkDown p).repairLinkDown p

/-! ### An arrival (R85, R87, R89, R93) -/

/-- The class of an arriving frame (Table 6.2). -/
inductive Arrival where
  | crc | wrongSender | malformed
  | good (f : Frame)
deriving DecidableEq, Repr

/-- The checks of Table 6.2 in order. A part without an identity has no expected partner (R83). -/
def State.judgeArrival (s : State) (p : Port) (w : WireFrame) : Arrival :=
  if !crcGood w then .crc
  else if s.noIdentity || senderOf w.header != s.partnerId p then .wrongSender
  else match parseFrame w.header w.payload with
    | some f => .good f
    | none => .malformed

/-- The counters of the two ports. -/
def crcCounter : Port → Counter
  | .a => .crcBadA
  | .b => .crcBadB

/-- The overrun counters. -/
def overrunCounter : Port → Counter
  | .a => .rxOverrunA
  | .b => .rxOverrunB

/-- LINK_FAULT with its capture. -/
def State.linkFault (s : State) (p : Port) (d : Detail) : State :=
  (s.fire .linkFault).offerCapture .link (linkRequester p) none d

/-- A bad frame at the link state (Table 6.4). -/
def LinkPort.badFrame (l : LinkPort) : LinkPort :=
  if l.up then { l with badRun := l.badRun + 1 } else { l with goodRun := 0 }

/-- A wrong-sender frame at the link state. -/
def LinkPort.wrongFrame (l : LinkPort) : LinkPort := if l.up then l else { l with goodRun := 0 }

/-- A good frame at the link state: the third of a run makes the port UP. -/
def LinkPort.goodFrame (l : LinkPort) : LinkPort :=
  if l.up then { l with silence := 0, badRun := 0 }
  else if 3 ≤ l.goodRun + 1 then { l with up := true, goodRun := 0, silence := 0, badRun := 0 }
  else { l with goodRun := l.goodRun + 1, silence := 0, badRun := 0 }

/-- A bad frame arrives; the fourth of a run in UP takes the port DOWN. The capture of the frame is offered before that of
the bad run (log entry 70). -/
def State.badArrival (s : State) (p : Port) (d : LinkDetail) : State :=
  let s' := ((s.count (crcCounter p)).linkFault p (.link d)).setLink p (s.link p).badFrame
  if (s'.link p).up && 4 ≤ (s'.link p).badRun then s'.goDown p .badRun else s'

/-- A wrong-sender frame arrives. -/
def State.wrongArrival (s : State) (p : Port) : State :=
  ((s.count .wrongSender).linkFault p (.link .wrongSender)).setLink p (s.link p).wrongFrame

/-- The port is the source port of a re-entry in RECEIVING. -/
def State.receivesFrom (s : State) (p : Port) : Bool :=
  s.rse.reentry.any (fun v => v.phase == .receiving && v.asked == p)

/-- A good frame finds the receive queue full (R93). -/
def State.overrun (s : State) (p : Port) (kind : Nat) : State :=
  let s' := (s.count (overrunCounter p)).linkFault p (.rxOverrun kind)
  if s.receivesFrom p then s'.isolateFor .overrun else s'

/-- A good frame is offered to the receive queue: in DOWN only an IDLE frame is (R89, R93). -/
def State.offerRx (s : State) (p : Port) (f : Frame) : State :=
  if !(s.link p).up && f.kind != 0 then s
  else if (s.link p).rx.length < Config.rxQueueSize then
    s.setLink p { s.link p with rx := (s.link p).rx ++ [f] }
  else s.overrun p f.kind

/-- A good frame arrives. -/
def State.goodArrival (s : State) (p : Port) (f : Frame) : State :=
  (s.setLink p (s.link p).goodFrame).offerRx p f

/-- A frame arrives at a port. -/
def State.arrival (s : State) (p : Port) (w : WireFrame) : State :=
  match s.judgeArrival p w with
  | .crc => s.badArrival p .crc
  | .wrongSender => s.wrongArrival p
  | .malformed => s.badArrival p .malformed
  | .good f => s.goodArrival p f

/-- FRAME_ARRIVAL (R85): the changes of link state it causes are made within it (log entry 16). -/
def execFrameArrival (p : Port) (f : WireFrame) (s : State) : Outcome State Fault Refusal :=
  .next (s.arrival p f)

/-- Whether a frame is the one that makes the port UP. -/
def State.bringsUp (s : State) (p : Port) (w : WireFrame) : Bool :=
  !(s.link p).up && decide (3 ≤ (s.link p).goodRun + 1) &&
    match s.judgeArrival p w with
    | .good _ => true
    | _ => false

/-- LINK_UP (R87): the third consecutive good frame in DOWN arrives (log entry 16). -/
def execLinkUp (p : Port) (f : WireFrame) (s : State) : Outcome State Fault Refusal :=
  .next (if s.bringsUp p f then s.arrival p f else s)

/-- LINK_DOWN (R88): an UP port whose silence time has reached 5, or whose bad run has reached 4. -/
def execLinkDown (p : Port) (s : State) : Outcome State Fault Refusal :=
  .next (
    if (s.link p).up && Config.silenceLimit ≤ (s.link p).silence then s.goDown p .silence
    else if (s.link p).up && 4 ≤ (s.link p).badRun then s.goDown p .badRun
    else s)

/-- SILENCE_RESET_IN_DOWN (R87). -/
def execSilenceResetInDown (p : Port) (s : State) : Outcome State Fault Refusal :=
  .next (
    if !(s.link p).up && Config.silenceLimit ≤ (s.link p).silence then
      s.setLink p { s.link p with goodRun := 0, silence := 0 }
    else s)

/-! ### Sending (R84, R90, R91) -/

/-- The IDLE frame built now (R91). -/
def State.idleFrame (s : State) : Frame := .idle (some s.mdc.mode) s.vtu.last s.role

/-- The transmitter begins sending the head of the queue. -/
def State.beginSending (s : State) (p : Port) (f : Frame) (rest : List Frame) : State :=
  s.setLink p { s.link p with
    sending := some (f.wire s.chanId.toNat), tx := rest, begun := true, idleDue := false }

/-- The transmitter begins sending the IDLE frame that a ms tick called for. The frame belongs to that tick, so the
next tick, where nothing else has begun since, calls for one again (R90, section 6.7, log entry 17). -/
def State.sendIdle (s : State) (p : Port) : State :=
  s.setLink p { s.link p with sending := some (s.idleFrame.wire s.chanId.toNat), idleDue := false }

/-- IDLE_FRAME_SEND (R90). -/
def execIdleFrameSend (p : Port) (s : State) : Outcome State Fault Refusal :=
  .next (
    if (s.link p).idleDue && (s.link p).sending.isNone && (s.link p).tx.isEmpty && !s.noIdentity then
      s.sendIdle p
    else s)

/-- TX_FRAME_START (R90). -/
def execTxFrameStart (p : Port) (s : State) : Outcome State Fault Refusal :=
  .next (
    match (s.link p).sending, (s.link p).tx with
    | none, f :: fs => s.beginSending p f fs
    | _, _ => s)

/-- TX_FRAME_END (R84). -/
def execTxFrameEnd (p : Port) (s : State) : Outcome State Fault Refusal :=
  .next (s.setLink p { s.link p with sending := none })

/-! ### The service queue -/

/-- Whether an entry of the service queue may move to a port's transmit queue (Table 6.5). -/
def State.takesEntry (s : State) (p : Port) : Bool :=
  (s.link p).up && decide ((s.link p).tx.length + Config.servicePlaces ≤ Config.txQueueSize)

/-- The head of the service queue moves; a repair service ends when its REPAIR_END moves (R154). -/
def State.moveEntry (s : State) (v : Service) (f : Frame) (rest : List Frame) : State :=
  let s' := (s.setService (some { v with queue := rest })).setLink v.port
    { s.link v.port with tx := (s.link v.port).tx ++ [f] }
  if f.kind = 11 then s'.endService none else s'

/-- SERVICE_QUEUE_MOVE (R139). -/
def execServiceQueueMove (s : State) : Outcome State Fault Refusal :=
  .next (
    match s.rse.service with
    | some v =>
      match v.queue with
      | f :: rest => if s.takesEntry v.port then s.moveEntry v f rest else s
      | [] => s
    | none => s)

/-- SEGMENT_ENTRY_JOIN (R134). -/
def execSegmentEntryJoin (s : State) : Outcome State Fault Refusal :=
  .next (
    match s.rse.service with
    | some v =>
      match v.segmentReady with
      | some b => s.setService (some (v.joinSegment b))
      | none => s
    | none => s)

/-- COPY_END_ENTRY_JOIN (R140). -/
def execCopyEndEntryJoin (s : State) : Outcome State Fault Refusal :=
  .next (
    match s.rse.service with
    | some v => if v.endReady then s.setService (some v.joinEnd) else s
    | none => s)

end Sys2Proof.Machine
end

