-- ==== Sys2Proof/Machine/TimeSteps.lean ====
section
/-! DEFINITION. The family of the resets and clocks: POR, the two ticks, the expiries they lead to, and the notice
lines' pulse times (R35, R40, R75, R102, R106, R169, R171). -/

namespace Sys2Proof.Machine

open Host (Outcome)

/-- POR (R21, R83, R117): the straps are sampled and every block takes its POR values. -/
def execPor (chanId msize : BitVec 2) (s : State) : Outcome State Fault Refusal :=
  .next (State.afterPor chanId msize s.pending)

/-! ### The ms tick (R171) -/

/-- The ageing time at a tick (R40). -/
def Ret.tick (r : Ret) (period : Nat) : Ret :=
  if period = 0 then { r with ageing := 0, sweepDue := false }
  else
    let n := min 255000 (r.ageing + 1)
    { r with ageing := n, sweepDue := decide (period * 1000 ≤ n) }

/-- The coverage timer at a tick (R75). -/
def Ptl.tick (x : Ptl) (limit : Nat) : Ptl :=
  match x.timer with
  | none => x
  | some t =>
    let n := min 3600000 (t + 1)
    { x with timer := some n, lateDue := decide (limit * 1000 ≤ n) }

/-- A vote record's deadline at a tick (R106). -/
def VoteRecord.tick (r : VoteRecord) : VoteRecord := { r with deadline := r.deadline.map (· - 1) }

/-- The watchdog and the deadlines at a tick (R102, R106). -/
def Vtu.tick (x : Vtu) : Vtu :=
  { x with
    watchdog := x.watchdog.map (fun n => min 5000 (n + 1)), records := x.records.map VoteRecord.tick }

/-- A port at a tick: the silence time (R87), and whether an IDLE frame is called for (R90). -/
def LinkPort.tick (l : LinkPort) (noIdentity : Bool) : LinkPort :=
  { l with
    silence := min Config.silenceLimit (l.silence + 1), begun := false
    idleDue := !noIdentity && l.sending.isNone && l.tx.isEmpty && !l.begun }

/-- The request time at a tick (R130). -/
def Reentry.tick (v : Reentry) : Reentry :=
  if v.phase = .asking then { v with time := min Config.requestTimeout (v.time + 1) } else v

/-- The answer time at a tick (R151). -/
def Repair.tick (v : Repair) : Repair :=
  if v.phase = .auditing then v else { v with time := min Config.requestTimeout (v.time + 1) }

/-- The ms tick: every timer counted in ms advances. -/
def State.tick (s : State) : State :=
  { s with
    evu := { s.evu with msTime := s.evu.msTime + 1 }
    ret := s.ret.tick s.cmi.settings.agePeriod
    ptl := s.ptl.tick s.cmi.settings.coverLimit
    vtu := s.vtu.tick
    lkc := { a := s.lkc.a.tick s.noIdentity, b := s.lkc.b.tick s.noIdentity }
    rse := { s.rse with
      reentry := s.rse.reentry.map Reentry.tick, repair := s.rse.repair.map Repair.tick } }

/-- MS_TICK (R171). -/
def execMsTick (s : State) : Outcome State Fault Refusal := .next s.tick

/-! ### The pacing tick (R35) -/

/-- The time of a pulse or a gap at a pacing tick (log entries 13 and 18). -/
def NoticeLine.tick (n : NoticeLine) : NoticeLine :=
  if n.state = .quiet then n else { n with ticks := min 25500 (n.ticks + 1) }

/-- PACING_TICK (R35): both credits are set anew. -/
def execPacingTick (s : State) : Outcome State Fault Refusal :=
  .next { s with
    msq := { s.msq with
      scrubCredit := s.cmi.settings.scrubRate, sourceCredit := s.cmi.settings.sourceRate }
    evu := { s.evu with na := s.evu.na.tick, nb := s.evu.nb.tick } }

/-! ### Expiries -/

/-- AGEING_SWEEP (R40): due where the latest tick has found it so (log entry 14). -/
def execAgeingSweep (s : State) : Outcome State Fault Refusal := .next (if s.ret.sweepDue then s.sweep else s)

/-- The coverage timer expires (R75). -/
def State.coverageLate (s : State) : State :=
  ((s.fire .scrubLate).count .scrubLate).setPtl { s.ptl with timer := some 0, lateDue := false }

/-- COVERAGE_TIMER_EXPIRY (R75). -/
def execCoverageTimerExpiry (s : State) : Outcome State Fault Refusal :=
  .next (if s.ptl.lateDue && s.ptl.timer.isSome then s.coverageLate else s)

/-- The watchdog has reached CYCLE_LIMIT in SYNC, RUN or REPAIR (R102). -/
def State.cycleIsLate (s : State) : Bool :=
  s.vtu.watchdog.any (fun n => decide (s.cmi.settings.cycleLimit ≤ n)) && s.mdc.mode.votes

/-- CYCLE_WATCHDOG_EXPIRY (R102). -/
def execCycleWatchdogExpiry (s : State) : Outcome State Fault Refusal :=
  .next (if s.cycleIsLate then (s.fire .cycleLate).isolateFor .cycleLate else s)

/-- The OPEN record whose deadline has reached 0 (R106). -/
def State.expiredRecord (s : State) : Option VoteRecord :=
  s.vtu.records.find? (fun r => r.isOpen && r.deadline == some 0)

/-- VOTE_DEADLINE_EXPIRY (R106). -/
def execVoteDeadlineExpiry (s : State) : Outcome State Fault Refusal :=
  .next (match s.expiredRecord with
    | some r => s.decideRecord r.cycle
    | none => s)

/-- PARTNER_LOST (R107): a decision makes this change itself (log entry 15); the step is due where the count is 2
and the flag is still clear. -/
def execPartnerLost (p : Port) (s : State) : Outcome State Fault Refusal :=
  .next (if (s.link p).partner.absence = 2 && !(s.link p).partner.lost then s.markLost p else s)

/-- UNCHECKED_RUN_LIMIT (R112): a decision makes this change itself (log entry 15). -/
def execUncheckedRunLimit (s : State) : Outcome State Fault Refusal := .next s.uncheckedLimit

/-- SYNC_TIMEOUT (R113): a decision makes this change itself (log entry 15). -/
def execSyncTimeout (s : State) : Outcome State Fault Refusal := .next s.syncLimit

/-! ### The notice lines (R169) -/

/-- The state of a line replaced. -/
def State.setNotice (s : State) (l : NoticeName) (n : NoticeLine) : State := { s with evu := s.evu.setLine l n }

/-- Whether a flag that is set is routed to a line. -/
def State.routedSet (s : State) (l : NoticeName) : Bool := anyRouted s.cmi.settings s.evu.flags l

/-- NOTICE_PULSE_END (R169): due where the 20 µs of a pulse have passed. -/
def execNoticePulseEnd (l : NoticeName) (s : State) : Outcome State Fault Refusal :=
  .next (
    if s.cmi.settings.style l = .pulse && (s.evu.line l).pulseOver then
      s.setNotice l ((s.evu.line l).pulseEnd s.cmi.settings.noticeGap (s.routedSet l))
    else s)

/-- NOTICE_GAP_END (R169): due where the gap has reached the NOTICE_GAP in force (R170). -/
def execNoticeGapEnd (l : NoticeName) (s : State) : Outcome State Fault Refusal :=
  .next (
    if s.cmi.settings.style l = .pulse && (s.evu.line l).gapOver s.cmi.settings.noticeGap then
      s.setNotice l ((s.evu.line l).gapEnd (s.routedSet l))
    else s)

end Sys2Proof.Machine
end

