-- ==== Sys2Proof/Machine/Dispatch.lean ====
section
/-! DEFINITION. The meaning of each command, one arm for each row of the opcode table. -/

namespace Sys2Proof.Machine

open Host (Outcome)

/-- The effect of a command on everything but the queue. -/
def exec (i : Instr) (s : State) : Host.Outcome State Fault Refusal :=
  match i with
  | .por chanId msize => Sys2Proof.Machine.execPor chanId msize s
  | .msTick => Sys2Proof.Machine.execMsTick s
  | .pacingTick => Sys2Proof.Machine.execPacingTick s
  | .processorTransaction t => Sys2Proof.Machine.execProcessorTransaction t s
  | .apertureWordWrite index value => Sys2Proof.Machine.execApertureWordWrite index value s
  | .unknownCommand code => Sys2Proof.Machine.execUnknownCommand code s
  | .status page => Sys2Proof.Machine.execStatus page s
  | .settingsWrite setting value => Sys2Proof.Machine.execSettingsWrite setting value s
  | .settingsRead setting => Sys2Proof.Machine.execSettingsRead setting s
  | .restart => Sys2Proof.Machine.execRestart s
  | .tableOpen => Sys2Proof.Machine.execTableOpen s
  | .tableWrite image0 image1 image2 index => Sys2Proof.Machine.execTableWrite image0 image1 image2 index s
  | .tableClose => Sys2Proof.Machine.execTableClose s
  | .tableRead index => Sys2Proof.Machine.execTableRead index s
  | .coldStart => Sys2Proof.Machine.execColdStart s
  | .isolate => Sys2Proof.Machine.execIsolate s
  | .cycleMark n => Sys2Proof.Machine.execCycleMark n s
  | .voteRead cycle part => Sys2Proof.Machine.execVoteRead cycle part s
  | .reenter => Sys2Proof.Machine.execReenter s
  | .joinAt n => Sys2Proof.Machine.execJoinAt n s
  | .digestRead index => Sys2Proof.Machine.execDigestRead index s
  | .rowTableRead position => Sys2Proof.Machine.execRowTableRead position s
  | .spareRead index => Sys2Proof.Machine.execSpareRead index s
  | .eventsRead => Sys2Proof.Machine.execEventsRead s
  | .eventsClear set => Sys2Proof.Machine.execEventsClear set s
  | .captureRead cls => Sys2Proof.Machine.execCaptureRead cls s
  | .captureClear cls => Sys2Proof.Machine.execCaptureClear cls s
  | .countersRead first count => Sys2Proof.Machine.execCountersRead first count s
  | .countersClear => Sys2Proof.Machine.execCountersClear s
  | .arbiterGrant => Sys2Proof.Machine.execArbiterGrant s
  | .processorReadEnd m => Sys2Proof.Machine.execProcessorReadEnd m s
  | .processorWriteEnd m => Sys2Proof.Machine.execProcessorWriteEnd m s
  | .partialWriteEnd m => Sys2Proof.Machine.execPartialWriteEnd m s
  | .scrubReadEnd m => Sys2Proof.Machine.execScrubReadEnd m s
  | .auditReadEnd m => Sys2Proof.Machine.execAuditReadEnd m s
  | .clearWriteEnd => Sys2Proof.Machine.execClearWriteEnd s
  | .copyReadEnd m => Sys2Proof.Machine.execCopyReadEnd m s
  | .frameWriteEnd m => Sys2Proof.Machine.execFrameWriteEnd m s
  | .restoringWriteEnd => Sys2Proof.Machine.execRestoringWriteEnd s
  | .rowMoveCopyEnd m => Sys2Proof.Machine.execRowMoveCopyEnd m s
  | .ageingSweep => Sys2Proof.Machine.execAgeingSweep s
  | .coverageTimerExpiry => Sys2Proof.Machine.execCoverageTimerExpiry s
  | .cycleWatchdogExpiry => Sys2Proof.Machine.execCycleWatchdogExpiry s
  | .voteDeadlineExpiry => Sys2Proof.Machine.execVoteDeadlineExpiry s
  | .partnerLost p => Sys2Proof.Machine.execPartnerLost p s
  | .uncheckedRunLimit => Sys2Proof.Machine.execUncheckedRunLimit s
  | .syncTimeout => Sys2Proof.Machine.execSyncTimeout s
  | .frameArrival p f => Sys2Proof.Machine.execFrameArrival p f s
  | .linkUp p f => Sys2Proof.Machine.execLinkUp p f s
  | .linkDown p => Sys2Proof.Machine.execLinkDown p s
  | .silenceResetInDown p => Sys2Proof.Machine.execSilenceResetInDown p s
  | .idleFrameSend p => Sys2Proof.Machine.execIdleFrameSend p s
  | .txFrameStart p => Sys2Proof.Machine.execTxFrameStart p s
  | .txFrameEnd p => Sys2Proof.Machine.execTxFrameEnd p s
  | .serviceQueueMove => Sys2Proof.Machine.execServiceQueueMove s
  | .segmentEntryJoin => Sys2Proof.Machine.execSegmentEntryJoin s
  | .copyEndEntryJoin => Sys2Proof.Machine.execCopyEndEntryJoin s
  | .idle p => Sys2Proof.Machine.execIdle p s
  | .digest p => Sys2Proof.Machine.execDigest p s
  | .copyRequest p => Sys2Proof.Machine.execCopyRequest p s
  | .copyAccept p => Sys2Proof.Machine.execCopyAccept p s
  | .copyRefuse p => Sys2Proof.Machine.execCopyRefuse p s
  | .segment p => Sys2Proof.Machine.execSegment p s
  | .forward p => Sys2Proof.Machine.execForward p s
  | .copyEnd p => Sys2Proof.Machine.execCopyEnd p s
  | .joined p => Sys2Proof.Machine.execJoined p s
  | .abandon p => Sys2Proof.Machine.execAbandon p s
  | .repairRequest p => Sys2Proof.Machine.execRepairRequest p s
  | .repairEnd p => Sys2Proof.Machine.execRepairEnd p s
  | .copyRequestTimeout => Sys2Proof.Machine.execCopyRequestTimeout s
  | .repairAnswerTimeout => Sys2Proof.Machine.execRepairAnswerTimeout s
  | .repairSegmentTimeout => Sys2Proof.Machine.execRepairSegmentTimeout s
  | .noticePulseEnd l => Sys2Proof.Machine.execNoticePulseEnd l s
  | .noticeGapEnd l => Sys2Proof.Machine.execNoticeGapEnd l s

end Sys2Proof.Machine
end

