-- ==== Sys2Proof/Safety.lean ====
section
/-! DEFINITION. What counts as a safe run: the laws of the part, each as a predicate of a state, and the words
in which the statements speak of a command's answer. -/

namespace Sys2Proof.Machine

/-! ### Laws of the part -/

/-- R118: CHEN is asserted if and only if the mode is RUN. -/
def ChenLaw (s : State) : Prop := s.mdc.chen = true ↔ s.mdc.mode = .run

/-- R3: the table-closed flag is clear in START and LOAD and set in every other mode. -/
def ClosedLaw (s : State) : Prop := s.rgt.closed = true ↔ (s.mdc.mode ≠ .start ∧ s.mdc.mode ≠ .load)

/-- R6: a valid entry passes the four conditions of Table 1.2 at its index. -/
def EntryPasses (s : State) (i : Fin 32) (r : Region) : Prop :=
  r.base % 4096 = 0 ∧ 1 ≤ r.length ∧ r.base + r.length * 4096 ≤ (s.rows - 16) * 1024 ∧
    ∀ j q, j < i → s.region j = some q →
      q.base + q.length * 4096 ≤ r.base ∨ r.base + r.length * 4096 ≤ q.base

/-- R7: no two valid regions of a closed table overlap, and none reaches into the spare area: every valid entry passes the
conditions of its close. -/
def TableLaw (s : State) : Prop := s.rgt.closed = true → ∀ i r, s.region i = some r → EntryPasses s i r

/-- R166: no counter exceeds 65535; R163: no repeat count exceeds 255. -/
def CountersLaw (s : State) : Prop :=
  (∀ i : Fin 16, s.evu.counters[i] ≤ 65535) ∧ ∀ k : CaptureClass, (s.evu.capture k).repeats ≤ 255

/-- R177, R178: every setting lies in its range, and 2 ≤ VOTE_DEADLINE ≤ ⌊CYCLE_LIMIT / 2⌋. -/
def SettingsLaw (s : State) : Prop :=
  ∀ st : Setting, st.lower ≤ s.cmi.settings.value st ∧
    s.cmi.settings.value st ≤ st.upper s.cmi.settings

/-- The listed memory is in canonical form: locations strictly rising. -/
def MemoryLaw (s : State) : Prop := memWf s.mem = true

/-- R90, R93: a transmit queue holds at most 16 frames and a receive queue at most 8. -/
def LinkQueuesLaw (s : State) : Prop :=
  ∀ p : Port, (s.link p).tx.length ≤ 16 ∧ (s.link p).rx.length ≤ 8

/-- R37: RET holds at most 64 entries, for distinct rows. -/
def RowTableLaw (s : State) : Prop :=
  s.ret.entries.length ≤ 64 ∧ (s.ret.entries.map (·.row)).Nodup

/-- Whether a spare is receiving a row. -/
def Spare.isMoving : Spare → Bool
  | .moving _ _ => true
  | _ => false

/-- R44: at most one spare is MOVING. -/
def MoveLaw (s : State) : Prop :=
  ∀ i j : Fin 16, s.srm.spares[i].isMoving = true → s.srm.spares[j].isMoving = true → i = j

/-- R44: no row is replaced by two spares that are ACTIVE or MOVING, so no logical row has two ACTIVE spares. An ACTIVE
spare holds a logical row whose own row entry is REPLACED (R48), and the row a MOVING spare copies has an entry that is
no longer TRACKING (R46). -/
def RowMapLaw (s : State) : Prop :=
  (∀ (i j : Fin 16) r, s.srm.spares[i].row = some r → s.srm.spares[j].row = some r → i = j) ∧
    (∀ (i : Fin 16) r a, s.srm.spares[i] = .active r a → r < s.rows - 16 ∧
      (∃ e ∈ s.ret.entries, e.row = r) ∧ ∀ e ∈ s.ret.entries, e.row = r → e.state = .replaced) ∧
    ∀ (i : Fin 16) row p, s.srm.spares[i] = .moving row p →
      ∃ e ∈ s.ret.entries, e.row = row ∧ e.state ≠ .tracking

/-- R55, R56: every digest, accumulator and the table digest lie in 0 to M - 1; and the D of an INVALID record is
0, as R54 and R58 leave it (section 13.4 sends such a region with digest 0). -/
def DigestLaw (s : State) : Prop :=
  (∀ i : Fin 32, (s.record i).digest < Config.digestModulus ∧ (s.record i).acc < Config.digestModulus ∧
    ((s.record i).valid = false → (s.record i).digest = 0)) ∧
    s.dgu.tableDigest < Config.digestModulus

/-- R132: the part is source of a service only while its mode is RUN. -/
def SourceLaw (s : State) : Prop := s.rse.service.isSome = true → s.mdc.mode = .run

/-- The number of REPAIR_END entries of a service queue. -/
def Service.repairEnds (v : Service) : Nat := v.queue.countP (fun f => f.kind == 11)

/-- The entries of a service queue are of five kinds (R139): MARK, SEGMENT, FORWARD, COPY_END and REPAIR_END. -/
def Service.kindsKept (v : Service) : Prop :=
  ∀ f ∈ v.queue, f.kind = 1 ∨ f.kind = 5 ∨ f.kind = 6 ∨ f.kind = 7 ∨ f.kind = 11

/-- A service of kind REPAIR is for one block (R152): nothing is resent, no COPY_END is queued, and once the walk has taken
the block it takes none again, so that its REPAIR_END is queued once. -/
def Service.repairKept (v : Service) : Prop :=
  v.map.length ≤ 1 ∧ v.resend = [] ∧ v.copyEnds = 0 ∧
    (v.buffer.isSome = true → v.map.length ≤ v.walk ∧ v.repairEnds = 0) ∧
    (1 ≤ v.repairEnds → v.map.length ≤ v.walk ∧ v.buffer = none)

/-- R139: the service queue holds at most 28 FORWARD, 2 SEGMENT and 2 MARK entries and at most 1 COPY_END or REPAIR_END
entry, 33 in all; R137: the resend list holds at most 64 blocks. -/
def ServiceQueueLaw (s : State) : Prop :=
  ∀ v, s.rse.service = some v →
    v.forwards ≤ 28 ∧ v.segments ≤ 2 ∧ v.marks ≤ 2 ∧ v.copyEnds + v.repairEnds ≤ 1 ∧ v.queue.length ≤ 33 ∧
      v.kindsKept ∧ v.resend.length ≤ 64 ∧ (v.kind = .reentry → v.repairEnds = 0) ∧
      (v.kind = .repair → v.repairKept)

/-- R149: the repair list is non-empty only while the mode is REPAIR, and it holds at most 8 blocks, all distinct. A
repair audit is asked for or in progress only while it is empty, and keeps the scrub it suspended (R81, R158). -/
def RepairLaw (s : State) : Prop :=
  (s.rse.repairList ≠ [] → s.mdc.mode = .repair) ∧ s.rse.repairList.length ≤ 8 ∧ s.rse.repairList.Nodup ∧
    (s.ptl.kind = .repairAudit → s.ptl.suspended.isSome = true ∧ s.rse.repairList = []) ∧
    (s.ptl.asked ≠ [] → s.rse.repairList = [])

/-- In START and LOAD nothing is at work: TXI holds no transaction (R13), no frame is in work, no service, re-entry or repair
is present (R127, R149), the patrol has no position (R66), and no one waits for a group in flight (R36). -/
def QuietLaw (s : State) : Prop :=
  s.mdc.mode = .start ∨ s.mdc.mode = .load →
    s.txi.held = none ∧ (∀ p, (s.link p).work = none) ∧ s.rse.service = none ∧ s.rse.reentry = none ∧
      s.rse.repair = none ∧ s.ptl.place = none ∧
      ∀ g, s.msq.port = some g → g.live = false ∧ g.place = none

/-- R36: a group in flight is judged by the table that held at its grant, which is the table now, or reaches no region. -/
def PlaceLaw (s : State) : Prop :=
  ∀ g, s.msq.port = some g → g.place = none ∨ g.place = s.placeOf g.op.addr

/-- R149: each block of the repair list lies inside a CONSTANT region. The table's law (R7), and that an uncorrectable word is
judged by the region it lies in, are what carries it through a step. -/
def ListedLaw (s : State) : Prop :=
  ClosedLaw s ∧ TableLaw s ∧ QuietLaw s ∧ PlaceLaw s ∧ RepairLaw s ∧
    ∀ b ∈ s.rse.repairList, ∃ i r, s.region i = some r ∧ r.cls = .constant ∧ r.base ≤ b ∧
      b + 4096 ≤ r.base + r.length * 4096

/-- R103: the vote table holds at most 4 records, with distinct cycle numbers, and at most 3 of them OPEN. An OPEN
record is for cycle L, L + 1 or L + 2, and only that of L holds a local snapshot, which it always does; while L is
undefined, as it is in REENTRY, VERIFY and READY, the table is empty (R98, R114). -/
def VoteLaw (s : State) : Prop :=
  s.vtu.records.length ≤ 4 ∧ (s.vtu.records.map (·.cycle)).Nodup ∧ s.vtu.records.countP (·.isOpen) ≤ 3 ∧
    (s.vtu.last = none → s.vtu.records = []) ∧
    (s.mdc.mode = .reentry ∨ s.mdc.mode = .verify ∨ s.mdc.mode = .ready → s.vtu.last = none) ∧
    ∀ l, s.vtu.last = some l → ∀ r ∈ s.vtu.records, r.isOpen = true →
      (r.cycle = l ∧ r.snapshot.isSome = true) ∨
        ((r.cycle = l + 1 ∨ r.cycle = l + 2) ∧ r.snapshot = none)

/-- R34: the yield count lies in 0 to 10. While a counted processor read is in flight, whose write-back may still
add two slots, it is at most 8. -/
def YieldLaw (s : State) : Prop :=
  s.msq.yieldCount ≤ 10 ∧
    ∀ g a, s.msq.port = some g → g.counted = true → g.op = .pRead a → s.msq.yieldCount ≤ 8

/-- R9: an access waits only while TXI holds a transaction. -/
def BusLaw (s : State) : Prop := s.txi.held = none → s.txi.waiting = []

/-- The laws together. -/
def Safe (s : State) : Prop :=
  ChenLaw s ∧ ClosedLaw s ∧ CountersLaw s ∧ SettingsLaw s ∧ MemoryLaw s ∧ LinkQueuesLaw s ∧
    RowTableLaw s ∧ MoveLaw s ∧ RowMapLaw s ∧ DigestLaw s ∧ SourceLaw s ∧ ServiceQueueLaw s ∧ RepairLaw s ∧
    VoteLaw s ∧ YieldLaw s ∧ BusLaw s ∧ TableLaw s ∧ ListedLaw s

/-! ### Reports to the event unit (R160, R163, R166) -/

/-- The flag of an event is set. -/
def FlagSet (s : State) (ev : Event) : Prop := s.evu.flags.getLsbD ev.index = true

/-- R160: the named events have fired, and no other flag has changed. -/
def Fired (s t : State) (evs : List Event) : Prop := ∀ ev, FlagSet t ev ↔ FlagSet s ev ∨ ev ∈ evs

/-- R166: the named counters have gone up by 1 below 65535, and no other counter has changed. -/
def Counted (s t : State) (cs : List Counter) : Prop :=
  ∀ c : Counter, t.evu.counters[c.index] =
    if c ∈ cs ∧ s.evu.counters[c.index] < 65535 then s.evu.counters[c.index] + 1
    else s.evu.counters[c.index]

/-- No capture record has changed. -/
def CapturesKept (s t : State) : Prop := ∀ k, t.evu.capture k = s.evu.capture k

/-- R163: one offer to a class, stamped with L and the ms time; the other records have not changed. -/
def Captured (s t : State) (k : CaptureClass) (r : Requester) (address : Option Nat) (d : Detail) : Prop :=
  (t.evu.capture k).fields =
      (if (s.evu.capture k).fields.isSome = true ∧ s.cmi.settings.captureMode[k.index] = .first then
        (s.evu.capture k).fields
      else some { cycle := s.vtu.last, time := s.evu.msTime, address, requester := r, detail := d }) ∧
    (t.evu.capture k).repeats =
      (if (s.evu.capture k).repeats < 255 then (s.evu.capture k).repeats + 1
      else (s.evu.capture k).repeats) ∧
    ∀ k', k' ≠ k → t.evu.capture k' = s.evu.capture k'

/-- R168, R169: a line is asserted: in LEVEL style exactly while a flag routed to it is set, in PULSE style while it
is PULSING. -/
def LineAsserted (s : State) (l : NoticeName) : Prop :=
  (s.cmi.settings.style l = .level ∧
    ∃ i, i < 24 ∧ s.evu.flags.getLsbD i = true ∧ s.cmi.settings.routed i l = true) ∨
  (s.cmi.settings.style l = .pulse ∧ (s.evu.line l).state = .pulsing)

/-- R169: a line's gap has ended: a pulse starts where a rise is pending and a flag routed to the line is set; the line
is QUIET otherwise. -/
def GapEnded (s t : State) (l : NoticeName) : Prop :=
  ∃ st, t.evu.line l = { state := st, pending := false, ticks := 0 } ∧
    (((s.evu.line l).pending = true ∧
      ∃ i, i < 24 ∧ s.evu.flags.getLsbD i = true ∧ s.cmi.settings.routed i l = true) → st = .pulsing) ∧
    (((s.evu.line l).pending = false ∨
      ∀ i, i < 24 → s.evu.flags.getLsbD i = true → s.cmi.settings.routed i l = false) → st = .quiet)

/-- The event unit is as it was but for flags, counters, captures and lines: its time stands. -/
def TimeKept (s t : State) : Prop := t.evu.msTime = s.evu.msTime

/-! ### Frames offered and taken (Table 6.5, R94) -/

/-- Table 6.5: the transmit queue of a port after a frame other than a service-queue entry is offered. -/
def queued (l : LinkPort) (f : Frame) : List Frame :=
  if l.up = true ∧ l.tx.length < 16 then l.tx ++ [f] else l.tx

/-- A frame has been offered on a port, and nothing else of the two ports has changed. -/
def Offered (s t : State) (p : Port) (f : Frame) : Prop :=
  t.link p = { s.link p with tx := queued (s.link p) f } ∧ ∀ q, q ≠ p → t.link q = s.link q

/-- The counter of an offer: TX_DROP at a full queue of an UP port. -/
def dropped (l : LinkPort) : List Counter := if l.up = true ∧ 16 ≤ l.tx.length then [.txDrop] else []

/-- R88: a port has gone DOWN, its counters at 0, its queues empty and its partner UNKNOWN with no cycle and no role, and
nothing else of the two ports has changed. -/
def WentDown (s t : State) (p : Port) : Prop :=
  t.link p = { s.link p with
    up := false, goodRun := 0, badRun := 0, silence := 0, tx := [], rx := []
    partner := { (s.link p).partner with mode := none, cycle := none, role := .none } } ∧
  ∀ q, q ≠ p → t.link q = s.link q

/-- R94: a port's next frame is this one, and none is in work. -/
def NextFrame (s : State) (p : Port) (f : Frame) : Prop :=
  (s.link p).work = none ∧ (s.link p).rx.head? = some f

/-! ### Word operations that end (R18, R19, R22, R38, R39) -/

/-- The location that a group reaches, and the word found there by its read slot. -/
def groupKey (g : Group) : Nat := g.row * 256 + g.word

/-- The word that a group's read slot finds: what is listed for its location, or the sample's data, with the
sample's upsets. -/
def found (s : State) (g : Group) (m : CellSample) : Stored := sampled s.mem (groupKey g) m

/-- The listed words are as before but for those at these locations. -/
def CellsKept (s t : State) (keys : List Nat) : Prop :=
  ∀ key, key ∉ keys → memLookup t.mem key = memLookup s.mem key

/-- The locations that a group's writes reach: its own, and that of the spare row written beside it (R28). -/
def writtenKeys (g : Group) : List Nat := groupKey g :: (g.mirror.map (fun r => r * 256 + g.word)).toList

/-- A value stands with fresh check bits at every location that a group's writes reach. -/
def Stores (t : State) (g : Group) (v : Word) : Prop :=
  ∀ key ∈ writtenKeys g, memLookup t.mem key = some { data := v, flips := 0 }

/-- A word of the transaction held is done, with a status and data (R17 to R19): the last one is answered with the
worst status of the burst and all its data, where no access waits. -/
def WordAnswered (s t : State) (st : ResponseStatus) (data : List Word) : Prop :=
  (s.txi.held = none → t.txi = s.txi) ∧
  ∀ h, s.txi.held = some h →
    (h.reads ≤ 1 → h.writes.length ≤ 1 →
      t.txi = { held := none, response := some { status := h.status.worse st, data := h.data ++ data } }) ∧
    (2 ≤ h.reads ∨ 2 ≤ h.writes.length →
      t.txi = { s.txi with held := some { h with
        next := h.next + 4, reads := h.reads - 1, writes := h.writes.tail
        status := h.status.worse st, data := h.data ++ data } })

/-- The 32 data bits of a stored word as they stand in memory, those gone wrong among them. -/
def storedBits (w : Stored) : Word := w.data ^^^ w.flips.setWidth 32

/-- A processor group that writes a new value, and the command that ends it: a full word, or the merge of the selected
bytes over the old word where that reads CLEAN or CORRECTED (R25, R26). -/
def WriteOf (s : State) (g : Group) (i : Instr) (new : Word) (m : CellSample) : Prop :=
  (i = .processorWriteEnd m ∧ ∃ a, g.op = .pWrite a new) ∨
  (i = .partialWriteEnd m ∧ ∃ a v k, g.op = .pPartial a v k ∧ wrongBits (found s g m).flips ≤ 1 ∧
    ∀ b, b < 32 → new.getLsbD b = if k.getLsbD (b / 8) then v.getLsbD b else (found s g m).data.getLsbD b)

/-- R32: the write of a group has not changed the stored value: its old word was read, and is the new value. A write that
reads no old word counts as a change. -/
def Unchanged (s : State) (g : Group) (i : Instr) (new : Word) (m : CellSample) : Prop :=
  (g.updating = true ∨ i = .partialWriteEnd m) ∧ (found s g m).data = new

/-- A block of a map marked. -/
def marked (b : Nat) (st : BlockState) (map : List (Nat × BlockState)) : List (Nat × BlockState) :=
  map.map (fun e => if e.1 = b then (e.1, st) else e)

/-- R134: the engine takes its next block: none while a buffer is there, then along the main walk, then from the head of
the resend list. -/
def TakesNext (v v' : Service) : Prop :=
  (v.buffer.isSome = true → v' = v) ∧
  (∀ n st, v.buffer = none → v.map[v.walk]? = some (n, st) → v' = { v with
    walk := v.walk + 1, map := marked n .sending v.map, buffer := some { block := n, seg := 0, words := [] }
    endQueued := false }) ∧
  ∀ n ns, v.buffer = none → v.map.length ≤ v.walk → v.resend = n :: ns → v' = { v with
    resend := ns, map := marked n .sending v.map, buffer := some { block := n, seg := 0, words := [] }
    endQueued := false }

/-- R137: a step queues a FORWARD at the end of the service queue. Where 28 are queued it sends the block back: UNSENT, at the
tail of the resend list, out of the buffer, and counted; and where that list is full it ends the service with ABANDON,
reason OVERFLOW. -/
def ForwardQueued (s : State) (i : Instr) (v : Service) (addr : Nat) (new : Word) : Prop :=
  (v.queue.countP (fun f => f.kind == 6) < 28 → ∃ t, exec i s = .next t ∧ t.lkc = s.lkc ∧
    t.rse = { s.rse with service := some { v with queue := v.queue ++ [.forward addr new] } }) ∧
  (28 ≤ v.queue.countP (fun f => f.kind == 6) → v.resend.length < 64 →
    ∃ t v', exec i s = .next t ∧ t.lkc = s.lkc ∧ t.rse = { s.rse with service := some v' } ∧
      TakesNext { v with
        map := marked (addr / 4096 * 4096) .unsent v.map, resend := v.resend ++ [addr / 4096 * 4096]
        buffer := v.buffer.filter (fun b => b.block != addr / 4096 * 4096) } v' ∧
      t.evu.counters[(14 : Fin 16)] =
        (if s.evu.counters[(14 : Fin 16)] < 65535 then s.evu.counters[(14 : Fin 16)] + 1
          else s.evu.counters[(14 : Fin 16)])) ∧
  (28 ≤ v.queue.countP (fun f => f.kind == 6) → 64 ≤ v.resend.length → ∃ t, exec i s = .next t ∧
    t.rse = { s.rse with service := none } ∧ FlagSet t .serviceEnded ∧
    t.link v.port = { s.link v.port with tx := queued (s.link v.port) (.abandon 18) } ∧
    ∀ q, q ≠ v.port → t.link q = s.link q)

/-- R39: the count of an entry after a corrected-error report. -/
def countAfter (e : RowEntry) : Nat := if e.count < 15 then e.count + 1 else e.count

/-- R39: the entries after a corrected-error report for a row that has one. -/
def reportedEntries (s : State) (row word : Nat) : List RowEntry :=
  s.ret.entries.map (fun e =>
    if e.row = row then { e with
      count := countAfter e, touched := true, last := word
      state := if e.state = .tracking ∧ s.cmi.settings.weakLimit ≤ countAfter e then .weak else e.state }
    else e)

/-- R30, R38, R39: a corrected error has been reported for a row and a word. A TRACKING entry of the row becomes WEAK at the
limit; an entry in any other state keeps it, but for a WEAK one whose move starts. -/
def RowReported (s t : State) (row word : Nat) : Prop :=
  (∀ (k : Nat) e, s.ret.entries[k]? = some e → ∃ e', t.ret.entries[k]? = some e' ∧
    (e.row = row → e' = { e with state := e'.state, count := countAfter e, touched := true, last := word } ∧
      (e.state = .tracking → s.cmi.settings.weakLimit ≤ e'.count → e'.state = .weak ∨ e'.state = .moving) ∧
      (e.state = .tracking → e'.count < s.cmi.settings.weakLimit → e'.state = .tracking)) ∧
    (e.row ≠ row → e' = { e with state := e'.state }) ∧
    (e.row ≠ row ∨ e.state ≠ .tracking → e.state ≠ .weak → e'.state = e.state) ∧
    (e.state = .weak → e'.state = .weak ∨ e'.state = .moving)) ∧
  ((∃ e ∈ s.ret.entries, e.row = row) → t.ret.entries.length = s.ret.entries.length) ∧
  ((∀ e ∈ s.ret.entries, e.row ≠ row) → s.ret.entries.length < 64 →
    t.ret.entries.length = s.ret.entries.length + 1 ∧
    t.ret.entries[s.ret.entries.length]? = some
      { row, state := .tracking, count := 1, touched := true, last := word, firstSeen := s.evu.msTime }) ∧
  ((∀ e ∈ s.ret.entries, e.row ≠ row) → 64 ≤ s.ret.entries.length →
    t.ret.entries.length = s.ret.entries.length ∧ FlagSet t .rowTableFull)

/-- Table 8.4: an uncorrectable word of a class is an event only in a mode. -/
def EventOnly (m : Mode) (cls : RegionClass) : Prop :=
  cls = .nonvital ∨ (m ≠ .sync ∧ m ≠ .run ∧ m ≠ .repair ∧ m ≠ .verify ∧ m ≠ .ready)

/-- R45, R46: a move waits to start at the end of the group in flight. -/
def MoveWaits (s : State) : Prop := s.srm.startWaiting.isSome = true

/-- R46: the FREE spare with the lowest index. -/
def LowestFree (srm : Srm) (i : Fin 16) : Prop := srm.spares[i] = .free ∧ ∀ j, j < i → srm.spares[j] ≠ .free

/-- R46: the end of a group that reports no corrected error and copies no row. A move that waited starts, at the lowest FREE
spare with pointer 0; where none waited the map and the row entries are as they were. -/
def WaitingStarts (s t : State) : Prop :=
  (¬ MoveWaits s → t.srm = s.srm ∧ t.ret = s.ret) ∧ ∀ row i, s.srm.startWaiting = some row → (∀ j : Fin 16, s.srm.spares[j].isMoving = false) →
    (∃ e ∈ s.ret.entries, e.row = row ∧ e.state = .weak) → LowestFree s.srm i →
    t.srm = { spares := s.srm.spares.set i (.moving row 0), startWaiting := none } ∧
    t.ret = { s.ret with
      entries := s.ret.entries.map (fun e => if e.row = row then { e with state := .moving } else e) }

/-- R45: the modes that permit row moves. -/
def PermitsMoves (m : Mode) : Prop :=
  m = .sync ∨ m = .run ∨ m = .repair ∨ m = .isolated ∨ m = .verify ∨ m = .ready

/-- R45: SRM may choose a move in a mode: the mode permits moves and none is in flight. One chosen whose start waits counts
as chosen (log entry 24), and one that RESTART has ended does not count (log entry 25). -/
def MovePermitted (s : State) (m : Mode) : Prop :=
  PermitsMoves m ∧ s.srm.startWaiting = none ∧
    ((∀ i : Fin 16, s.srm.spares[i].isMoving = false) ∨
      ∃ g a, s.msq.port = some g ∧ g.op = .moveCopy a ∧ g.live = false)

/-- R45, R46: an occasion to choose a move, with these spares and entries. The WEAK entry at the lowest position becomes MOVING
and the lowest FREE spare receives its row from word 0 on, or that start waits for the group being performed; with no FREE
spare SPARES_EXHAUSTED fires and nothing starts. Where none may be chosen or no entry is WEAK, nothing changes. -/
def MoveChosen (srm : Srm) (es : List RowEntry) (permitted waits : Prop) (t : State) : Prop :=
  (¬ permitted ∨ (∀ e ∈ es, e.state ≠ .weak) → t.ret.entries = es ∧ t.srm = srm) ∧
  (permitted → ∀ (k : Nat) e, es[k]? = some e → e.state = .weak →
    (∀ (k' : Nat) e', k' < k → es[k']? = some e' → e'.state ≠ .weak) →
    (∀ i, LowestFree srm i →
      (¬ waits → t.srm = { srm with spares := srm.spares.set i (.moving e.row 0) } ∧
        t.ret.entries = es.set k { e with state := .moving }) ∧
      (waits → t.srm = { srm with startWaiting := some e.row } ∧ t.ret.entries = es)) ∧
    ((∀ i : Fin 16, srm.spares[i] ≠ .free) →
      t.srm = srm ∧ t.ret.entries = es ∧ FlagSet t .sparesExhausted))

/-! ### Addresses and access (R1, R2, R13) -/

/-- R2: a region of the table contains an address, and no other valid entry does. -/
def BelongsTo (s : State) (addr : Nat) (i : Fin 32) (r : Region) : Prop :=
  s.region i = some r ∧ (r.base ≤ addr ∧ addr < r.base + r.length * 4096) ∧
    ∀ j q, s.region j = some q → q.base ≤ addr → addr < q.base + q.length * 4096 → j = i

/-- Table 1.6: the directions in which a processor transaction is admitted. -/
def TableAllows (m : Mode) (cls : RegionClass) (write : Bool) : Prop :=
  m = .sync ∨ ((m = .run ∨ m = .repair) ∧ (cls ≠ .constant ∨ write = false)) ∨
    (m = .isolated ∧ (cls = .nonvital ∨ write = false)) ∨
    ((m = .reentry ∨ m = .verify ∨ m = .ready) ∧ cls = .nonvital)

/-- A write of two or more words has every byte mask full (check 2 of Table 1.5). -/
def MasksFull (tr : Transaction) : Prop :=
  ∀ a ws, tr = .write a ws → 2 ≤ ws.length → ∀ w ∈ ws, w.2 = 15

/-- A single-word write has its mask full or empty (check 5 of Table 1.5). -/
def MaskWhole (tr : Transaction) : Prop := ∀ a w, tr = .write a [w] → w.2 = 15 ∨ w.2 = 0

/-- In REPAIR a read of a CONSTANT region touches a block on the repair list (R14). -/
def TouchesListed (s : State) (cls : RegionClass) (tr : Transaction) : Prop :=
  s.mdc.mode = .repair ∧ cls = .constant ∧ txnWrites tr = false ∧
    ∃ k, k < txnLength tr ∧ (txnAddress tr + 4 * k) / 4096 * 4096 ∈ s.rse.repairList

/-- R15: a transaction is refused with a detail code, and nothing but the event unit and the answer changes. -/
def RefusedAs (s : State) (tr : Transaction) (d : AccessDetail) : Prop :=
  ∃ t, exec (.processorTransaction tr) s = .next t ∧ Fired s t [.accessRefused] ∧
    Counted s t [.refused] ∧ Captured s t .access .p (some (txnAddress tr)) (.access d) ∧
    t.txi = { held := none, response := some { status := .refused, data := refusedData tr } } ∧
    t = { s with txi := t.txi, evu := t.evu }

/-! ### Re-entry (R130, R141, R154) -/

/-- R141, R154: a mode announced by the target port that lets a service as source go on. -/
def StaysTarget (v : Service) (m : Option Mode) : Prop :=
  v.kind = .reentry ∧ (m = some .reentry ∨ m = some .verify ∨ m = some .ready) ∨ v.kind = .repair ∧ m = some .repair

/-- R130: a step is a refusal of the request to the one partner tried so far: the partner on port `q` is asked where it is
eligible and not tried, and the channel is isolated with NO_SOURCE otherwise. -/
def CopyRefused (s : State) (i : Instr) (v : Reentry) (q : Port) : Prop :=
  (s.eligibleSource q = true → v.tried q = false → (s.link q).tx.length < 16 → ∃ t, exec i s = .next t ∧
    t.rse = { s.rse with reentry := some { v with asked := q, time := 0, triedA := true, triedB := true } } ∧
    t.link q = { s.link q with tx := (s.link q).tx ++ [.copyRequest s.dgu.tableDigest] } ∧ t.mdc = s.mdc) ∧
  (s.eligibleSource q = false ∨ v.tried q = true ∨ 16 ≤ (s.link q).tx.length → ∃ t, exec i s = .next t ∧
    t.mdc = { mode := .isolated, chen := false, cause := .noSource } ∧ t.rse.reentry = none)

/-! ### Repair as target (R150, R151) -/

/-- R151: the head block is asked for from another partner, and the tried set then holds both. -/
def AskedNext (s t : State) (v : Repair) (q : Port) : Prop :=
  t.rse = { s.rse with
    repair := some { v with phase := .asking, asked := q, time := 0, written := [], triedA := true, triedB := true } } ∧
  t.link q = { s.link q with
    tx := (s.link q).tx ++ [.repairRequest s.dgu.tableDigest (s.rse.repairList.head?.getD 0)] }

/-- R151: no partner is left to ask: the channel is isolated with NO_SOURCE. -/
def NoSourceLeft (t : State) : Prop :=
  t.mdc = { mode := .isolated, chen := false, cause := .noSource } ∧ t.rse.repair = none ∧ t.rse.repairList = []

/-- R151: a step is a refusal by the partner on port `p` of the request for the head block: the partner on the other port is
asked where it is an expected voter not yet tried, and the channel is isolated otherwise. `tx` is what port `p` has to
send afterwards. -/
def RepairRefused (s : State) (i : Instr) (v : Repair) (p q : Port) (tx : List Frame) : Prop :=
  (s.expectedVoter q = true → v.tried q = false → (s.link q).tx.length < 16 →
    ∃ t, exec i s = .next t ∧ AskedNext s t v q ∧ (t.link p).tx = tx ∧
      t = { s with rse := t.rse, lkc := t.lkc, evu := t.evu }) ∧
  (s.expectedVoter q = false ∨ v.tried q = true → ∃ t, exec i s = .next t ∧ NoSourceLeft t)

/-- R150: the partner first asked: the expected voter with the lower identity. -/
def FirstVoter (s : State) (p : Port) : Prop :=
  s.expectedVoter p = true ∧ ∀ q, q ≠ p → s.expectedVoter q = true → s.partnerId p < s.partnerId q

/-! ### The vote (R109) -/

/-- R112, R113: the consequence of PARTNER_DISSENT: in SYNC the sync count goes up, and at SYNC_LIMIT the channel is isolated;
in RUN and REPAIR the unchecked-run count returns to 0. -/
def DissentTolerated (s t : State) : Prop :=
  (s.mdc.mode = .sync → s.vtu.syncCount + 1 < s.cmi.settings.syncLimit →
    t.mdc = s.mdc ∧ t.vtu.syncCount = s.vtu.syncCount + 1) ∧
  (s.mdc.mode = .sync → s.cmi.settings.syncLimit ≤ s.vtu.syncCount + 1 →
    t.mdc = { mode := .isolated, chen := false, cause := .syncTimeout }) ∧
  (s.mdc.mode ≠ .sync → t.mdc = s.mdc ∧ t.vtu.unchecked = 0)

/-- Table 7.4: the result of one index, where `a` and `b` say that the partners are present as voters, `la` and `lb` that the
local value equals theirs, and `ab` that theirs are equal. -/
def Table74 (a b la lb ab : Prop) (r : RegionResult) : Prop :=
  (¬ a → ¬ b → r = .unchecked) ∧ (a → ¬ b → (la → r = .agree) ∧ (¬ la → r = .split)) ∧
  (¬ a → b → (lb → r = .agree) ∧ (¬ lb → r = .split)) ∧
  (a → b → (la → lb → r = .agree) ∧ (la → ¬ lb → r = .partnerDissent .b) ∧
    (¬ la → lb → r = .partnerDissent .a) ∧ (¬ la → ¬ lb → ab → r = .localDissent) ∧
    (¬ la → ¬ lb → ¬ ab → r = .noMajority))

/-- A partner is present in a record as a voter, and its set is so (R108). -/
def VoterIs (r : VoteRecord) (m : Mode) (p : Port) (P : PartnerSet → Prop) : Prop :=
  ∃ x, r.setOf p = some x ∧ x.votes m = true ∧ P x

/-! ### Isolation (R122) -/

/-- R122: the channel has been isolated with a cause: CHEN is off, the watchdog stands, every vote record is DECIDED
and L is kept, no service, re-entry or repair is left, no block is listed and no frame is in work (also
where a write of one is still performed, log entry 71). Memory, the region
table and the settings are as they were; digests keep their values and validity (R124). What the answer of a command
does to the aperture and to TXI is said where a command isolates. -/
def Isolated (s t : State) (c : Cause) : Prop :=
  t.mdc = { mode := .isolated, chen := false, cause := c } ∧
    t.vtu.watchdog = none ∧ t.vtu.last = s.vtu.last ∧ t.vtu.unchecked = s.vtu.unchecked ∧
    t.vtu.records.map (·.cycle) = s.vtu.records.map (·.cycle) ∧
    (∀ r ∈ t.vtu.records, r.outcome ≠ none) ∧
    t.rse = { service := none, reentry := none, repair := none, repairList := [] } ∧
    (∀ p, (t.link p).work = none ∧ (t.link p).rx = (s.link p).rx ∧
      (t.link p).partner = (s.link p).partner) ∧
    (∀ i, (t.record i).valid = (s.record i).valid ∧ (t.record i).digest = (s.record i).digest) ∧
    FlagSet t .isolated ∧ FlagSet t .modeChanged ∧ t.cmi.settings = s.cmi.settings ∧
    t = { s with
      mdc := t.mdc, vtu := t.vtu, rse := t.rse, lkc := t.lkc, dgu := t.dgu, ptl := t.ptl, msq := t.msq
      ret := t.ret, srm := t.srm, evu := t.evu, cmi := t.cmi, txi := t.txi }

/-! ### Frames (section 13.4) -/

/-- The contents that the layouts of Table 13.5 can carry. -/
def Frame.sendable : Frame → Prop
  | .digest _ _ td es =>
      td < 2 ^ 61 ∧ (es.map (·.region)).Pairwise (· < ·) ∧ ∀ e ∈ es, e.region < 32 ∧ e.digest < 2 ^ 61
  | .copyRequest td => td < 2 ^ 61
  | .segment addr words => addr < 2 ^ 28 ∧ words.length = 64
  | .forward addr _ => addr < 2 ^ 28
  | .repairRequest td block => td < 2 ^ 61 ∧ block < 2 ^ 28
  | .repairEnd block => block < 2 ^ 28
  | _ => True

/-! ### A command's answer (R172, R173) -/

/-- No transaction is held and none waits: the processor's next access is taken at once (R9). -/
def BusFree (s : State) : Prop := s.txi.held = none ∧ s.txi.waiting = []

/-- Words 8 to 15 hold this status and these results, and 0 in every result word not used. -/
def Answered (t : State) (status : CommandStatus) (results : List Word) : Prop :=
  t.apertureWord 8 = word status.code ∧ ∀ k, k < 7 → t.apertureWord (9 + k) = (results[k]?).getD 0

/-- Words 0 to 7 hold the code and the parameters as written, the others as before. -/
def Written (s t : State) (code : Word) (ps : List Word) : Prop :=
  t.apertureWord 0 = code ∧
    ∀ i, 1 ≤ i → i < 8 → t.apertureWord i = (ps[i - 1]?).getD (s.apertureWord i)

/-- The command of a code was carried out in `s` with these parameters and this answer, and its write was answered
OKAY to the processor. -/
def Commanded (s t : State) (code : Word) (ps : List Word) (status : CommandStatus)
    (results : List Word) : Prop :=
  Written s t code ps ∧ Answered t status results ∧
    t.txi = { held := none, response := some { status := .okay, data := [] } }

/-- Nothing but the aperture words and the processor's answer differs between two states. -/
def OnlyAnswers (s t : State) : Prop :=
  t = { s with txi := t.txi, cmi := { s.cmi with words := t.cmi.words } }

/-- Table 12.3: the command is not accepted in a mode. A SETTINGS_WRITE follows the setting it names, by its
identifier 43h to 45h for the three timing settings of the vote. -/
def NotAccepted : Instr → Mode → Prop
  | .tableOpen, m => m ≠ .start
  | .tableWrite _ _ _ _, m => m ≠ .load
  | .tableClose, m => m ≠ .load
  | .coldStart, m => m ≠ .loaded
  | .isolate, m => m = .start ∨ m = .load ∨ m = .loaded ∨ m = .isolated
  | .cycleMark _, m => m ≠ .sync ∧ m ≠ .run ∧ m ≠ .repair
  | .reenter, m => m ≠ .loaded ∧ m ≠ .isolated
  | .joinAt _, m => m ≠ .ready
  | .settingsWrite setting _, m =>
      0x43 ≤ setting.toNat % 256 ∧ setting.toNat % 256 ≤ 0x45 ∧
        m ≠ .start ∧ m ≠ .load ∧ m ≠ .loaded ∧ m ≠ .isolated
  | _, _ => False

/-- The commands that only read. -/
def ReadsOnly : Instr → Prop
  | .status _ => True
  | .settingsRead _ => True
  | .tableRead _ => True
  | .voteRead _ _ => True
  | .digestRead _ => True
  | .rowTableRead _ => True
  | .spareRead _ => True
  | .eventsRead => True
  | .captureRead _ => True
  | .countersRead _ _ => True
  | _ => False

/-- The code and parameter words of the management commands (section 13.3). -/
def commandWords : Instr → Option (Word × List Word)
  | .status page => some (0x01, [page])
  | .settingsWrite setting value => some (0x02, [setting, value])
  | .settingsRead setting => some (0x03, [setting])
  | .restart => some (0x04, [])
  | .tableOpen => some (0x05, [])
  | .tableWrite image0 image1 image2 index => some (0x06, [image0, image1, image2, index])
  | .tableClose => some (0x07, [])
  | .tableRead index => some (0x08, [index])
  | .coldStart => some (0x09, [])
  | .isolate => some (0x0A, [])
  | .cycleMark n => some (0x0B, [n])
  | .voteRead cycle part => some (0x0C, [cycle, part])
  | .reenter => some (0x0D, [])
  | .joinAt n => some (0x0E, [n])
  | .digestRead index => some (0x0F, [index])
  | .rowTableRead position => some (0x10, [position])
  | .spareRead index => some (0x11, [index])
  | .eventsRead => some (0x12, [])
  | .eventsClear set => some (0x13, [set])
  | .captureRead cls => some (0x14, [cls])
  | .captureClear cls => some (0x15, [cls])
  | .countersRead first count => some (0x16, [first, count])
  | .countersClear => some (0x17, [])
  | _ => none

/-- The access that a command presents (R9); one whose operands the outside cannot present is none. -/
def accessOf (i : Instr) : Option Access :=
  match i with
  | .processorTransaction t => if t.wellFormed then some (.transaction t) else none
  | .apertureWordWrite k v => if k = 0 then none else some (.word k v)
  | .unknownCommand code => if namesCommand code then none else some (.command code [])
  | _ => (commandWords i).map (fun c => .command c.1 c.2)

/-- An access writes a code to word 0 of the aperture, and so gives the command of that code (R173). -/
def carries (code : Word) : Access → Prop
  | .transaction (.write a ws) => a = 0x0FFFF000 ∧ ws.head?.map (·.1) = some code
  | .transaction (.read _ _) => False
  | .word k v => k = 0 ∧ v = code
  | .command c _ => c = code

/-- A step that is no POR and in which the command of a code is not carried out: neither the step's own access nor one that
waits gives it. -/
def Without (code : Word) (i : Instr) (s : State) : Prop :=
  (∀ c m, i ≠ .por c m) ∧ (∀ a, accessOf i = some a → ¬ carries code a) ∧ ∀ a ∈ s.txi.waiting, ¬ carries code a

/-- The latest answer of a state joins the earlier ones of a step, where another state answers after it. -/
def answeredAfter (s t : State) : State :=
  if t.txi.held = none then
    { t with txi := { t.txi with earlier := s.txi.earlier ++ s.txi.response.toList } }
  else t

/-- R9: in a state in which nothing waits these commands' accesses are taken in order, each as the command itself does it,
until one is held; those behind it wait. -/
def TakenInOrder : List Instr → State → State → Prop
  | [], s, t => t = s
  | c :: cs, s, t =>
    (s.txi.held = none → ∃ u, exec c s = .next u ∧ TakenInOrder cs (answeredAfter s u) t) ∧
    (s.txi.held ≠ none → t = s.setWaiting ((c :: cs).filterMap accessOf))

/-- A word written with all four bytes. -/
def fullWord (w : Word) : Word × BitVec 4 := (w, fullMask)

end Sys2Proof.Machine
end

