-- ==== Sys2Proof/Certificates/Slice0/Obligations.lean ====
section
/-! DEFINITION. The statements for the provers, from the numbered rules of the spec: the machine and its laws, the
encodings, then the commands family by family. A frame is said as an equation t = { s with … }: what it does not
list is as it was. -/

open Sys2Proof Sys2Proof.Machine

/-! ### The machine -/

/-- The command at the front of the queue is carried out on the state with the queue's rest. That an empty queue
idles is the model's choice (log entry 3). -/
def Obligations.StepRunsFrontCommand : Prop :=
  (∀ c cs s, s.pending = c :: cs → step s = exec c (s.withPending cs)) ∧
    ∀ s, s.pending = [] → step s = .next s

/-- No command stops, and none touches the queue. The spec answers every access, bad ones included (R12, R15, R85, R174).
That a step whose occasion is absent answers with the state as it is, that an access waits while a transaction is held,
and the queue itself are the model's choices (log entries 2, 4 and 3). -/
def Obligations.EveryCommandCompletes : Prop := ∀ i s, ∃ t, exec i s = .next t ∧ t.pending = s.pending

/-- What POR leaves, block by block, whatever the part held (R3, R9, R21, R34, R35, R42, R51, R54, R66, R96, R97, R117,
R127, R149, R160, R163, R166, R170 to R172, R177). That the accesses waiting for the bus end with the transaction held is
the model's choice (log entry 4). -/
def Obligations.PorLeavesPorValues : Prop :=
  ∀ (c m : BitVec 2) (s : State), ∃ t, exec (.por c m) s = .next t ∧
    t.chanId = c ∧ t.msize = m ∧
    t.rows = (if m = 1 then 32768 else if m = 2 then 65536 else 16384) ∧
    t.txi.held = none ∧ t.txi.waiting = [] ∧ (∀ i, t.region i = none) ∧ t.rgt.closed = false ∧
    t.msq = { port := none, yieldCount := 0, scrubCredit := 0, sourceCredit := 0 } ∧
    t.ret.entries = [] ∧ t.ret.ageing = 0 ∧ (∀ i : Fin 16, t.srm.spares[i] = .free) ∧
    (∀ i, t.record i = { valid := false, digest := 0, running := false, acc := 0, pointer := 0 }) ∧
    t.dgu.tableDigest = 0 ∧ t.ptl.kind = .none ∧ t.ptl.timer = none ∧
    t.ptl.place = none ∧ t.ptl.riding = false ∧ t.ptl.suspended = none ∧ t.ptl.auditList = [] ∧
    (∀ p, (t.link p).up = false ∧ (t.link p).goodRun = 0 ∧ (t.link p).badRun = 0 ∧
      (t.link p).silence = 0 ∧ (t.link p).tx = [] ∧ (t.link p).rx = [] ∧ (t.link p).sending = none ∧
      (t.link p).work = none ∧
      (t.link p).partner =
        { mode := none, cycle := none, role := .none, absence := 0, lost := false, suspect := false }) ∧
    t.vtu = { last := none, watchdog := none, records := [], unchecked := 0, syncCount := 0 } ∧
    t.mdc = { mode := .start, chen := false, cause := .none } ∧
    t.rse = { service := none, reentry := none, repair := none, repairList := [] } ∧
    t.evu.flags = 0 ∧ (∀ k, t.evu.capture k = { fields := none, repeats := 0 }) ∧
    (∀ i : Fin 16, t.evu.counters[i] = 0) ∧
    (∀ l, (t.evu.line l).state = .quiet ∧ (t.evu.line l).pending = false ∧ t.asserted l = false) ∧
    t.evu.msTime = 0 ∧ (∀ i, i < 16 → t.apertureWord i = 0) ∧
    t.cmi.settings.scrubRate = 4 ∧ t.cmi.settings.coverLimit = 900 ∧ t.cmi.settings.sourceRate = 16 ∧
    t.cmi.settings.cycleLimit = 500 ∧ t.cmi.settings.voteDeadline = 40 ∧ t.cmi.settings.syncLimit = 20 ∧
    t.cmi.settings.agePeriod = 30 ∧ t.cmi.settings.weakLimit = 3 ∧ t.cmi.settings.noticeGap = 5 ∧
    (∀ l, t.cmi.settings.style l = .level) ∧ (∀ i : Fin 24, t.cmi.settings.route[i] = .a) ∧
    ∀ k : CaptureClass, t.cmi.settings.captureMode[k.index] = .first

/-- Every law of the part holds after a POR of any straps and at State.reset. -/
def Obligations.LawsHoldAfterPor : Prop :=
  (∀ (c m : BitVec 2) (s t : State), exec (.por c m) s = .next t → Safe t) ∧ Safe State.reset

/-! ### The laws of the part, kept by every step -/

/-- R118: CHEN is asserted if and only if the mode is RUN; R3: the table-closed flag follows the mode. R7: while the table
is closed its valid regions are disjoint and lie below the spare area, and no entry changes but by RESTART and POR. -/
def Obligations.StepKeepsChenAndClosedFlag : Prop :=
  (∀ s t, ChenLaw s → step s = .next t → ChenLaw t) ∧ (∀ s t, ClosedLaw s → step s = .next t → ClosedLaw t) ∧
    (∀ s t, ClosedLaw s → TableLaw s → step s = .next t → TableLaw t) ∧
    ∀ c s t, ClosedLaw s → s.rgt.closed = true → Without 0x04 c s → exec c s = .next t → t.rgt = s.rgt

/-- The bounds of R34, R90, R93, R163 and R166, the ranges of the settings (R177, R178), and that an access waits only
while TXI holds a transaction (R9). A counter goes down only at COUNTERS_CLEAR and POR (R166). The bound of 8 on the yield count while a counted processor read is in flight rests
on how the model counts at the grant (log entry 10), and the canonical form of the listed memory is the model's own (log
entry 8). -/
def Obligations.StepKeepsBounds : Prop :=
  (∀ s t, CountersLaw s → step s = .next t → CountersLaw t) ∧
    (∀ s t, LinkQueuesLaw s → step s = .next t → LinkQueuesLaw t) ∧
    (∀ s t, MemoryLaw s → step s = .next t → MemoryLaw t) ∧
    (∀ s t, YieldLaw s → step s = .next t → YieldLaw t) ∧
    (∀ s t, SettingsLaw s → step s = .next t → SettingsLaw t) ∧
    (∀ s t, BusLaw s → step s = .next t → BusLaw t) ∧
    ∀ c s t, Without 0x17 c s → exec c s = .next t → ∀ i : Fin 16, s.evu.counters[i] ≤ t.evu.counters[i]

/-- R37: at most 64 row entries, for distinct rows; R44: at most one spare is MOVING, and no row is replaced by two spares
that are ACTIVE or MOVING, so that no logical row has two ACTIVE spares. That the entries of the rows replaced stand as
RowMapLaw says is what carries R44 through a step. -/
def Obligations.StepKeepsRowTableAndOneMove : Prop :=
  (∀ s t, RowTableLaw s → step s = .next t → RowTableLaw t) ∧
    (∀ s t, MoveLaw s → step s = .next t → MoveLaw t) ∧
    ∀ s t, RowMapLaw s → step s = .next t → RowMapLaw t

/-- R55, R56: digests lie below M; R54, R58: an INVALID record has D 0. -/
def Obligations.StepKeepsDigestsInRange : Prop := ∀ s t, DigestLaw s → step s = .next t → DigestLaw t

/-- R132: a source serves only in RUN; R139: the service queue holds at most 28 FORWARD, 2 SEGMENT and 2 MARK entries and
at most one COPY_END or REPAIR_END entry, 33 in all; R137: at most 64 blocks wait to be resent. -/
def Obligations.StepKeepsSourceInRun : Prop :=
  (∀ s t, SourceLaw s → step s = .next t → SourceLaw t) ∧
    ∀ s t, ServiceQueueLaw s → step s = .next t → ServiceQueueLaw t

/-- R149: the repair list is non-empty only in REPAIR, holds at most 8 blocks, all distinct, each inside a CONSTANT
region; and a repair audit runs only while it is empty (R81, R158). What carries the third part through a step is that
the table is as R7 says, and that the outcome of a group is judged by the table of its grant; that a group in flight at
RESTART reaches no block afterwards is read from R36 (log entry 66). -/
def Obligations.StepKeepsRepairList : Prop :=
  (∀ s t, RepairLaw s → step s = .next t → RepairLaw t) ∧ ∀ s t, ListedLaw s → step s = .next t → ListedLaw t

/-- R103: at most 4 records with distinct cycles, at most 3 OPEN, those for L, L + 1 and L + 2. -/
def Obligations.StepKeepsVoteTable : Prop := ∀ s t, VoteLaw s → step s = .next t → VoteLaw t

/-! ### Encodings -/

/-- Every frame that the layouts of Table 13.5 can carry is read back whole from its wire form, with its sender, and
its CRC is good. -/
def Obligations.FrameReadsBackFromWire : Prop :=
  ∀ (f : Frame) (sender : Nat), f.sendable → sender < 4 →
    crcGood (f.wire sender) = true ∧ senderOf (f.wire sender).header = sender ∧
      parseFrame (f.wire sender).header (f.wire sender).payload = some f ∧
      (f.wire sender).wellFormed = true

/-- Every region entry whose base and length fit Table 13.3 is read back from its image, and so is the empty entry;
bits outside the fields do not matter (R181). -/
def Obligations.EntryReadsBackFromImage : Prop :=
  (∀ r : Region, r.base < 2 ^ 28 → r.length < 2 ^ 16 →
    parseEntry (imageWord0 (some r)) (imageWord1 (some r)) (imageWord2 (some r)) = .region r) ∧
  parseEntry (imageWord0 none) (imageWord1 none) (imageWord2 none) = .empty ∧
  ∀ w0 w1 w2 : Word,
    parseEntry w0 w1 w2 = parseEntry (w0 &&& 0x131#32) (w1 &&& 0x0FFFFFFF#32) (w2 &&& 0xFFFF#32)

/-- A management command is the processor's write of its code to word 0 (R173): with its parameters already in words
1 to 7, writing the code to 0FFFF000h does exactly what the command's own row does. A write of another word of the
aperture is the step of its row too (R172). A write burst is taken word by word in ascending order (R11): it does what
the write of its first word and then the burst of the rest does, a command in it included. -/
def Obligations.CommandIsWriteOfWordZero : Prop :=
  (∀ i s code ps, commandWords i = some (code, ps) → BusFree s →
    (∀ k, k < ps.length → s.apertureWord (k + 1) = (ps[k]?).getD 0) →
    exec (.processorTransaction (.write 0x0FFFF000 [fullWord code])) s = exec i s) ∧
  (∀ code s, BusFree s → namesCommand code = false →
    exec (.processorTransaction (.write 0x0FFFF000 [fullWord code])) s = exec (.unknownCommand code) s) ∧
  (∀ (k : Fin 16) v s, BusFree s → k ≠ 0 →
    exec (.processorTransaction (.write (0x0FFFF000 + 4 * BitVec.ofNat 28 k.val) [fullWord v])) s =
      exec (.apertureWordWrite k v) s) ∧
  ∀ (k : Nat) v (vs : List Word) s, BusFree s → 1 ≤ vs.length → vs.length ≤ 7 → k + 1 + vs.length ≤ 16 →
    ∃ u, BusFree u ∧
      exec (.processorTransaction (.write (0x0FFFF000 + 4 * BitVec.ofNat 28 k) [fullWord v])) s = .next u ∧
      exec (.processorTransaction (.write (0x0FFFF000 + 4 * BitVec.ofNat 28 k) (fullWord v :: vs.map fullWord))) s =
        exec (.processorTransaction (.write (0x0FFFF000 + 4 * BitVec.ofNat 28 (k + 1)) (vs.map fullWord))) u

/-! ### Clocks -/

/-- The ms tick (R171) advances every timer counted in ms below the top of its range: the ms time, the ageing time
(R40), the coverage timer (R75), the watchdog (R102), the deadlines (R106), the silence times (R87) and the request
and answer times (R130, R151); and it calls for an IDLE frame on a free port on which none has begun (R90). The sweep is
due when the ageing time then stands at AGE_PERIOD × 1000 or above, never while AGE_PERIOD is 0 (R40, R41), and the
coverage expiry when the timer runs and stands at COVER_LIMIT × 1000 or above (R75, R76). What a timer does at the top
of its range, and that the expiry follows as a step of its own, are the model's choice (log entries 13, 14 and 17). -/
def Obligations.MsTickAdvancesTimers : Prop :=
  ∀ s, ∃ t, exec .msTick s = .next t ∧
    t.evu = { s.evu with msTime := s.evu.msTime + 1 } ∧
    (s.cmi.settings.agePeriod = 0 → t.ret.ageing = 0 ∧ t.ret.sweepDue = false) ∧
    (s.cmi.settings.agePeriod ≠ 0 → (t.ret.sweepDue = true ↔ s.cmi.settings.agePeriod * 1000 ≤ t.ret.ageing)) ∧
    (s.cmi.settings.agePeriod ≠ 0 → s.ret.ageing < 255000 → t.ret.ageing = s.ret.ageing + 1) ∧
    (s.ptl.timer = none → t.ptl.timer = none ∧ t.ptl.lateDue = s.ptl.lateDue) ∧
    (∀ n, s.ptl.timer = some n → ∃ k, t.ptl.timer = some k ∧
      (t.ptl.lateDue = true ↔ s.cmi.settings.coverLimit * 1000 ≤ k)) ∧
    (∀ n, s.ptl.timer = some n → n < 3600000 → t.ptl.timer = some (n + 1)) ∧
    (s.vtu.watchdog = none → t.vtu.watchdog = none) ∧
    (∀ n, s.vtu.watchdog = some n → n < 5000 → t.vtu.watchdog = some (n + 1)) ∧
    (∀ (k : Nat) r, s.vtu.records[k]? = some r →
      t.vtu.records[k]? = some { r with deadline := r.deadline.map (· - 1) }) ∧
    t.vtu.records.length = s.vtu.records.length ∧
    (∀ p, (s.link p).silence < 5 → (t.link p).silence = (s.link p).silence + 1) ∧
    (∀ p, (t.link p).idleDue = true ↔
      s.chanId ≠ 3 ∧ (s.link p).sending = none ∧ (s.link p).tx = [] ∧ (s.link p).begun = false) ∧
    (∀ p, t.link p = { s.link p with
      silence := (t.link p).silence, idleDue := (t.link p).idleDue, begun := false }) ∧
    (∀ v, s.rse.reentry = some v → v.phase = .asking → v.time < 10 →
      t.rse.reentry = some { v with time := v.time + 1 }) ∧
    (∀ v, s.rse.reentry = some v → v.phase = .receiving → t.rse.reentry = some v) ∧
    (∀ v, s.rse.repair = some v → v.phase ≠ .auditing → v.time < 10 →
      t.rse.repair = some { v with time := v.time + 1 }) ∧
    (∀ v, s.rse.repair = some v → v.phase = .auditing → t.rse.repair = some v) ∧
    t = { s with
      evu := t.evu, ret := { s.ret with ageing := t.ret.ageing, sweepDue := t.ret.sweepDue }
      ptl := { s.ptl with timer := t.ptl.timer, lateDue := t.ptl.lateDue }
      vtu := { s.vtu with watchdog := t.vtu.watchdog, records := t.vtu.records }, lkc := t.lkc
      rse := { s.rse with reentry := t.rse.reentry, repair := t.rse.repair } }

/-- At each pacing tick the scrub credit becomes SCRUB_RATE and the source credit SOURCE_RATE, whatever each held
(R35). That the pulse and the gap of a notice line are timed in pacing ticks is the model's choice (log entry 18). -/
def Obligations.PacingTickSetsCredits : Prop :=
  ∀ s, ∃ t, exec .pacingTick s = .next t ∧
    t.msq = { s.msq with
      scrubCredit := s.cmi.settings.scrubRate, sourceCredit := s.cmi.settings.sourceRate } ∧
    (∀ l, (t.evu.line l).state = (s.evu.line l).state ∧ (t.evu.line l).pending = (s.evu.line l).pending ∧
      ((s.evu.line l).state = .quiet → t.evu.line l = s.evu.line l) ∧
      ((s.evu.line l).state ≠ .quiet → (s.evu.line l).ticks < 25500 →
        (t.evu.line l).ticks = (s.evu.line l).ticks + 1)) ∧
    t = { s with msq := t.msq, evu := { s.evu with na := t.evu.na, nb := t.evu.nb } }

/-! ### Processor transactions (sections 1.4 and 1.5) -/

/-- The nine checks of Table 1.5 in order: the first that fails refuses the transaction with its detail code, as R15
lays down. That an entry of a table still open contains its addresses above the usable limit too is the model's choice (log
entry 67), and so is that a later word that two entries contain counts as of the first word's (log entry 56). -/
def Obligations.ChecksRefuseInOrder : Prop :=
  ∀ s tr, tr.wellFormed = true → BusFree s →
    (txnAddress tr % 4 ≠ 0 → RefusedAs s tr .misaligned) ∧
    (txnAddress tr % 4 = 0 → ¬ MasksFull tr → RefusedAs s tr .partialBurstMask) ∧
    (txnAddress tr % 4 = 0 → MasksFull tr →
      (0x0FFFF040 ≤ txnAddress tr → RefusedAs s tr .apertureUnused) ∧
      (0x0FFFF000 ≤ txnAddress tr → txnAddress tr < 0x0FFFF040 →
        (0x0FFFF040 < txnAddress tr + 4 * txnLength tr → RefusedAs s tr .apertureCrossing) ∧
        (txnAddress tr + 4 * txnLength tr ≤ 0x0FFFF040 → ¬ MaskWhole tr →
          RefusedAs s tr .aperturePartial)) ∧
      (txnAddress tr < 0x0FFFF000 →
        ((∀ i r, s.region i = some r →
          ¬ (r.base ≤ txnAddress tr ∧ txnAddress tr < r.base + r.length * 4096)) →
          RefusedAs s tr .noRegion) ∧
        ∀ i r, BelongsTo s (txnAddress tr) i r →
          (r.base + r.length * 4096 < txnAddress tr + 4 * txnLength tr → r.base % 4 = 0 →
            RefusedAs s tr .regionCrossing) ∧
          (txnAddress tr + 4 * txnLength tr ≤ r.base + r.length * 4096 →
            (¬ TableAllows s.mdc.mode r.cls (txnWrites tr) → RefusedAs s tr .modeClass) ∧
            (TableAllows s.mdc.mode r.cls (txnWrites tr) → TouchesListed s r.cls tr →
              RefusedAs s tr .repairBlock))))

/-- A memory transaction that passes every check is admitted (R12 to R14): TXI holds it with the region and class it
was admitted to (R16, R17); a single-word write with an empty mask is answered OKAY at once. While TXI holds a transaction a further
access waits, and when the transaction has been answered at the end of its last group TXI takes those that wait (R9).
That they wait in order and are taken within the step that answers is the model's choice (log entry 4). -/
def Obligations.PassingTransactionIsHeld : Prop :=
  (∀ s tr i r, tr.wellFormed = true → BusFree s → txnAddress tr % 4 = 0 → MasksFull tr →
    txnAddress tr < 0x0FFFF000 → BelongsTo s (txnAddress tr) i r →
    txnAddress tr + 4 * txnLength tr ≤ r.base + r.length * 4096 →
    TableAllows s.mdc.mode r.cls (txnWrites tr) → ¬ TouchesListed s r.cls tr →
    ∃ t, exec (.processorTransaction tr) s = .next t ∧ t = { s with txi := t.txi } ∧ t.txi.waiting = [] ∧
      (∀ a n, tr = .read a n → t.txi.held =
        some { region := i, cls := r.cls, next := a.toNat, reads := n, writes := [], status := .okay, data := [] }) ∧
      (∀ a ws, tr = .write a ws → (∀ w, ws ≠ [(w, 0)]) → t.txi.held =
        some { region := i, cls := r.cls, next := a.toNat, reads := 0, writes := ws, status := .okay, data := [] }) ∧
      ∀ a w, tr = .write a [(w, 0)] →
        t.txi = { held := none, response := some { status := .okay, data := [] } }) ∧
  (∀ s h i a, s.txi.held = some h → accessOf i = some a →
    exec i s = .next { s with txi := { s.txi with waiting := s.txi.waiting ++ [a] } }) ∧
  ∀ s g i m cs, s.msq.port = some g → cs.map accessOf = s.txi.waiting.map some →
    ((i = Instr.processorReadEnd m ∧ ∃ a, g.op = .pRead a) ∨
      (i = Instr.processorWriteEnd m ∧ ∃ a v, g.op = .pWrite a v) ∨
      (i = Instr.partialWriteEnd m ∧ ∃ a v k, g.op = .pPartial a v k)) →
    ∃ u t, exec i { s with txi := { s.txi with waiting := [] } } = .next u ∧ exec i s = .next t ∧
      TakenInOrder cs u t

/-- A read of the aperture returns the words as they stand (R11, R172), whatever the mode. A single-word write with
an empty mask gives no word to CMI, and an ordinary word write stores words 1 to 7 and leaves words 8 to 15 alone
(R172); CommandIsWriteOfWordZero says what a burst of them does. A code that names no command is stored and answers UNKNOWN (R174). -/
def Obligations.ApertureWordsReadAndStore : Prop :=
  (∀ (s : State) (k n : Nat), BusFree s → 1 ≤ n → n ≤ 8 → k + n ≤ 16 →
    ∃ t, exec (.processorTransaction (.read (0x0FFFF000 + 4 * BitVec.ofNat 28 k) n)) s = .next t ∧
      t = { s with txi := t.txi } ∧ t.txi.held = none ∧
      ∃ d, t.txi.response = some { status := .okay, data := d } ∧ d.length = n ∧
        ∀ j, j < n → d[j]? = some (s.apertureWord (k + j))) ∧
  (∀ (s : State) (k : Nat) (w : Word), BusFree s → k < 16 →
    exec (.processorTransaction (.write (0x0FFFF000 + 4 * BitVec.ofNat 28 k) [(w, 0)])) s =
      .next { s with txi := { held := none, response := some { status := .okay, data := [] } } }) ∧
  (∀ (s : State) (i : Fin 16) (v : Word), BusFree s → i ≠ 0 →
    ∃ t, exec (.apertureWordWrite i v) s = .next t ∧ OnlyAnswers s t ∧
      (∀ j, j < 16 → t.apertureWord j = if j = i.val ∧ j < 8 then v else s.apertureWord j) ∧
      t.txi = { held := none, response := some { status := .okay, data := [] } }) ∧
  ∀ (s : State) (code : Word), BusFree s → (code = 0 ∨ 23 < code.toNat) →
    ∃ t, exec (.unknownCommand code) s = .next t ∧ Commanded s t code [] .unknown [] ∧ OnlyAnswers s t

/-! ### Management commands: judging and reading (sections 12.2 and 12.3, Table 13.4) -/

/-- Step 2 of R174: in a mode in which it is not accepted (Table 12.3) a command answers NOT_NOW with the mode in
force and changes nothing; of a CYCLE_MARK in ISOLATED that holds where the free value by which R62's DIGEST frames are left
open sends none (log entry 57), and CycleMarkOpensRecord says what it does otherwise. -/
def Obligations.CommandNotAcceptedAnswersNotNow : Prop :=
  ∀ i s code ps, commandWords i = some (code, ps) → BusFree s → NotAccepted i s.mdc.mode →
    ∃ t, exec i s = .next t ∧ Commanded s t code ps .notNow [word s.mdc.mode.code] ∧
      ((∀ n, i = .cycleMark n → s.mdc.mode = .isolated → Config.isolatedDigest s.vtu.last n = false) →
        OnlyAnswers s t)

/-- The ten reading commands are accepted in every mode and change nothing but the answer, whatever their
parameters (R8, R43, R52, R65, R115, R161, R165, R167, R175, R179). -/
def Obligations.ReadingCommandsChangeNothing : Prop :=
  ∀ i s code ps, commandWords i = some (code, ps) → ReadsOnly i → BusFree s →
    ∃ t, exec i s = .next t ∧ OnlyAnswers s t ∧ Written s t code ps ∧
      (t.apertureWord 8 = 1 ∨ t.apertureWord 8 = 4) ∧
      t.txi = { held := none, response := some { status := .okay, data := [] } }

/-- STATUS page 0 (R175, Table 13.4) gives the channel's fields at their bits; a page above 4 answers BAD_PARAM. -/
def Obligations.StatusGivesChannel : Prop :=
  (∀ s, BusFree s → ∃ t rs, exec (.status 0) s = .next t ∧ Commanded s t 1 [0] .done rs ∧ OnlyAnswers s t ∧
    bits (t.apertureWord 9) 0 4 = s.mdc.mode.code ∧ bits (t.apertureWord 9) 4 4 = 0 ∧
    bits (t.apertureWord 9) 8 5 = s.mdc.cause.code ∧ bit (t.apertureWord 9) 16 = s.mdc.chen ∧
    bit (t.apertureWord 9) 17 = s.vtu.last.isSome ∧ bit (t.apertureWord 9) 18 = s.ptl.riding ∧
    bit (t.apertureWord 9) 19 = s.ptl.timer.isSome ∧ bits (t.apertureWord 9) 24 3 = s.ptl.kind.code ∧
    t.apertureWord 10 = s.evu.msTime ∧ t.apertureWord 11 = s.vtu.last.getD 0 ∧
    t.apertureWord 12 = word ((s.ptl.place.map (·.region.val)).getD 0) ∧
    t.apertureWord 13 = word ((s.ptl.place.map (·.word)).getD 0) ∧
    t.apertureWord 14 = word (s.ptl.timer.getD 0)) ∧
  ∀ s page, BusFree s → 4 < page.toNat →
    ∃ t, exec (.status page) s = .next t ∧ Commanded s t 1 [page] .badParam [1] ∧ OnlyAnswers s t

/-- STATUS pages 1 and 2 (R175, R176, Table 13.4): the partner entry of port A and of port B, the expected-voter
flag as it is derived at this moment (R95), and the frames that wait. -/
def Obligations.StatusGivesPartners : Prop :=
  ∀ s (p : Port), BusFree s →
    ∃ t rs, exec (.status (if p = .a then 1 else 2)) s = .next t ∧
      Commanded s t 1 [if p = .a then 1 else 2] .done rs ∧ OnlyAnswers s t ∧
      bits (t.apertureWord 9) 0 4 = s.mdc.mode.code ∧ bit (t.apertureWord 9) 8 = (s.link p).up ∧
      bit (t.apertureWord 9) 9 = (s.link p).partner.lost ∧
      bit (t.apertureWord 9) 10 = (s.link p).partner.suspect ∧
      (bit (t.apertureWord 9) 11 = true ↔ (s.link p).up = true ∧ (s.link p).partner.lost = false ∧
        ((s.link p).partner.mode = some .run ∨
          s.mdc.mode = .sync ∧ (s.link p).partner.mode = some .sync)) ∧
      bit (t.apertureWord 9) 12 = (s.link p).partner.cycle.isSome ∧
      bits (t.apertureWord 9) 16 4 = ((s.link p).partner.mode.map Mode.code).getD 15 ∧
      bits (t.apertureWord 9) 20 3 = (s.link p).partner.role.code ∧
      ((s.link p).partner.absence < 4 → bits (t.apertureWord 9) 24 2 = (s.link p).partner.absence) ∧
      t.apertureWord 10 = s.evu.msTime ∧ t.apertureWord 11 = (s.link p).partner.cycle.getD 0 ∧
      ((s.link p).tx.length ≤ 16 → bits (t.apertureWord 12) 0 5 = (s.link p).tx.length) ∧
      ((s.link p).rx.length ≤ 8 → bits (t.apertureWord 12) 8 4 = (s.link p).rx.length)

/-- STATUS pages 3 and 4 (R175, Table 13.4): the service as source and as target. The numbers of the phases and
which bit of a tried set is port A's are the model's choice (log entry 62), and so is that a repair in AUDITING goes on
showing the asked port and the tried set it had (log entry 65). -/
def Obligations.StatusGivesServices : Prop :=
  (∀ s, BusFree s → ∃ t rs, exec (.status 3) s = .next t ∧ Commanded s t 1 [3] .done rs ∧ OnlyAnswers s t ∧
    bits (t.apertureWord 9) 0 4 = s.mdc.mode.code ∧ t.apertureWord 10 = s.evu.msTime ∧
    bits (t.apertureWord 9) 8 3 = s.role.code ∧ bit (t.apertureWord 9) 11 = s.rse.service.isSome ∧
    ∀ v, s.rse.service = some v →
      bit (t.apertureWord 9) 12 = decide (v.kind = .repair) ∧
      bit (t.apertureWord 9) 13 = decide (v.port = .b) ∧
      t.apertureWord 11 = word (v.map.countP (fun e => e.2 == .sent)) ∧
      t.apertureWord 12 = word v.map.length ∧ t.apertureWord 13 = word v.resend.length ∧
      (v.forwards ≤ 28 → v.segments ≤ 2 → v.marks ≤ 2 →
        bits (t.apertureWord 14) 0 5 = v.forwards ∧ bits (t.apertureWord 14) 8 2 = v.segments ∧
          bits (t.apertureWord 14) 16 2 = v.marks)) ∧
  ∀ s, BusFree s → s.rse.repairList.length ≤ 8 →
    ∃ t rs, exec (.status 4) s = .next t ∧ Commanded s t 1 [4] .done rs ∧ OnlyAnswers s t ∧
      bits (t.apertureWord 9) 0 4 = s.mdc.mode.code ∧ t.apertureWord 10 = s.evu.msTime ∧
      bit (t.apertureWord 9) 8 = s.rse.reentry.isSome ∧ bit (t.apertureWord 9) 17 = s.rse.repair.isSome ∧
      (∀ v, s.rse.reentry = some v →
        bit (t.apertureWord 9) 9 = decide (v.phase = .receiving) ∧
        bit (t.apertureWord 9) 10 = decide (v.asked = .b) ∧ bit (t.apertureWord 9) 11 = v.triedA ∧
        bit (t.apertureWord 9) 12 = v.triedB ∧ bit (t.apertureWord 9) 13 = v.copyEnd ∧
        bit (t.apertureWord 9) 14 = v.auditsDone ∧ bit (t.apertureWord 9) 15 = v.source.isSome ∧
        bit (t.apertureWord 9) 16 = v.join.isSome ∧ t.apertureWord 11 = v.source.getD 0 ∧
        t.apertureWord 12 = v.join.getD 0) ∧
      (∀ v, s.rse.repair = some v →
        bits (t.apertureWord 9) 18 2 = v.phase.code ∧ bit (t.apertureWord 9) 20 = decide (v.asked = .b) ∧
        bit (t.apertureWord 9) 21 = v.triedA ∧ bit (t.apertureWord 9) 22 = v.triedB) ∧
      bit (t.apertureWord 9) 23 = decide (s.rse.repairList ≠ []) ∧
      bits (t.apertureWord 9) 24 4 = s.rse.repairList.length ∧
      t.apertureWord 13 = word (s.rse.repairList.head?.getD 0)

/-- SETTINGS_READ and SETTINGS_WRITE of one setting named at its identifier, with its range (R177 to R179,
Table 12.5): a read gives the value in force and whether it is writable now; a write stores the value clamped to the
range, and answers DONE_CLAMPED where that changed it; that it does so also where the limit is the value already held is the
model's choice (log entry 68). -/
def Obligations.SettingsReadAndClamp : Prop :=
  (∀ s w st, BusFree s → settingOf w = some st →
    ∃ t, exec (.settingsRead w) s = .next t ∧ OnlyAnswers s t ∧
      Commanded s t 3 [w] .done
        [w, word (s.cmi.settings.value st), if st.writable s.mdc.mode then 1 else 0]) ∧
  (∀ s w v, BusFree s → settingOf w = none →
    (∃ t, exec (.settingsRead w) s = .next t ∧ Commanded s t 3 [w] .badParam [1] ∧ OnlyAnswers s t) ∧
    ∃ t, exec (.settingsWrite w v) s = .next t ∧ Commanded s t 2 [w, v] .badParam [1] ∧ OnlyAnswers s t) ∧
  (∀ s w v st, BusFree s → SettingsLaw s → settingOf w = some st → st.writable s.mdc.mode = true →
    ∃ t rs st', exec (.settingsWrite w v) s = .next t ∧ Commanded s t 2 [w, v] st' (w :: rs) ∧
      t.cmi.settings.value st = max st.lower (min (st.upper s.cmi.settings) v.toNat) ∧
      rs.head? = some (word (t.cmi.settings.value st)) ∧
      (st ≠ .cycleLimit → (st' = .doneClamped ↔ v.toNat < st.lower ∨ st.upper s.cmi.settings < v.toNat) ∧
        (st' = .done ∨ st' = .doneClamped) ∧ rs.length = 1 ∧
        ∀ x, x ≠ st → t.cmi.settings.value x = s.cmi.settings.value x) ∧
      t = { s with
        txi := t.txi, cmi := t.cmi, evu := t.evu, ret := t.ret, srm := t.srm } ∧
      ((∀ k, st ≠ .route k) → (∀ l, st ≠ .style l) → st ≠ .noticeGap → st ≠ .weakLimit →
        t = { s with txi := t.txi, cmi := t.cmi })) ∧
  ∀ n, n < 256 → ∀ k : CaptureClass,
    settingOf (word (0x4B + 256 * n)) = (if h : n < 24 then some (.route ⟨n, h⟩) else none) ∧
    settingOf (word (0x4C + 256 * k.index.val)) = some (.captureMode k) ∧
    settingOf 0x40 = some .scrubRate ∧ settingOf 0x41 = some .coverLimit ∧
    settingOf 0x42 = some .sourceRate ∧ settingOf 0x43 = some .cycleLimit ∧
    settingOf 0x44 = some .voteDeadline ∧ settingOf 0x45 = some .syncLimit ∧
    settingOf 0x46 = some .agePeriod ∧ settingOf 0x47 = some .weakLimit ∧
    settingOf 0x48 = some .noticeGap ∧ settingOf 0x49 = some (.style .na) ∧
    settingOf 0x4A = some (.style .nb) ∧ settingOf 0x4D = none ∧ settingOf 0x3F = none

/-- A write of CYCLE_LIMIT re-clamps VOTE_DEADLINE, answers DONE_CLAMPED when either value was clamped, and gives both
values as they then stand (R178); that it does so also where the limit is the value already held is the model's choice (log
entry 68). -/
def Obligations.CycleLimitReclampsDeadline : Prop :=
  ∀ s w (v : Word), BusFree s → settingOf w = some .cycleLimit →
    (s.mdc.mode = .start ∨ s.mdc.mode = .load ∨ s.mdc.mode = .loaded ∨ s.mdc.mode = .isolated) →
    ∃ t st, exec (.settingsWrite w v) s = .next t ∧
      t.cmi.settings.cycleLimit = max 10 (min 5000 v.toNat) ∧
      t.cmi.settings.voteDeadline = min s.cmi.settings.voteDeadline (t.cmi.settings.cycleLimit / 2) ∧
      t.cmi.settings = { s.cmi.settings with
        cycleLimit := t.cmi.settings.cycleLimit, voteDeadline := t.cmi.settings.voteDeadline } ∧
      Commanded s t 2 [w, v] st [w, word t.cmi.settings.cycleLimit, word t.cmi.settings.voteDeadline] ∧
      (st = .doneClamped ↔ v.toNat < 10 ∨ 5000 < v.toNat ∨
        t.cmi.settings.cycleLimit / 2 < s.cmi.settings.voteDeadline) ∧
      (st = .done ∨ st = .doneClamped) ∧ t = { s with txi := t.txi, cmi := t.cmi }

/-- A new WEAK_LIMIT turns every TRACKING entry at or above it WEAK at once and fires ROW_WEAK (R41). A new style
discards a line's pulse, gap and pending mark (R170). A ROUTE write that leaves no set flag routed to a PULSING line
ends its pulse (R169, R170). An entry that turns WEAK is an occasion to choose a move (R45, R46); that none
is chosen while a chosen one waits to start (log entry 24), and that one ended by RESTART does not count as in flight (log
entry 25), is the model's reading. A new NOTICE_GAP ends at once a gap that has already lasted as long, and leaves a shorter
one running (R170); that the gap's time is counted in pacing ticks is the model's choice (log entry 18). -/
def Obligations.SettingsActAtOnce : Prop :=
  (∀ s (v : Word), BusFree s → RowTableLaw s → 2 ≤ v.toNat → v.toNat ≤ 15 →
    v.toNat ≠ s.cmi.settings.weakLimit →
    (∃ e ∈ s.ret.entries, e.state = .tracking ∧ v.toNat ≤ e.count) →
    ∃ t, exec (.settingsWrite 0x47 v) s = .next t ∧ t.cmi.settings.weakLimit = v.toNat ∧
      FlagSet t .rowWeak ∧ t.ret.entries.length = s.ret.entries.length ∧
      ∀ (k : Nat) e, s.ret.entries[k]? = some e → ∃ e', t.ret.entries[k]? = some e' ∧
        e' = { e with state := e'.state } ∧
        (e.state = .tracking → v.toNat ≤ e.count → e'.state = .weak ∨ e'.state = .moving) ∧
        (e.state = .tracking → e.count < v.toNat → e'.state = .tracking) ∧
        (e.state ≠ .tracking → e.state ≠ .weak → e'.state = e.state)) ∧
  (∀ s (v : Word), BusFree s → RowTableLaw s → 2 ≤ v.toNat → v.toNat ≤ 15 → v.toNat ≠ s.cmi.settings.weakLimit →
    (∃ e ∈ s.ret.entries, e.state = .tracking ∧ v.toNat ≤ e.count) →
    ∃ t, exec (.settingsWrite 0x47 v) s = .next t ∧ MoveChosen s.srm
      (s.ret.entries.map (fun e => if e.state = .tracking ∧ v.toNat ≤ e.count then { e with state := .weak } else e))
      (MovePermitted s s.mdc.mode) (s.msq.port ≠ none) t) ∧
  (∀ s l (v : Word), BusFree s → v.toNat ≤ 1 → v.toNat ≠ (s.cmi.settings.style l).code →
    ∃ t, exec (.settingsWrite (if l = .na then 0x49 else 0x4A) v) s = .next t ∧
      (t.cmi.settings.style l).code = v.toNat ∧ (t.evu.line l).state = .quiet ∧
      (t.evu.line l).pending = false ∧ t.evu.flags = s.evu.flags) ∧
  (∀ s (v : Word), BusFree s → v.toNat ≤ 255 → v.toNat ≠ s.cmi.settings.noticeGap →
    ∃ t, exec (.settingsWrite 0x48 v) s = .next t ∧ t.cmi.settings.noticeGap = v.toNat ∧
      t.evu.flags = s.evu.flags ∧
      (∀ l, s.cmi.settings.style l = .pulse → (s.evu.line l).state = .holding →
        v.toNat * 100 ≤ (s.evu.line l).ticks → GapEnded s t l) ∧
      ∀ l, s.cmi.settings.style l = .level ∨ (s.evu.line l).state ≠ .holding ∨
        (s.evu.line l).ticks < v.toNat * 100 → t.evu.line l = s.evu.line l) ∧
  ∀ s (i : Fin 24) (v : Word) l, BusFree s → v.toNat ≤ 3 → s.cmi.settings.style l = .pulse →
    (s.evu.line l).state = .pulsing → v.toNat ≠ (s.cmi.settings.route[i]).code →
    ∃ t, exec (.settingsWrite (word (0x4B + 256 * i.val)) v) s = .next t ∧
      (t.cmi.settings.route[i]).code = v.toNat ∧ t.evu.flags = s.evu.flags ∧
      ((∀ j, j < 24 → s.evu.flags.getLsbD j = true → t.cmi.settings.routed j l = false) →
        t.evu.line l = (if s.cmi.settings.noticeGap = 0 then { state := .quiet, pending := false, ticks := 0 }
          else { s.evu.line l with state := .holding, ticks := 0 })) ∧
      ((∃ j, j < 24 ∧ s.evu.flags.getLsbD j = true ∧ t.cmi.settings.routed j l = true) →
        t.evu.line l = s.evu.line l)

/-! ### Management commands: the region table (sections 1.2 and 1.3) -/

/-- TABLE_WRITE in LOAD (R5): an index of 0 to 31 and an image whose class names a class replace the entry; an image
with valid clear stores the empty entry, its class not examined; anything else answers BAD_PARAM and leaves the
table. That BAD_PARAM names word 1, the class, where the index in word 4 is above 31 too is the model's choice (log entry
73). -/
def Obligations.TableWriteStoresEntry : Prop :=
  ∀ s (w0 w1 w2 w3 : Word), BusFree s → s.mdc.mode = .load →
    (w3.toNat < 32 → w0.toNat % 2 = 0 →
      ∃ t, exec (.tableWrite w0 w1 w2 w3) s = .next t ∧ Commanded s t 6 [w0, w1, w2, w3] .done [] ∧
        (∀ i, t.region i = if i.val = w3.toNat then none else s.region i) ∧
        t = { s with
          txi := t.txi, cmi := { s.cmi with words := t.cmi.words }, rgt := { s.rgt with table := t.rgt.table } }) ∧
    (∀ cls : RegionClass, w3.toNat < 32 → w0.toNat % 2 = 1 → w0.toNat / 16 % 4 = cls.code →
      ∃ t, exec (.tableWrite w0 w1 w2 w3) s = .next t ∧ Commanded s t 6 [w0, w1, w2, w3] .done [] ∧
        (∀ i, t.region i =
          if i.val = w3.toNat then
            some { cls, scrub := decide (w0.toNat / 256 % 2 = 1), base := w1.toNat % 2 ^ 28,
                   length := w2.toNat % 2 ^ 16 }
          else s.region i) ∧
        t = { s with
          txi := t.txi, cmi := { s.cmi with words := t.cmi.words }, rgt := { s.rgt with table := t.rgt.table } }) ∧
    (w0.toNat % 2 = 1 → w0.toNat / 16 % 4 = 3 →
      ∃ t, exec (.tableWrite w0 w1 w2 w3) s = .next t ∧ Commanded s t 6 [w0, w1, w2, w3] .badParam [1] ∧
        OnlyAnswers s t) ∧
    (32 ≤ w3.toNat → (w0.toNat % 2 = 1 → w0.toNat / 16 % 4 ≠ 3) →
      ∃ t, exec (.tableWrite w0 w1 w2 w3) s = .next t ∧ Commanded s t 6 [w0, w1, w2, w3] .badParam [4] ∧
        OnlyAnswers s t)

/-- TABLE_READ (R8), in every mode: the three words of the entry's image and the table-closed flag; an empty entry
reads as zero words; an index above 31 answers BAD_PARAM; nothing changes. -/
def Obligations.TableReadGivesImage : Prop :=
  (∀ s (i : Fin 32), BusFree s →
    ∃ t w0 w1 w2, exec (.tableRead (word i.val)) s = .next t ∧
      Commanded s t 8 [word i.val] .done [w0, w1, w2, if s.rgt.closed then 1 else 0] ∧ OnlyAnswers s t ∧
      w0 = imageWord0 (s.region i) ∧ w1 = imageWord1 (s.region i) ∧ w2 = imageWord2 (s.region i) ∧
      (s.region i = none → w0 = 0 ∧ w1 = 0 ∧ w2 = 0) ∧
      ∀ r, s.region i = some r → r.base < 2 ^ 28 → r.length < 2 ^ 16 →
        bit w0 0 = true ∧ bits w0 4 2 = r.cls.code ∧ bit w0 8 = r.scrub ∧ w1.toNat = r.base ∧
          w2.toNat = r.length) ∧
  ∀ s i, BusFree s → 31 < i.toNat →
    ∃ t, exec (.tableRead i) s = .next t ∧ Commanded s t 8 [i] .badParam [1] ∧ OnlyAnswers s t

/-- TABLE_CLOSE in LOAD. The first entry that fails a condition of Table 1.2 is answered with its index, the first
reason it fails by, and for OVERLAP the lowest earlier entry it shares an address with; a table with no VITAL entry is
answered 32 and NO_VITAL (R6). A table that passes is closed (R7): the digest of its 96-word image is formed, every
digest record is INVALID, and the mode is LOADED. -/
def Obligations.TableCloseValidatesAndCloses : Prop :=
  (∀ s i r, BusFree s → s.mdc.mode = .load → s.region i = some r →
    (∀ j q, j < i → s.region j = some q → EntryPasses s j q) →
    (r.base % 4096 ≠ 0 → ∃ t, exec .tableClose s = .next t ∧
      Commanded s t 7 [] .badTable [word i.val, 1, 0] ∧ OnlyAnswers s t) ∧
    (r.base % 4096 = 0 → r.length = 0 → ∃ t, exec .tableClose s = .next t ∧
      Commanded s t 7 [] .badTable [word i.val, 2, 0] ∧ OnlyAnswers s t) ∧
    (r.base % 4096 = 0 → 1 ≤ r.length → (s.rows - 16) * 1024 < r.base + r.length * 4096 →
      ∃ t, exec .tableClose s = .next t ∧ Commanded s t 7 [] .badTable [word i.val, 3, 0] ∧
        OnlyAnswers s t) ∧
    (r.base % 4096 = 0 → 1 ≤ r.length → r.base + r.length * 4096 ≤ (s.rows - 16) * 1024 →
      ∀ j q, j < i → s.region j = some q → r.base < q.base + q.length * 4096 →
        q.base < r.base + r.length * 4096 →
        (∀ k p, k < j → s.region k = some p →
          p.base + p.length * 4096 ≤ r.base ∨ r.base + r.length * 4096 ≤ p.base) →
        ∃ t, exec .tableClose s = .next t ∧ Commanded s t 7 [] .badTable [word i.val, 4, word j.val] ∧
          OnlyAnswers s t)) ∧
  (∀ s, BusFree s → s.mdc.mode = .load → (∀ i r, s.region i = some r → EntryPasses s i r) →
    (∀ i r, s.region i = some r → r.cls ≠ .vital) →
    ∃ t, exec .tableClose s = .next t ∧ Commanded s t 7 [] .badTable [32, 5, 0] ∧ OnlyAnswers s t) ∧
  ∀ s v r, BusFree s → s.mdc.mode = .load → (∀ i r, s.region i = some r → EntryPasses s i r) →
    s.region v = some r → r.cls = .vital →
    ∃ t, exec .tableClose s = .next t ∧
      Commanded s t 7 [] .done [word (allRegions.countP (fun i => (s.region i).isSome)),
        word (allRegions.countP (fun i => (s.region i).any (fun q => q.cls != .nonvital)))] ∧
      t.rgt = { s.rgt with closed := true } ∧ t.mdc = { s.mdc with mode := .loaded, chen := false } ∧
      (∀ i, t.record i = { valid := false, digest := 0, running := false, acc := 0, pointer := 0 }) ∧
      t.dgu.tableDigest =
        ((List.range 96).map (fun k => ((s.rgt.image[k]?).getD 0).toNat * (k + 1))).sum % (2 ^ 61 - 1) ∧
      s.rgt.image.length = 96 ∧ Fired s t [.modeChanged] ∧ Counted s t [] ∧ CapturesKept s t ∧
      t = { s with
        txi := t.txi, cmi := { s.cmi with words := t.cmi.words }, rgt := t.rgt, mdc := t.mdc, dgu := t.dgu
        evu := t.evu }

/-! ### Management commands: digests, rows, spares, votes -/

/-- DIGEST_READ (R65), in every mode: for an index of 0 to 31 whether the entry is a digest region, its number of
words, validity, audit state, D, A and p; for index 32 the table digest; above that BAD_PARAM; nothing changes. -/
def Obligations.DigestReadGivesRecord : Prop :=
  (∀ s (i : Fin 32), BusFree s → ∃ t rs, exec (.digestRead (word i.val)) s = .next t ∧
    Commanded s t 0x0F [word i.val] .done rs ∧ OnlyAnswers s t ∧
    (bit (t.apertureWord 9) 0 = true ↔ ∃ r, s.region i = some r ∧ r.cls ≠ .nonvital) ∧
    bit (t.apertureWord 9) 1 = (s.record i).valid ∧ bit (t.apertureWord 9) 2 = (s.record i).running ∧
    bits (t.apertureWord 9) 3 29 = 0 ∧
    (∀ r, s.region i = some r → r.cls ≠ .nonvital → t.apertureWord 10 = word (r.length * 1024)) ∧
    ((∀ r, s.region i = some r → r.cls = .nonvital) → t.apertureWord 10 = 0) ∧
    ((s.record i).digest < 2 ^ 61 →
      joinWords (t.apertureWord 11) (t.apertureWord 12) = (s.record i).digest) ∧
    ((s.record i).acc < 2 ^ 61 → joinWords (t.apertureWord 13) (t.apertureWord 14) = (s.record i).acc) ∧
    t.apertureWord 15 = word (s.record i).pointer) ∧
  (∀ s, BusFree s → ∃ t rs, exec (.digestRead 32) s = .next t ∧ Commanded s t 0x0F [32] .done rs ∧
    OnlyAnswers s t ∧ rs.length = 2 ∧
    (s.dgu.tableDigest < 2 ^ 61 →
      joinWords (t.apertureWord 9) (t.apertureWord 10) = s.dgu.tableDigest)) ∧
  ∀ s i, BusFree s → 32 < i.toNat →
    ∃ t, exec (.digestRead i) s = .next t ∧ Commanded s t 0x0F [i] .badParam [1] ∧ OnlyAnswers s t

/-- ROW_TABLE_READ (R43) and SPARE_READ (R52), in every mode: the entry at a position with all its fields, the number
held and the ageing time; the spare with its fields present, and the numbers FREE and RETIRED. -/
def Obligations.RowAndSpareReadsGiveEntries : Prop :=
  (∀ s (p : Word), BusFree s → p.toNat ≤ 63 → ∃ t rs, exec (.rowTableRead p) s = .next t ∧
    Commanded s t 0x10 [p] .done rs ∧ OnlyAnswers s t ∧
    t.apertureWord 10 = word s.ret.entries.length ∧ t.apertureWord 11 = word s.ret.ageing ∧
    (s.ret.entries.length ≤ p.toNat → t.apertureWord 9 = 0 ∧ rs.length = 3) ∧
    ∀ e, s.ret.entries[p.toNat]? = some e →
      bit (t.apertureWord 9) 0 = true ∧ bits (t.apertureWord 9) 4 3 = e.state.code ∧
      bit (t.apertureWord 9) 7 = e.touched ∧ (e.count < 16 → bits (t.apertureWord 9) 8 4 = e.count) ∧
      (e.last < 256 → bits (t.apertureWord 9) 16 8 = e.last) ∧ t.apertureWord 12 = word e.row ∧
      t.apertureWord 13 = e.firstSeen) ∧
  (∀ s p, BusFree s → 63 < p.toNat →
    ∃ t, exec (.rowTableRead p) s = .next t ∧ Commanded s t 0x10 [p] .badParam [1] ∧ OnlyAnswers s t) ∧
  (∀ s (i : Fin 16), BusFree s → ∃ t rs, exec (.spareRead (word i.val)) s = .next t ∧
    Commanded s t 0x11 [word i.val] .done rs ∧ OnlyAnswers s t ∧
    bits (t.apertureWord 9) 8 5 = s.srm.spares.toList.countP (fun x => x == .free) ∧
    bits (t.apertureWord 9) 16 5 =
      s.srm.spares.toList.countP (fun x => match x with | .retired _ => true | _ => false) ∧
    (s.srm.spares[i] = .free → bits (t.apertureWord 9) 0 5 = 0 ∧ t.apertureWord 10 = 0 ∧
      t.apertureWord 11 = 0 ∧ t.apertureWord 12 = 0) ∧
    (∀ row p, s.srm.spares[i] = .moving row p → bits (t.apertureWord 9) 0 5 = 0x0D ∧
      t.apertureWord 10 = word row ∧ t.apertureWord 11 = word p ∧ t.apertureWord 12 = 0) ∧
    (∀ row a, s.srm.spares[i] = .active row a → bits (t.apertureWord 9) 0 5 = 0x16 ∧
      t.apertureWord 10 = word row ∧ t.apertureWord 11 = 0 ∧ t.apertureWord 12 = a) ∧
    ∀ a, s.srm.spares[i] = .retired a → bits (t.apertureWord 9) 0 5 = 0x13 ∧
      t.apertureWord 10 = 0 ∧ t.apertureWord 11 = 0 ∧ t.apertureWord 12 = a) ∧
  ∀ s i, BusFree s → 15 < i.toNat →
    ∃ t, exec (.spareRead i) s = .next t ∧ Commanded s t 0x11 [i] .badParam [1] ∧ OnlyAnswers s t

/-- VOTE_READ (R115, section 13.3), in every mode: part 0 the unit's state and the record's, part 1 the results, part
2 the partners' table digests. The expected set and the deadline are given while the record is OPEN; that the bits of
the expected set read 0 for a DECIDED record is read from R115 (log entry 48); that the mode bits read 15 for a sender
whose mode is UNKNOWN is the model's choice (log entry 61), and so is which four bits of a word of part 1 hold which result
(log entry 72). -/
def Obligations.VoteReadGivesRecord : Prop :=
  (∀ s (n : Word), BusFree s → ∃ t rs, exec (.voteRead n 0) s = .next t ∧
    Commanded s t 0x0C [n, 0] .done rs ∧ OnlyAnswers s t ∧
    bit (t.apertureWord 9) 0 = s.vtu.last.isSome ∧ bit (t.apertureWord 9) 1 = s.vtu.watchdog.isSome ∧
    (s.vtu.unchecked < 4 → bits (t.apertureWord 9) 2 2 = s.vtu.unchecked) ∧
    (s.vtu.records.length < 8 → bits (t.apertureWord 9) 4 3 = s.vtu.records.length) ∧
    (s.vtu.syncCount < 128 → bits (t.apertureWord 9) 24 7 = s.vtu.syncCount) ∧
    t.apertureWord 10 = s.vtu.last.getD 0 ∧ t.apertureWord 11 = word (s.vtu.watchdog.getD 0) ∧
    ((∀ r ∈ s.vtu.records, r.cycle ≠ n) → bits (t.apertureWord 9) 7 12 = 0 ∧ t.apertureWord 12 = 0 ∧
      t.apertureWord 13 = 0) ∧
    ∀ r, s.recordFor n = some r →
      bit (t.apertureWord 9) 7 = true ∧ bit (t.apertureWord 9) 8 = r.outcome.isSome ∧
      bit (t.apertureWord 9) 9 = r.snapshot.isSome ∧ bit (t.apertureWord 9) 10 = r.setA.isSome ∧
      bit (t.apertureWord 9) 11 = r.setB.isSome ∧
      bit (t.apertureWord 9) 12 = (r.outcome.isNone && r.expectA) ∧
      bit (t.apertureWord 9) 13 = (r.outcome.isNone && r.expectB) ∧
      bits (t.apertureWord 9) 16 3 = (r.outcome.map VoteOutcome.code).getD 0 ∧
      t.apertureWord 12 = word (r.deadline.getD 0) ∧
      (∀ x, r.setA = some x → bits (t.apertureWord 13) 0 4 = (x.mode.map Mode.code).getD 15) ∧
      (∀ x, r.setB = some x → bits (t.apertureWord 13) 8 4 = (x.mode.map Mode.code).getD 15)) ∧
  (∀ s (n : Word), BusFree s → ∃ t rs, exec (.voteRead n 1) s = .next t ∧
    Commanded s t 0x0C [n, 1] .done rs ∧ OnlyAnswers s t ∧
    ∀ r, s.recordFor n = some r → ∀ i, i ≤ 32 →
      bits (t.apertureWord (9 + i / 8)) (4 * (i % 8)) 4 =
        ((r.results.find? (fun e => e.1 == i)).map (·.2.code)).getD 0) ∧
  (∀ s (n : Word), BusFree s → ∃ t rs, exec (.voteRead n 2) s = .next t ∧
    Commanded s t 0x0C [n, 2] .done rs ∧ OnlyAnswers s t ∧
    ∀ r, s.recordFor n = some r →
      (∀ x, r.setA = some x → x.tableDigest < 2 ^ 61 →
        joinWords (t.apertureWord 9) (t.apertureWord 10) = x.tableDigest) ∧
      ∀ x, r.setB = some x → x.tableDigest < 2 ^ 61 →
        joinWords (t.apertureWord 11) (t.apertureWord 12) = x.tableDigest) ∧
  ∀ s n part, BusFree s → 2 < part.toNat →
    ∃ t, exec (.voteRead n part) s = .next t ∧ Commanded s t 0x0C [n, part] .badParam [2] ∧ OnlyAnswers s t

/-! ### Management commands: events, captures, counters -/

/-- EVENTS_READ gives the 24 flags, whether NA and NB are asserted (R161, R168, R169) and the ms time. EVENTS_CLEAR
(R162) clears each flag of the set and leaves the others; it answers with the flags after the clear; a PULSING line to
which no set flag is then routed ends its pulse (R169), and a line on which one is left is not touched. That the gap is
counted in pacing ticks from 0 (log entry 18), and that with NOTICE_GAP 0 the pulse's end is the gap's end (log entry 45), is
the model's choice. -/
def Obligations.EventsReadAndClear : Prop :=
  (∀ s, BusFree s → ∃ t rs, exec .eventsRead s = .next t ∧ Commanded s t 0x12 [] .done rs ∧ OnlyAnswers s t ∧
    (∀ i, i < 32 → (t.apertureWord 9).getLsbD i = s.evu.flags.getLsbD i) ∧
    ((t.apertureWord 10).getLsbD 0 = true ↔ LineAsserted s .na) ∧
    ((t.apertureWord 10).getLsbD 1 = true ↔ LineAsserted s .nb) ∧ bits (t.apertureWord 10) 2 30 = 0 ∧
    t.apertureWord 11 = s.evu.msTime) ∧
  ∀ s set, BusFree s → ∃ t rs, exec (.eventsClear set) s = .next t ∧
    Commanded s t 0x13 [set] .done rs ∧
    (∀ i, i < 24 → t.evu.flags.getLsbD i = (s.evu.flags.getLsbD i && !set.getLsbD i)) ∧
    (∀ i, i < 32 → (t.apertureWord 9).getLsbD i = t.evu.flags.getLsbD i) ∧
    t.apertureWord 10 = 0 ∧
    (∀ l, (∃ i, i < 24 ∧ t.evu.flags.getLsbD i = true ∧ s.cmi.settings.routed i l = true) ∨
      (s.evu.line l).state ≠ .pulsing → t.evu.line l = s.evu.line l) ∧
    (∀ l, (s.evu.line l).state = .pulsing → s.cmi.settings.style l = .pulse →
      (∀ i, i < 24 → t.evu.flags.getLsbD i = true → s.cmi.settings.routed i l = false) →
      t.evu.line l = (if s.cmi.settings.noticeGap = 0 then { state := .quiet, pending := false, ticks := 0 }
        else { s.evu.line l with state := .holding, ticks := 0 })) ∧
    t = { s with
      txi := t.txi, cmi := { s.cmi with words := t.cmi.words }
      evu := { s.evu with flags := t.evu.flags, na := t.evu.na, nb := t.evu.nb } }

/-- CAPTURE_READ and CAPTURE_CLEAR (R165, Table 13.4), in every mode: a read gives the record with its fields marked
present or absent; a clear empties it; a class that names none answers BAD_PARAM for either. -/
def Obligations.CapturesReadAndClear : Prop :=
  (∀ s (k : CaptureClass), BusFree s → ∃ t rs,
    exec (.captureRead (word k.index.val)) s = .next t ∧
    Commanded s t 0x14 [word k.index.val] .done rs ∧ OnlyAnswers s t ∧
    ((s.evu.capture k).repeats < 256 → bits (t.apertureWord 9) 24 8 = (s.evu.capture k).repeats) ∧
    ((s.evu.capture k).fields = none → bits (t.apertureWord 9) 0 24 = 0 ∧ t.apertureWord 10 = 0 ∧
      t.apertureWord 11 = 0 ∧ t.apertureWord 12 = 0) ∧
    ∀ f, (s.evu.capture k).fields = some f →
      bit (t.apertureWord 9) 0 = true ∧ bit (t.apertureWord 9) 1 = f.cycle.isSome ∧
      bit (t.apertureWord 9) 2 = f.address.isSome ∧ bits (t.apertureWord 9) 4 3 = f.requester.code ∧
      bits (t.apertureWord 9) 8 8 = f.detail.code ∧
      (f.detail.extra < 64 → bits (t.apertureWord 9) 16 6 = f.detail.extra) ∧
      t.apertureWord 10 = f.cycle.getD 0 ∧ t.apertureWord 11 = f.time ∧
      t.apertureWord 12 = word (f.address.getD 0)) ∧
  (∀ s (k : CaptureClass), BusFree s → ∃ t, exec (.captureClear (word k.index.val)) s = .next t ∧
    Commanded s t 0x15 [word k.index.val] .done [] ∧
    (∀ x, t.evu.capture x = if x = k then { fields := none, repeats := 0 } else s.evu.capture x) ∧
    t = { s with
      txi := t.txi, cmi := { s.cmi with words := t.cmi.words }
      evu := { s.evu with
        memory := t.evu.memory, access := t.evu.access, vote := t.evu.vote, link := t.evu.link } }) ∧
  ∀ s c, BusFree s → 3 < c.toNat →
    (∃ t, exec (.captureRead c) s = .next t ∧ Commanded s t 0x14 [c] .badParam [1] ∧ OnlyAnswers s t) ∧
    ∃ t, exec (.captureClear c) s = .next t ∧ Commanded s t 0x15 [c] .badParam [1] ∧ OnlyAnswers s t

/-- COUNTERS_READ and COUNTERS_CLEAR (R167), in every mode: a read gives count counters from first onwards, each in
one result word; any other first or count answers BAD_PARAM; a clear sets all 16 to 0. That a sum above 16 of a first
and a count each in range names the count, word 2, is the model's choice (log entry 29). -/
def Obligations.CountersReadAndClear : Prop :=
  (∀ s (first count : Word), BusFree s → 1 ≤ count.toNat → count.toNat ≤ 7 →
    first.toNat + count.toNat ≤ 16 → ∃ t rs, exec (.countersRead first count) s = .next t ∧
      Commanded s t 0x16 [first, count] .done rs ∧ OnlyAnswers s t ∧ rs.length = count.toNat ∧
      ∀ k, k < count.toNat →
        t.apertureWord (9 + k) = word ((s.evu.counters[first.toNat + k]?).getD 0)) ∧
  (∀ s (first count : Word), BusFree s →
    (15 < first.toNat ∨ count.toNat = 0 ∨ 7 < count.toNat ∨ 16 < first.toNat + count.toNat) →
    ∃ t i, exec (.countersRead first count) s = .next t ∧
      Commanded s t 0x16 [first, count] .badParam [word i] ∧ OnlyAnswers s t ∧
      (15 < first.toNat → i = 1) ∧ (first.toNat ≤ 15 → i = 2)) ∧
  ∀ s, BusFree s → ∃ t, exec .countersClear s = .next t ∧ Commanded s t 0x17 [] .done [] ∧
    (∀ i : Fin 16, t.evu.counters[i] = 0) ∧
    t = { s with
      txi := t.txi, cmi := { s.cmi with words := t.cmi.words }
      evu := { s.evu with counters := t.evu.counters } }

/-! ### Management commands: modes and services -/

/-- RESTART (R180, Table 12.6) is accepted in every mode and answers DONE: the mode is START with CHEN off and the
isolation cause kept; the table, the digests, the patrol, the vote and the restoration engine take their START
values; a MOVING row entry is WEAK again and its spare FREE, unless the move's copy is in flight, whose end frees it
(R51, log entry 25); the partners' absence counts and flags are cleared (R96); frame writes in work are given up, which
ends the frame's work also where one is still performed (log entry 71), and everything else of the links stays, but for the ABANDON frames offered with reason SERVICE_ENDED: on the target port of
a source service, and on the asked port of a re-entry or repair as target (R127), a repair in AUDITING included (log
entry 52), and none for a repair that has asked nobody yet (log entry 51). A group in flight ends as granted, and no
block acts on its reports any more (R36, log entry 66); a move chosen whose start waits for it is dropped (log entry
24). -/
def Obligations.RestartReturnsToStart : Prop :=
  ∀ s, BusFree s → ∃ t, exec .restart s = .next t ∧ Commanded s t 4 [] .done [] ∧
    t.mdc = { s.mdc with mode := .start, chen := false } ∧ (∀ i, t.region i = none) ∧ t.rgt.closed = false ∧
    (∀ i, t.record i = { valid := false, digest := 0, running := false, acc := 0, pointer := 0 }) ∧
    t.dgu.tableDigest = 0 ∧ t.ptl.kind = .none ∧ t.ptl.place = none ∧ t.ptl.timer = none ∧
    t.ptl.riding = false ∧ t.ptl.suspended = none ∧
    t.vtu = { last := none, watchdog := none, records := [], unchecked := 0, syncCount := 0 } ∧
    t.rse = { service := none, reentry := none, repair := none, repairList := [] } ∧
    t.ret = { s.ret with
      entries := s.ret.entries.map (fun e => if e.state = .moving then { e with state := .weak } else e) } ∧
    (∀ i : Fin 16, s.srm.spares[i].isMoving = false → t.srm.spares[i] = s.srm.spares[i]) ∧
    ((∀ g a, s.msq.port = some g → g.op ≠ .moveCopy a) → MoveLaw s →
      ∀ i : Fin 16, t.srm.spares[i].isMoving = false ∧
        (s.srm.spares[i].isMoving = true → t.srm.spares[i] = .free)) ∧
    (∀ p, (t.link p).work = none ∧
      t.link p = { s.link p with
        work := none, tx := (t.link p).tx
        partner := { (s.link p).partner with absence := 0, lost := false, suspect := false } }) ∧
    (s.rse.service = none → s.rse.reentry = none → s.rse.repair = none → ∀ p, (t.link p).tx = (s.link p).tx) ∧
    (∀ v, s.rse.service = some v → s.rse.reentry = none → s.rse.repair = none →
      (t.link v.port).tx = queued (s.link v.port) (.abandon serviceEndedReason)) ∧
    (∀ v, s.rse.reentry = some v → s.rse.service = none → s.rse.repair = none →
      (t.link v.asked).tx = queued (s.link v.asked) (.abandon serviceEndedReason)) ∧
    (∀ v, s.rse.repair = some v → s.rse.service = none → s.rse.reentry = none →
      (v.triedA = true ∨ v.triedB = true →
        (t.link v.asked).tx = queued (s.link v.asked) (.abandon serviceEndedReason)) ∧
      (v.triedA = false → v.triedB = false → (t.link v.asked).tx = (s.link v.asked).tx) ∧
      ∀ q, q ≠ v.asked → (t.link q).tx = (s.link q).tx) ∧
    (∀ ev, FlagSet t ev ↔ FlagSet s ev ∨ ev = .modeChanged ∨ (ev = .serviceEnded ∧
      (s.rse.service ≠ none ∨ s.rse.reentry ≠ none ∨ s.rse.repair ≠ none))) ∧
    (∀ c : Counter, c ≠ .txDrop → t.evu.counters[c.index] = s.evu.counters[c.index]) ∧
    CapturesKept s t ∧ TimeKept s t ∧ t.srm.startWaiting = none ∧
    t.msq = { s.msq with
      port := s.msq.port.map (fun g => { g with live := false, place := none, audit := false }) } ∧
    t = { s with
      txi := t.txi, rgt := t.rgt, msq := t.msq, ret := t.ret, srm := t.srm
      dgu := t.dgu, ptl := t.ptl, lkc := t.lkc, vtu := t.vtu, mdc := t.mdc, rse := t.rse, evu := t.evu
      cmi := { s.cmi with words := t.cmi.words } }

/-- TABLE_OPEN in START (R4) empties the table and leads to LOAD, or answers BAD_PARAM where the CHAN_ID straps read
3. COLD_START in LOADED (R119) leads to CLEARING, and the CLEAR pass stands at the first valid region, word 0. -/
def Obligations.TableOpenAndColdStart : Prop :=
  (∀ s, BusFree s → s.mdc.mode = .start → s.chanId ≠ 3 → ∃ t, exec .tableOpen s = .next t ∧
    Commanded s t 5 [] .done [] ∧ (∀ i, t.region i = none) ∧ t.rgt.closed = false ∧
    t.mdc = { s.mdc with mode := .load, chen := false } ∧ Fired s t [.modeChanged] ∧ Counted s t [] ∧
    CapturesKept s t ∧ TimeKept s t ∧
    t = { s with
      txi := t.txi, cmi := { s.cmi with words := t.cmi.words }, rgt := t.rgt, mdc := t.mdc, evu := t.evu }) ∧
  (∀ s, BusFree s → s.mdc.mode = .start → s.chanId = 3 → ∃ t, exec .tableOpen s = .next t ∧
    Commanded s t 5 [] .badParam [0] ∧ OnlyAnswers s t) ∧
  ∀ s, BusFree s → s.mdc.mode = .loaded → ∃ t, exec .coldStart s = .next t ∧ Commanded s t 9 [] .done [] ∧
    t.mdc = { s.mdc with mode := .clearing, chen := false } ∧ t.ptl.kind = .clear ∧
    (∀ i r, s.region i = some r → (∀ j, j < i → s.region j = none) →
      t.ptl.place = some { region := i, word := 0 }) ∧
    Fired s t [.modeChanged] ∧ Counted s t [] ∧ CapturesKept s t ∧ TimeKept s t ∧
    t = { s with
      txi := t.txi, cmi := { s.cmi with words := t.cmi.words }, mdc := t.mdc, ptl := t.ptl, evu := t.evu }

/-- ISOLATE (R123) isolates with cause COMMANDED from each of the seven modes and answers with the mode left. A
service as source, a re-entry as target, and a repair as target that is asking or receiving end with ABANDON carrying the
cause (R122); a repair in AUDITING ends without one (R157), and so does one that has asked nobody yet (log entry 51).
Where the mode left was CLEARING, REENTRY or VERIFY a SCRUB pass starts at word 0 of the first region of the scrub set,
and an audit in progress of VERIFY is stopped (R68, Table 5.3). Where it was SYNC, RUN, REPAIR or READY the SCRUB pass
goes on; a repair audit in progress is stopped and the suspended pass goes on from where it stood, with its audit decided
afresh at word 0 (R81, R82). The change into ISOLATED is an occasion to choose a row move (R45, R46); that none is
chosen while a chosen one waits to start (log entry 24), and that one ended by RESTART does not count as in flight (log
entry 25), is the model's reading. That a frame whose writes are given up is no longer in work, also where one is still
performed, is the model's choice (log entry 71). -/
def Obligations.IsolateIsolatesChannel : Prop :=
  ∀ s, BusFree s → (s.mdc.mode ≠ .start ∧ s.mdc.mode ≠ .load ∧ s.mdc.mode ≠ .loaded ∧ s.mdc.mode ≠ .isolated) →
    ∃ t, exec .isolate s = .next t ∧ Commanded s t 0x0A [] .done [word s.mdc.mode.code] ∧
      Isolated s t .commanded ∧
      (RowTableLaw s →
        MoveChosen s.srm s.ret.entries (MovePermitted s .isolated) (s.msq.port ≠ none) t) ∧
      (s.rse.service = none → s.rse.reentry = none → s.rse.repair = none → ∀ p, t.link p =
        { s.link p with work := none }) ∧
      (∀ v, s.rse.service = some v → s.rse.reentry = none → s.rse.repair = none →
        (t.link v.port).tx = queued (s.link v.port) (.abandon 1) ∧ FlagSet t .serviceEnded) ∧
      (∀ v, s.rse.reentry = some v → s.rse.service = none → s.rse.repair = none →
        (t.link v.asked).tx = queued (s.link v.asked) (.abandon 1) ∧ FlagSet t .serviceEnded) ∧
      (∀ v, s.rse.repair = some v → s.rse.service = none → s.rse.reentry = none → FlagSet t .serviceEnded ∧
        (v.phase ≠ .auditing → v.triedA = true ∨ v.triedB = true →
          (t.link v.asked).tx = queued (s.link v.asked) (.abandon 1)) ∧
        (v.phase = .auditing ∨ v.triedA = false ∧ v.triedB = false → ∀ p, (t.link p).tx = (s.link p).tx)) ∧
      (s.mdc.mode = .clearing ∨ s.mdc.mode = .reentry ∨ s.mdc.mode = .verify →
        t.ptl.kind = .scrub ∧ t.ptl.timer = some 0 ∧ t.ptl.suspended = none ∧ t.ptl.auditList = [] ∧
        ∀ i, s.scrubSet.head? = some i → t.ptl.place = some { region := i, word := 0 } ∧
          t.ptl.riding = (s.isDigestRegion i && (s.record i).valid) ∧
          (t.ptl.riding = true → t.record i = { s.record i with running := true, acc := 0, pointer := 0 }) ∧
          (∀ a, s.mdc.mode = .verify → s.ptl.kind = .verifyAudit → s.ptl.place = some a →
            a.region ≠ i ∨ t.ptl.riding = false →
            t.record a.region = { s.record a.region with running := false })) ∧
      (s.mdc.mode = .sync ∨ s.mdc.mode = .run ∨ s.mdc.mode = .repair ∨ s.mdc.mode = .ready →
        s.ptl.kind = .scrub →
        t.ptl.kind = .scrub ∧ t.ptl.place = s.ptl.place ∧ t.ptl.riding = s.ptl.riding ∧
          t.ptl.timer = s.ptl.timer ∧ ∀ i, t.record i = s.record i) ∧
      ∀ pl ride, s.mdc.mode = .repair → s.ptl.kind = .repairAudit → s.ptl.suspended = some (some pl, ride) →
        t.ptl.kind = .scrub ∧ t.ptl.place = some pl ∧ t.ptl.timer = s.ptl.timer ∧ t.ptl.suspended = none ∧
        t.ptl.auditList = [] ∧ (pl.word ≠ 0 → t.ptl.riding = ride) ∧
        (pl.word = 0 → t.ptl.riding = (s.isDigestRegion pl.region && (s.record pl.region).valid) ∧
          (t.ptl.riding = true →
            t.record pl.region = { s.record pl.region with running := true, acc := 0, pointer := 0 })) ∧
        ∀ a, s.ptl.place = some a → (pl.word ≠ 0 ∨ a.region ≠ pl.region ∨ t.ptl.riding = false) →
          t.record a.region = { s.record a.region with running := false }

/-- The expiries that isolate the channel: the watchdog at CYCLE_LIMIT in SYNC, RUN or REPAIR (R102), the second
UNCHECKED outcome in a row in RUN or REPAIR (R112), and the sync count at SYNC_LIMIT in SYNC (R113); and PARTNER_LOST,
which sets the lost flag of a partner whose absence count is 2 (R107). A decision makes the last three itself; that
their rows do the same where they are due, and that a step that is not due leaves the state as it is, are the model's
choices (log entries 2 and 15); so is that a frame given up by the isolation is no longer in work (log entry 71). -/
def Obligations.ExpiriesActWhenDue : Prop :=
  (∀ s n, s.vtu.watchdog = some n → s.cmi.settings.cycleLimit ≤ n →
    (s.mdc.mode = .sync ∨ s.mdc.mode = .run ∨ s.mdc.mode = .repair) →
    ∃ t, exec .cycleWatchdogExpiry s = .next t ∧ Isolated s t .cycleLate ∧ FlagSet t .cycleLate ∧
      t.txi = s.txi ∧ t.cmi = s.cmi) ∧
  (∀ s, 2 ≤ s.vtu.unchecked → (s.mdc.mode = .run ∨ s.mdc.mode = .repair) →
    ∃ t, exec .uncheckedRunLimit s = .next t ∧ Isolated s t .noVoter ∧ t.txi = s.txi ∧ t.cmi = s.cmi) ∧
  (∀ s, s.cmi.settings.syncLimit ≤ s.vtu.syncCount → s.mdc.mode = .sync →
    ∃ t, exec .syncTimeout s = .next t ∧ Isolated s t .syncTimeout ∧ t.txi = s.txi ∧ t.cmi = s.cmi) ∧
  (∀ s, (∀ n, s.vtu.watchdog = some n → n < s.cmi.settings.cycleLimit) → exec .cycleWatchdogExpiry s = .next s) ∧
  (∀ s, s.vtu.unchecked < 2 → exec .uncheckedRunLimit s = .next s) ∧
  (∀ s, s.vtu.syncCount < s.cmi.settings.syncLimit → exec .syncTimeout s = .next s) ∧
  (∀ s p, (s.link p).partner.absence = 2 → (s.link p).partner.lost = false →
    ∃ t, exec (.partnerLost p) s = .next t ∧
      t.link p = { s.link p with partner := { (s.link p).partner with lost := true } } ∧
      (∀ q, q ≠ p → t.link q = s.link q) ∧ t.expectedVoter p = false ∧ Fired s t [.partnerLost] ∧
      Counted s t [] ∧ CapturesKept s t ∧ t = { s with lkc := t.lkc, evu := t.evu }) ∧
  ∀ s p, (s.link p).partner.absence ≠ 2 ∨ (s.link p).partner.lost = true →
    exec (.partnerLost p) s = .next s

/-- CYCLE_MARK(n) in SYNC, RUN or REPAIR (R98 to R100). Out of sequence it answers SEQUENCE with L and changes
nothing. Accepted, it answers DONE: L is n and the watchdog restarts; the record for n holds the snapshot of this
moment, the expected set and the deadline; the DIGEST frame goes to the tail of the queue of each UP port that is not
a service port; with no expected voter the record is decided at once. Where no other record is to be decided, that is
all that happens. On an UP service port the DIGEST frame joins the service queue as a MARK while fewer than 2 are queued,
for a re-entry service once every block is SENT (R138, R153), and is counted MARKS_SKIPPED otherwise. That the expected set
is that of R95 at the mark, also of a partner whose DIGEST of the cycle announced SYNC, is the model's choice (log entry
69). In ISOLATED the mark answers NOT_NOW and leaves L, the watchdog and the vote table (R98, R124). Whether the part then
goes on sending its digests (R62) or sends no DIGEST frame (R98, R124), where the rules contradict each other, is a free
value; if it does, that the frame is the DIGEST frame of the n refused is the model's choice (log entry 57). -/
def Obligations.CycleMarkOpensRecord : Prop :=
  (∀ s n l, BusFree s → (s.mdc.mode = .sync ∨ s.mdc.mode = .run ∨ s.mdc.mode = .repair) →
    s.vtu.last = some l → n ≠ l + 1 → ∃ t, exec (.cycleMark n) s = .next t ∧
      Commanded s t 0x0B [n] .sequence [l] ∧ OnlyAnswers s t) ∧
  (∀ s n, BusFree s → s.mdc.mode = .isolated → ∃ (t : State) (l : Snapshot), exec (.cycleMark n) s = .next t ∧
    Commanded s t 0x0B [n] .notNow [7] ∧ l.tableDigest = s.dgu.tableDigest ∧
    l.entries = (allRegions.filter s.isDigestRegion).map (fun (i : Fin 32) =>
      { region := i.val, valid := (s.record i).valid, digest := (s.record i).digest }) ∧
    (∀ p, t.link p = { s.link p with
      tx := if Config.isolatedDigest s.vtu.last n then
          queued (s.link p) (.digest n (some .isolated) l.tableDigest l.entries)
        else (s.link p).tx }) ∧
    Fired s t [] ∧ CapturesKept s t ∧
    (dropped (s.link .a) = [] ∨ dropped (s.link .b) = [] → Config.isolatedDigest s.vtu.last n = true →
      Counted s t (dropped (s.link .a) ++ dropped (s.link .b))) ∧
    (Config.isolatedDigest s.vtu.last n = false → OnlyAnswers s t) ∧
    t = { s with txi := t.txi, cmi := { s.cmi with words := t.cmi.words }, lkc := t.lkc, evu := t.evu }) ∧
  ∀ s n, BusFree s → (s.mdc.mode = .sync ∨ s.mdc.mode = .run ∨ s.mdc.mode = .repair) →
    (s.vtu.last = none ∨ s.vtu.last = some (n - 1)) →
    ∃ t r ports, exec (.cycleMark n) s = .next t ∧
      Commanded s t 0x0B [n] .done [ports, word ((if s.expectedVoter .a then 1 else 0) +
        (if s.expectedVoter .b then 2 else 0))] ∧
      (s.rse.service = none → ports = word ([Port.a, Port.b].countP (fun p =>
        (s.link p).up && decide ((s.link p).tx.length < 16)))) ∧
      t.vtu.last = some n ∧ (t.mdc.mode = .isolated ∨ t.vtu.watchdog = some 0) ∧
      t.recordFor n = some r ∧ r.expectA = s.expectedVoter .a ∧ r.expectB = s.expectedVoter .b ∧
      (∃ l, r.snapshot = some l ∧ l.tableDigest = s.dgu.tableDigest ∧
        l.entries = (allRegions.filter s.isDigestRegion).map (fun (i : Fin 32) =>
          { region := i.val, valid := (s.record i).valid, digest := (s.record i).digest }) ∧
        ∀ p, (s.link p).up = true → (∀ v, s.rse.service = some v → v.port ≠ p) → (s.link p).tx.length < 16 →
          ∃ rest, (t.link p).tx =
            (s.link p).tx ++ .digest n (some s.mdc.mode) l.tableDigest l.entries :: rest) ∧
      (r.outcome = none → r.deadline = some s.cmi.settings.voteDeadline ∧
        (s.expectedVoter .a = true ∨ s.expectedVoter .b = true)) ∧
      t = { s with
        txi := t.txi, cmi := { s.cmi with words := t.cmi.words }, vtu := t.vtu, lkc := t.lkc, mdc := t.mdc
        rse := t.rse, dgu := t.dgu, ptl := t.ptl, msq := t.msq, ret := t.ret, srm := t.srm, evu := t.evu } ∧
      ((∀ q ∈ s.vtu.records, q.cycle ≠ n ∧ (q.outcome = none → q.snapshot = none)) →
        (s.expectedVoter .a = true ∨ s.expectedVoter .b = true) →
        Fired s t [] ∧ CapturesKept s t ∧ t.vtu.watchdog = some 0 ∧ r.outcome = none ∧
        (s.rse.service = none → ∀ p, t.link p = { s.link p with
          tx := queued (s.link p) (.digest n (some s.mdc.mode) s.dgu.tableDigest s.snapshot.entries) }) ∧
        (∀ v, s.rse.service = some v → t.link v.port = s.link v.port ∧
          (∀ q, q ≠ v.port → t.link q = { s.link q with
            tx := queued (s.link q) (.digest n (some s.mdc.mode) s.dgu.tableDigest s.snapshot.entries) }) ∧
          ((s.link v.port).up = false → t.rse = s.rse ∧
            t.evu.counters[(15 : Fin 16)] = s.evu.counters[(15 : Fin 16)]) ∧
          ((s.link v.port).up = true →
            (v.kind = .repair ∨ ∀ e ∈ v.map, e.2 = .sent) → v.queue.countP (fun f => f.kind == 1) < 2 →
            t.rse = { s.rse with service := some { v with
              queue := v.queue ++ [.digest n (some s.mdc.mode) s.dgu.tableDigest s.snapshot.entries] } } ∧
            t.evu.counters[(15 : Fin 16)] = s.evu.counters[(15 : Fin 16)]) ∧
          ((s.link v.port).up = true →
            ((v.kind = .reentry ∧ ∃ e ∈ v.map, e.2 ≠ .sent) ∨ 2 ≤ v.queue.countP (fun f => f.kind == 1)) →
            t.rse = s.rse ∧ t.evu.counters[(15 : Fin 16)] =
              (if s.evu.counters[(15 : Fin 16)] < 65535 then s.evu.counters[(15 : Fin 16)] + 1
                else s.evu.counters[(15 : Fin 16)]))) ∧
        t = { s with
          txi := t.txi, cmi := { s.cmi with words := t.cmi.words }, lkc := t.lkc, evu := t.evu
          vtu := { s.vtu with last := some n, watchdog := some 0, records := t.vtu.records }
          rse := { s.rse with service := t.rse.service } })

/-- REENTER in LOADED or ISOLATED (R129): with no eligible partner it answers NO_PARTNER with both partners' modes and
roles and changes nothing; otherwise it answers DONE with the identity asked, which is the lower of the eligible
ones. JOIN_AT in READY (R146): inside the window the join cycle is set, outside it the answer is TOO_LATE with S. That
a JOIN_AT with S undefined is TOO_LATE, and that an UNKNOWN mode reads 15 in a NO_PARTNER answer, are the model's choices
(log entries 33 and 61). -/
def Obligations.ReenterAsksAndJoinAtSetsCycle : Prop :=
  (∀ s, BusFree s → (s.mdc.mode = .loaded ∨ s.mdc.mode = .isolated) →
    (∀ p, ¬ ((s.link p).up = true ∧ (s.link p).partner.mode = some .run ∧ (s.link p).partner.role = .none)) →
    ∃ t w, exec .reenter s = .next t ∧ Commanded s t 0x0D [] .noPartner [w] ∧ OnlyAnswers s t ∧
      bits w 0 4 = ((s.link .a).partner.mode.map Mode.code).getD 15 ∧
      bits w 4 3 = (s.link .a).partner.role.code ∧
      bits w 8 4 = ((s.link .b).partner.mode.map Mode.code).getD 15 ∧
      bits w 12 3 = (s.link .b).partner.role.code) ∧
  (∀ s p, BusFree s → (s.mdc.mode = .loaded ∨ s.mdc.mode = .isolated) → s.eligibleSource p = true →
    (∀ q, q ≠ p → s.eligibleSource q = true → s.partnerId p < s.partnerId q) → (s.link p).tx.length < 16 →
    ∃ t, exec .reenter s = .next t ∧ Commanded s t 0x0D [] .done [word (s.partnerId p)] ∧
      t.mdc = { s.mdc with mode := .reentry, chen := false } ∧
      (∀ i, t.record i = { valid := false, digest := 0, running := false, acc := 0, pointer := 0 }) ∧
      t.vtu = { s.vtu with records := [], last := none } ∧
      t.rse = { s.rse with reentry := t.rse.reentry } ∧
      t.rse.reentry = some
        { phase := .asking, asked := p, triedA := p == .a, triedB := p == .b, time := 0, copyEnd := false,
          auditsDone := false, source := none, join := none } ∧
      Offered s t p (.copyRequest s.dgu.tableDigest) ∧ t.ptl.kind = .none ∧ t.ptl.place = none ∧
      t.ptl.timer = none ∧ Fired s t [.modeChanged] ∧ Counted s t [] ∧ CapturesKept s t ∧ TimeKept s t ∧
      (∀ g, s.msq.port = some g → ∃ l, t.msq.port = some { g with live := l }) ∧
      (s.msq.port = none → t.msq.port = none) ∧
      t = { s with
        txi := t.txi, cmi := { s.cmi with words := t.cmi.words }, mdc := t.mdc, vtu := t.vtu, rse := t.rse
        dgu := { s.dgu with records := t.dgu.records }, lkc := t.lkc, ptl := t.ptl
        msq := { s.msq with port := t.msq.port }, evu := t.evu }) ∧
  (∀ s, BusFree s → (s.mdc.mode = .loaded ∨ s.mdc.mode = .isolated) → (∃ p, s.eligibleSource p = true) →
    (∀ p, s.eligibleSource p = true → 16 ≤ (s.link p).tx.length) →
    ∃ t, exec .reenter s = .next t ∧ t.mdc = { mode := .isolated, chen := false, cause := .noSource } ∧
      t.rse.reentry = none ∧ FlagSet t .isolated) ∧
  (∀ s n v src, BusFree s → s.mdc.mode = .ready → s.rse.reentry = some v → v.source = some src →
    (1 ≤ (n - src).toNat → (n - src).toNat ≤ 8 → ∃ t, exec (.joinAt n) s = .next t ∧
      Commanded s t 0x0E [n] .done [] ∧ t.rse = { s.rse with reentry := some { v with join := some n } } ∧
      t = { s with txi := t.txi, cmi := { s.cmi with words := t.cmi.words }, rse := t.rse }) ∧
    ((n - src).toNat = 0 ∨ 9 ≤ (n - src).toNat → ∃ t, exec (.joinAt n) s = .next t ∧
      Commanded s t 0x0E [n] .tooLate [src] ∧ OnlyAnswers s t)) ∧
  ∀ s n, BusFree s → s.mdc.mode = .ready → (∀ v, s.rse.reentry = some v → v.source = none) →
    ∃ t, exec (.joinAt n) s = .next t ∧ Commanded s t 0x0E [n] .tooLate [0] ∧ OnlyAnswers s t

/-! ### The memory port -/

/-- ARBITER_GRANT (R33 to R35). Nothing is granted while a group holds the port or while nothing waits. P is granted
unless the yield count has reached 8 with background work waiting; the count then grows by the group's slots, or
returns to 0 with none waiting. Otherwise the first eligible background operation in the order X, M, S is granted, the
count returns to 0, and a scrub or copy read draws one credit. What X, M and S present is as Table 2.2 says. The group
reaches the row that the logical row is mapped to (R23), a write below the copy pointer of a move out of that row reaches
the spare too (R28), and it is digest-updating as R25 and R26 say, which only a write by P or a frame write can be. Every
operation but a scrub read and a copy read always has credit (Table 2.5). The grant of a copy read takes the block it
belongs to where the engine has not taken it: the block is SENDING and the buffer at segment 0 with pointer 0 (R134, log
entry 20). That the count grows at the grant by the slots certain then,
which the statement gives from Table 2.3, and that a corrected read's write-back is added at its end, is the model's
choice (log entry 10); so is what the requesters present where the spec leaves it to them (log entries 11 and 31). -/
def Obligations.GrantFollowsArbiterOrder : Prop :=
  (∀ s, s.msq.port ≠ none → exec .arbiterGrant s = .next s) ∧
  (∀ s, s.opP = none → s.background = none → exec .arbiterGrant s = .next s) ∧
  (∀ (s : State) (h : Held), s.txi.held = some h →
    (h.writes = [] → 0 < h.reads → s.opP = some (.pRead h.next)) ∧
    (∀ v ws, h.writes = (v, 15) :: ws → s.opP = some (.pWrite h.next v)) ∧
    ∀ v k ws, h.writes = (v, k) :: ws → k ≠ 15 → s.opP = some (.pPartial h.next v k)) ∧
  (∀ s o, s.msq.port = none → s.opP = some o → (s.background = none ∨ s.msq.yieldCount < 8) →
    ∃ t g, exec .arbiterGrant s = .next t ∧ g.op = o ∧ g.live = true ∧
      t.msq = { s.msq with
        port := some g, yieldCount := if s.background = none then 0 else s.msq.yieldCount + g.slots } ∧
      t = { s with msq := t.msq }) ∧
  (∀ s o, s.msq.port = none → s.background = some o → (s.opP = none ∨ 8 ≤ s.msq.yieldCount) →
    ∃ t g, exec .arbiterGrant s = .next t ∧ g.op = o ∧ g.live = true ∧
      t.msq.port = some g ∧ t.msq.yieldCount = 0 ∧
      (t.msq.scrubCredit = match o with | .scrubRead _ _ _ => s.msq.scrubCredit - 1 | _ => s.msq.scrubCredit) ∧
      (t.msq.sourceCredit = match o with | .copyRead _ => s.msq.sourceCredit - 1 | _ => s.msq.sourceCredit) ∧
      ((∀ a, o ≠ .copyRead a) → t.rse = s.rse) ∧
      (∀ a v, o = .copyRead a → s.rse.service = some v →
        ∃ v', t.rse = { s.rse with service := some v' } ∧ TakesNext v v') ∧
      t = { s with msq := t.msq, rse := { s.rse with service := t.rse.service } }) ∧
  (∀ (s : State) (o : WordOp), s.background = some o ↔
    (s.opX = some o ∧ s.hasCredit o = true) ∨
      ((∀ x, s.opX = some x → s.hasCredit x = false) ∧
        (s.opM = some o ∨ (s.opM = none ∧ s.opS = some o ∧ s.hasCredit o = true)))) ∧
  (∀ (s : State) i w a, (s.hasCredit (.scrubRead i w a) = true ↔ 1 ≤ s.msq.scrubCredit) ∧
    (s.hasCredit (.copyRead a) = true ↔ 1 ≤ s.msq.sourceCredit)) ∧
  (∀ (s : State) (o : WordOp), (∀ i w a, o ≠ .scrubRead i w a) → (∀ a, o ≠ .copyRead a) → s.hasCredit o = true) ∧
  (∀ o : WordOp, o.mayUpdate = true ↔
    (∃ a v, o = .pWrite a v) ∨ (∃ a v k, o = .pPartial a v k) ∨ ∃ p a v, o = .frameWrite p a v) ∧
  (∀ (g : Group) (n : Nat), n = (if g.mirror = none then 1 else 2) →
    (∀ a, g.op = .pRead a → g.slots = 1) ∧ (∀ a v k, g.op = .pPartial a v k → g.slots = 1 + n) ∧
    ∀ a v, g.op = .pWrite a v → g.slots = if g.updating = true then 1 + n else n) ∧
  (∀ (s : State) (w : FrameWork) v vs, w.words = v :: vs →
    ((s.link .a).work = some w → s.opX = some (if w.restoring then .restoringWrite .a w.next v
      else .frameWrite .a w.next v)) ∧
    ((s.link .b).work = some w → (s.link .a).work = none → s.opX = some (if w.restoring then
      .restoringWrite .b w.next v else .frameWrite .b w.next v))) ∧
  (∀ (s : State), (s.link .a).work = none → (s.link .b).work = none →
    (s.rse.service = none → s.opX = none) ∧
    ∀ v, s.rse.service = some v →
      (∀ b, v.buffer = some b → b.words.length < 64 →
        s.opX = some (.copyRead (b.block + b.seg * 256 + b.words.length * 4))) ∧
      (∀ b, v.buffer = some b → 64 ≤ b.words.length → s.opX = none) ∧
      (∀ n st, v.buffer = none → v.map[v.walk]? = some (n, st) → s.opX = some (.copyRead n)) ∧
      (∀ n ns, v.buffer = none → v.map.length ≤ v.walk → v.resend = n :: ns → s.opX = some (.copyRead n)) ∧
      (v.buffer = none → v.map.length ≤ v.walk → v.resend = [] → s.opX = none)) ∧
  (∀ (s : State), ((∀ i : Fin 16, s.srm.spares[i].isMoving = false) → s.opM = none) ∧
    ∀ (i : Fin 16) row p, s.srm.spares[i] = .moving row p → MoveLaw s →
      (s.mdc.mode = .start ∨ s.mdc.mode = .load ∨ s.mdc.mode = .loaded ∨ s.mdc.mode = .clearing ∨
        s.mdc.mode = .reentry → s.opM = none) ∧
      ((s.mdc.mode = .sync ∨ s.mdc.mode = .run ∨ s.mdc.mode = .repair ∨ s.mdc.mode = .isolated ∨
        s.mdc.mode = .verify ∨ s.mdc.mode = .ready) →
        (row < s.rows - 16 → s.opM = some (.moveCopy (row * 1024 + 4 * p))) ∧
        ∀ (j : Fin 16) r b, s.srm.spares[j] = .active r b → row = s.rows - 16 + j.val →
          s.opM = some (.moveCopy (r * 1024 + 4 * p)))) ∧
  (∀ (s : State), (s.ptl.place = none ∨ s.ptl.kind = .none → s.opS = none) ∧
    ∀ pl r, s.ptl.place = some pl → s.region pl.region = some r →
      (s.ptl.kind = .scrub → s.opS = some (.scrubRead pl.region pl.word (r.base + 4 * pl.word))) ∧
      (s.ptl.kind = .clear → s.opS = some (.clearWrite pl.region pl.word (r.base + 4 * pl.word))) ∧
      (s.ptl.kind = .verifyAudit ∨ s.ptl.kind = .repairAudit →
        s.opS = some (.auditRead pl.region pl.word (r.base + 4 * pl.word)))) ∧
  ∀ s t g, exec .arbiterGrant s = .next t → t.msq.port = some g → s.msq.port = none →
    g.word = g.op.addr % 1024 / 4 ∧ g.place = s.placeOf g.op.addr ∧
      (g.audit = true ↔ (∃ i w a, g.op = .auditRead i w a) ∨
        ((∃ i w a, g.op = .scrubRead i w a) ∧ s.ptl.riding = true)) ∧
      (g.counted = true ↔ s.background ≠ none ∧ s.opP = some g.op ∧ s.msq.yieldCount < 8) ∧
      ((∀ i : Fin 16, s.srm.spares[i].isMoving = false) → g.mirror = none) ∧
      (∀ (i : Fin 16) row p, s.srm.spares[i] = .moving row p → MoveLaw s →
        (∀ a, g.op = .moveCopy a → g.mirror = some (s.rows - 16 + i.val)) ∧
        ((∀ a, g.op ≠ .moveCopy a) → g.mirror =
          if row = g.row ∧ g.word < p then some (s.rows - 16 + i.val) else none)) ∧
      ((∀ (i : Fin 16) r a, s.srm.spares[i] = .active r a → r ≠ g.op.addr / 1024) →
        g.row = g.op.addr / 1024) ∧
      (∀ (i : Fin 16) a, s.srm.spares[i] = .active (g.op.addr / 1024) a →
        (∀ (j : Fin 16) b, s.srm.spares[j] = .active (g.op.addr / 1024) b → j = i) →
        g.row = s.rows - 16 + i.val) ∧
      (g.updating = true ↔ g.op.mayUpdate = true ∧ ∃ pl, s.placeOf g.op.addr = some pl ∧
        pl.cls ≠ .nonvital ∧ ((s.record pl.region).valid = true ∨ (s.record pl.region).running = true))

/-- PROCESSOR_READ_END. By how many of the 39 stored bits are wrong (Table 2.1): none, the data is answered OKAY and
the memory is left; one, the corrected data is answered CORRECTED, written back with fresh check bits to every row
the group writes (R27, R28), counted, flagged and reported to the row error table (R30); two, zero is answered FAULT,
the word is left as it stands, and it is counted, flagged and captured (R31). More than two may give any of the three
(R22): the data as they stand in memory, those with one bit corrected, or zero; which is a free value (log entry 7). No
step of these changes another word, and a word without a consequence (Table 8.4) changes nothing else. A move waiting to
start does so at the end, and so does one chosen because the row's entry turned WEAK (R45, R46); that the row chosen stands
until then and rules out a further choice (log entry 24), and that a move ended by RESTART does not count as in flight (log
entry 25), is the model's reading. An uncorrectable word of
a CONSTANT region in RUN begins a repair: its block is the list, and the expected voter of the lower identity is asked
for it (R126, R150), and the change of mode is an occasion to choose a move (R45); in REPAIR a further block joins the tail of a list shorter than 8, a ninth isolates the channel, and
one that is listed already changes nothing (R126, R149). That the slots of the write-back are added to the yield count
here, at the group's end, is the model's choice (log entry 10). Where accesses wait for the bus, PassingTransactionIsHeld
says what follows. -/
def Obligations.ReadEndAnswersByOutcome : Prop :=
  ∀ s g a m, s.msq.port = some g → g.op = .pRead a → MemoryLaw s → RowTableLaw s → s.txi.waiting = [] →
    (wrongBits (found s g m).flips = 0 → ∃ t, exec (.processorReadEnd m) s = .next t ∧
      memLookup t.mem (groupKey g) = some (found s g m) ∧ CellsKept s t [groupKey g] ∧
      WordAnswered s t .okay [(found s g m).data] ∧ t.msq = { s.msq with port := none } ∧ WaitingStarts s t ∧
      t = { s with mem := t.mem, txi := t.txi, msq := t.msq, srm := t.srm, ret := t.ret }) ∧
    (wrongBits (found s g m).flips = 1 → ∃ t, exec (.processorReadEnd m) s = .next t ∧
      Stores t g (found s g m).data ∧ CellsKept s t (writtenKeys g) ∧
      WordAnswered s t .corrected [(found s g m).data] ∧ t.msq.port = none ∧
      t.msq.yieldCount = s.msq.yieldCount +
        (if g.counted = true then (if g.mirror = none then 1 else 2) else 0) ∧
      FlagSet t .memCorrected ∧ RowReported s t g.row g.word ∧
      (∀ e ∈ s.ret.entries, e.row = g.row → e.state = .tracking → s.cmi.settings.weakLimit ≤ countAfter e →
        ¬ MoveWaits s → FlagSet t .rowWeak ∧
          MoveChosen s.srm (reportedEntries s g.row g.word) (MovePermitted s s.mdc.mode) False t) ∧
      t.evu.counters[(0 : Fin 16)] =
        (if s.evu.counters[(0 : Fin 16)] < 65535 then s.evu.counters[(0 : Fin 16)] + 1
          else s.evu.counters[(0 : Fin 16)]) ∧ CapturesKept s t ∧
      t = { s with
        mem := t.mem, txi := t.txi, msq := { s.msq with port := none, yieldCount := t.msq.yieldCount }
        srm := t.srm, ret := t.ret, evu := t.evu }) ∧
    (wrongBits (found s g m).flips = 2 → ∃ t, exec (.processorReadEnd m) s = .next t ∧
      memLookup t.mem (groupKey g) = some (found s g m) ∧ CellsKept s t [groupKey g] ∧
      FlagSet t .memUncorrectable ∧ t.evu.counters[(1 : Fin 16)] =
        (if s.evu.counters[(1 : Fin 16)] < 65535 then s.evu.counters[(1 : Fin 16)] + 1
          else s.evu.counters[(1 : Fin 16)]) ∧
      Captured s t .memory .p (some a) (.memory .read) ∧
      WordAnswered s t .fault [0] ∧ t.msq.port = none ∧
      ((∀ pl, g.place = some pl → EventOnly s.mdc.mode pl.cls) →
        Fired s t [.memUncorrectable] ∧ WaitingStarts s t ∧
        t = { s with
          mem := t.mem, txi := t.txi, msq := { s.msq with port := none }, srm := t.srm, ret := t.ret
          evu := t.evu }) ∧
      (∀ pl, g.place = some pl → pl.cls = .vital → ¬ EventOnly s.mdc.mode pl.cls →
        t.mdc = { mode := .isolated, chen := false, cause := .vitalDamage } ∧ FlagSet t .isolated) ∧
      (∀ pl, g.place = some pl → pl.cls = .constant →
        (s.mdc.mode = .sync ∨ s.mdc.mode = .verify ∨ s.mdc.mode = .ready) →
        t.mdc = { mode := .isolated, chen := false, cause := .vitalDamage } ∧ FlagSet t .isolated) ∧
      (∀ pl, g.place = some pl → pl.cls = .constant → s.mdc.mode = .run → s.rse.repairList = [] →
        s.ptl.kind = .scrub → s.ptl.asked = [] →
        (t.mdc = { s.mdc with mode := .repair, chen := false } ∧
          t.rse.repairList = [a / 4096 * 4096] ∧ t.rse.service = none ∧ FlagSet t .modeChanged) ∨
        (t.mdc = { mode := .isolated, chen := false, cause := .noSource } ∧
          ∀ p, s.expectedVoter p = true → 15 ≤ (s.link p).tx.length)) ∧
      (∀ pl p, g.place = some pl → pl.cls = .constant → s.mdc.mode = .run → s.rse.repairList = [] →
        s.ptl.kind = .scrub → s.ptl.asked = [] → FirstVoter s p → (s.link p).tx.length < 15 →
        t.mdc = { s.mdc with mode := .repair, chen := false } ∧
        t.rse = { s.rse with
          service := none, repairList := [a / 4096 * 4096]
          repair := some
            { phase := .asking, asked := p, triedA := p == .a, triedB := p == .b, time := 0, written := [],
              repaired := [] } } ∧
        (t.link p).tx =
          (if s.rse.service.map (·.port) = some p then queued (s.link p) (.abandon 19) else (s.link p).tx) ++
            [.repairRequest s.dgu.tableDigest (a / 4096 * 4096)] ∧
        (¬ MoveWaits s → MoveChosen s.srm s.ret.entries (MovePermitted s .repair) False t)) ∧
      (∀ pl, g.place = some pl → pl.cls = .constant → s.mdc.mode = .repair →
        s.rse.repairList.length < 8 → a / 4096 * 4096 ∉ s.rse.repairList → s.ptl.kind = .scrub → s.ptl.asked = [] →
        t.rse = { s.rse with repairList := s.rse.repairList ++ [a / 4096 * 4096] } ∧ t.mdc = s.mdc ∧
          t.lkc = s.lkc) ∧
      (∀ pl, g.place = some pl → pl.cls = .constant → s.mdc.mode = .repair →
        a / 4096 * 4096 ∈ s.rse.repairList → Fired s t [.memUncorrectable] ∧ WaitingStarts s t ∧
        t = { s with
          mem := t.mem, txi := t.txi, msq := { s.msq with port := none }, srm := t.srm, ret := t.ret
          evu := t.evu }) ∧
      (∀ pl, g.place = some pl → pl.cls = .constant → s.mdc.mode = .repair →
        s.rse.repairList.length = 8 → a / 4096 * 4096 ∉ s.rse.repairList →
        t.mdc = { mode := .isolated, chen := false, cause := .repairOverflow } ∧ t.rse.repairList = [])) ∧
    (3 ≤ wrongBits (found s g m).flips → ∃ t, exec (.processorReadEnd m) s = .next t ∧ t.msq.port = none ∧
      CellsKept s t (writtenKeys g) ∧
      ((WordAnswered s t .okay [storedBits (found s g m)] ∧
          memLookup t.mem (groupKey g) = some (found s g m)) ∨
        (∃ v, (v = storedBits (found s g m) ∨ ∃ b, b < 32 ∧ v = storedBits (found s g m) ^^^ BitVec.twoPow 32 b) ∧
          WordAnswered s t .corrected [v] ∧ Stores t g v ∧ FlagSet t .memCorrected) ∨
        (WordAnswered s t .fault [0] ∧ memLookup t.mem (groupKey g) = some (found s g m) ∧
          FlagSet t .memUncorrectable)))

/-- PROCESSOR_WRITE_END and PARTIAL_WRITE_END (R25, R26, R32, R57, R58). The value is stored with fresh check bits at
every row the group writes, and no other word changes; a partial write stores each byte its mask selects over the old
word, or over zero where that is uncorrectable. A digest-updating group with a clean or corrected old word moves a
VALID digest by (new - old) × (i + 1) modulo M, for a partial write with the merged word as the new value; an unknown old
value makes the record INVALID with D 0. The processor is answered OKAY for a full word whatever the old one was, and by
the old word for a partial write (R19). A write that changes a digest-region word reaches the source of a re-entry as a
source write report: it is not sent for a block or segment still to be read, is put into the segment buffer for the
segment being read, and is queued as a FORWARD for what has been sent, or sends its block back where 28 FORWARDs are
queued, or ends the service with OVERFLOW where 64 blocks wait to be resent (R136, R137); that the engine then takes its
next block at once is the model's choice (log entry 20). A move waiting to start does so at the group's end (R46); that the
row chosen stands until then and starts in whatever mode the channel is by then is the model's reading (log entry 24). Where
accesses wait for the bus, PassingTransactionIsHeld says what follows. -/
def Obligations.WriteEndStoresAndFollowsDigest : Prop :=
  (∀ s g a v m, s.msq.port = some g → g.op = .pWrite a v → MemoryLaw s → s.txi.waiting = [] →
    ∃ t, exec (.processorWriteEnd m) s = .next t ∧ Stores t g v ∧ CellsKept s t (writtenKeys g) ∧
      WordAnswered s t .okay [] ∧ t.msq.port = none ∧
      (g.updating = false → s.rse.service = none → WaitingStarts s t ∧
        t = { s with mem := t.mem, txi := t.txi, msq := { s.msq with port := none }, srm := t.srm, ret := t.ret }) ∧
      (∀ pl, g.place = some pl → g.updating = true → wrongBits (found s g m).flips = 0 →
        s.rse.service = none → WaitingStarts s t ∧
        (∀ i, i ≠ pl.region → t.record i = s.record i) ∧
        (t.record pl.region).valid = (s.record pl.region).valid ∧
        (t.record pl.region).pointer = (s.record pl.region).pointer ∧
        ((s.record pl.region).valid = true → (((t.record pl.region).digest : Nat) : Int) % (2 ^ 61 - 1) =
          ((s.record pl.region).digest + ((v.toNat : Int) - (found s g m).data.toNat) * (pl.word + 1)) %
            (2 ^ 61 - 1)) ∧
        ((s.record pl.region).running = true → pl.word < (s.record pl.region).pointer →
          (((t.record pl.region).acc : Nat) : Int) % (2 ^ 61 - 1) =
            ((s.record pl.region).acc + ((v.toNat : Int) - (found s g m).data.toNat) * (pl.word + 1)) %
              (2 ^ 61 - 1)) ∧
        ((s.record pl.region).pointer ≤ pl.word → (t.record pl.region).acc = (s.record pl.region).acc) ∧
        t = { s with
          mem := t.mem, txi := t.txi, msq := { s.msq with port := none }, srm := t.srm, ret := t.ret
          dgu := { s.dgu with records := t.dgu.records } }) ∧
      ∀ pl, g.place = some pl → g.updating = true → wrongBits (found s g m).flips = 2 →
        (t.record pl.region).valid = false ∧ (t.record pl.region).digest = 0 ∧
          (t.record pl.region).running = false ∧ FlagSet t .memUncorrectable ∧
          Captured s t .memory .p (some a) (.memory .oldValue)) ∧
  (∀ s g i new m pl, s.msq.port = some g → MemoryLaw s → s.txi.waiting = [] → g.place = some pl →
    g.updating = true → wrongBits (found s g m).flips ≤ 1 → WriteOf s g i new m →
    ∃ t, exec i s = .next t ∧ (∀ j, j ≠ pl.region → t.record j = s.record j) ∧
      (t.record pl.region).valid = (s.record pl.region).valid ∧
      (t.record pl.region).running = (s.record pl.region).running ∧
      ((s.record pl.region).valid = true → (((t.record pl.region).digest : Nat) : Int) % (2 ^ 61 - 1) =
        ((s.record pl.region).digest + ((new.toNat : Int) - (found s g m).data.toNat) * (pl.word + 1)) %
          (2 ^ 61 - 1)) ∧
      ((s.record pl.region).running = true → pl.word < (s.record pl.region).pointer →
        (((t.record pl.region).acc : Nat) : Int) % (2 ^ 61 - 1) =
          ((s.record pl.region).acc + ((new.toNat : Int) - (found s g m).data.toNat) * (pl.word + 1)) %
            (2 ^ 61 - 1)) ∧
      ((s.record pl.region).pointer ≤ pl.word → (t.record pl.region).acc = (s.record pl.region).acc) ∧
      (wrongBits (found s g m).flips = 1 → FlagSet t .memCorrected ∧
        (RowTableLaw s → RowReported s t g.row g.word))) ∧
  (∀ s g i new m pl v, s.msq.port = some g → MemoryLaw s → s.txi.waiting = [] → g.place = some pl →
    s.rse.service = some v → WriteOf s g i new m →
    (g.updating = false ∨ wrongBits (found s g m).flips ≤ 1) →
    ((pl.cls = .nonvital ∨ v.kind = .repair ∨ Unchanged s g i new m) →
      ∃ t, exec i s = .next t ∧ t.rse = s.rse ∧ t.lkc = s.lkc) ∧
    (pl.cls ≠ .nonvital → v.kind = .reentry → ¬ Unchanged s g i new m →
      (v.blockState (g.op.addr / 4096 * 4096) = none ∨
        v.blockState (g.op.addr / 4096 * 4096) = some .unsent →
        ∃ t, exec i s = .next t ∧ t.rse = s.rse ∧ t.lkc = s.lkc) ∧
      (v.blockState (g.op.addr / 4096 * 4096) = some .sent → ForwardQueued s i v g.op.addr new) ∧
      ∀ b, v.blockState (g.op.addr / 4096 * 4096) = some .sending → v.buffer = some b →
        (g.op.addr % 4096 / 256 < b.seg → ForwardQueued s i v g.op.addr new) ∧
        (g.op.addr % 4096 / 256 = b.seg → g.op.addr % 256 / 4 < b.words.length →
          ∃ t, exec i s = .next t ∧ t.lkc = s.lkc ∧ t.rse = { s.rse with service := some { v with
            buffer := some { b with words := b.words.set (g.op.addr % 256 / 4) new } } }) ∧
        (b.seg < g.op.addr % 4096 / 256 ∨
            g.op.addr % 4096 / 256 = b.seg ∧ b.words.length ≤ g.op.addr % 256 / 4 →
          ∃ t, exec i s = .next t ∧ t.rse = s.rse ∧ t.lkc = s.lkc))) ∧
  ∀ s g a v k m, s.msq.port = some g → g.op = .pPartial a v k → MemoryLaw s → s.txi.waiting = [] →
    (wrongBits (found s g m).flips ≤ 2 →
      ∃ t new, exec (.partialWriteEnd m) s = .next t ∧ Stores t g new ∧ CellsKept s t (writtenKeys g) ∧
        t.msq.port = none ∧
        (∀ b, b < 32 → new.getLsbD b = (if k.getLsbD (b / 8) then v.getLsbD b
          else if wrongBits (found s g m).flips = 2 then false else (found s g m).data.getLsbD b)) ∧
        (wrongBits (found s g m).flips = 0 → WordAnswered s t .okay []) ∧
        (wrongBits (found s g m).flips = 1 → WordAnswered s t .corrected [] ∧ FlagSet t .memCorrected) ∧
        (wrongBits (found s g m).flips = 2 → WordAnswered s t .fault [] ∧ FlagSet t .memUncorrectable ∧
          Captured s t .memory .p (some a) (.memory .merge)) ∧
        (wrongBits (found s g m).flips = 0 → s.rse.service = none → WaitingStarts s t ∧
          t = { s with
            mem := t.mem, txi := t.txi, msq := { s.msq with port := none }, srm := t.srm, ret := t.ret
            dgu := { s.dgu with records := t.dgu.records } }))

/-- SCRUB_READ_END (R69 to R74) for the read that the SCRUB pass waits for. A clean word moves the pass to the next
word, past the region's end to the next region of the scrub set, or past the last one to a new pass with SCRUB_PASSES
counted and the coverage timer at 0 (R71); a block on the repair list is passed over. While the riding audit is on
the word is added to A (R60), and at the region's end A is compared with D: a DRIFT fires DIGEST_DRIFT and isolates
the channel in SYNC, RUN, REPAIR and READY. A corrected word is written back. An uncorrectable word stops the riding
audit, and has the consequence of Table 8.4 in SYNC, RUN, REPAIR and READY: a VITAL one isolates the channel, and so does a
CONSTANT one in SYNC and READY; a CONSTANT one begins a repair in RUN, which is an occasion to choose a move (R45), and joins
the list in REPAIR (R125, R126). A repair audit asked for while the read was in flight begins at its end, with the pass
suspended where it then stands (R81, log entry 26). That the position stands past a listed block already at the end of the
group before it is the model's choice (log entry 38). A move waiting to start does so at the group's end (R46); that the row
chosen stands until then and starts in whatever mode the channel is by then is the model's reading, and so is that no move
is chosen while one waits, and that one ended by RESTART does not count (log entries 24 and 25). -/
def Obligations.ScrubReadEndAdvancesPass : Prop :=
  (∀ s g (i : Fin 32) w a m (j : Fin 32) js, s.msq.port = some g → g.op = .scrubRead i w a → g.live = true →
    s.ptl.kind = .scrub → s.ptl.asked = j :: js → MemoryLaw s → s.ptl.riding = false → s.rse.repairList = [] →
    wrongBits (found s g m).flips = 0 → w + 1 < s.regionWords i → (s.record j).valid = true →
    ∃ t, exec (.scrubReadEnd m) s = .next t ∧ WaitingStarts s t ∧ CellsKept s t [groupKey g] ∧
      t.ptl = { s.ptl with
        kind := .repairAudit, place := some { region := j, word := 0 }
        suspended := some (some { region := i, word := w + 1 }, false), auditList := j :: js, asked := [] } ∧
      t.record j = { s.record j with running := true, acc := 0, pointer := 0 } ∧
      (∀ k, k ≠ j → t.record k = s.record k) ∧
      t = { s with
        mem := t.mem, msq := { s.msq with port := none }, ptl := t.ptl, srm := t.srm, ret := t.ret
        dgu := { s.dgu with records := t.dgu.records } }) ∧
  (∀ s g (i : Fin 32) w a m pl, s.msq.port = some g → g.op = .scrubRead i w a → g.live = true →
    s.ptl.kind = .scrub → s.ptl.asked = [] → MemoryLaw s → RowTableLaw s → g.place = some pl →
    wrongBits (found s g m).flips = 2 → ∃ t, exec (.scrubReadEnd m) s = .next t ∧
      FlagSet t .memUncorrectable ∧ Captured s t .memory .s (some a) (.memory .read) ∧
      memLookup t.mem (groupKey g) = some (found s g m) ∧ CellsKept s t [groupKey g] ∧ t.msq.port = none ∧
      (pl.cls = .vital ∧ (s.mdc.mode = .sync ∨ s.mdc.mode = .run ∨ s.mdc.mode = .repair ∨ s.mdc.mode = .ready) ∨
          pl.cls = .constant ∧ (s.mdc.mode = .sync ∨ s.mdc.mode = .ready) →
        t.mdc = { mode := .isolated, chen := false, cause := .vitalDamage } ∧ FlagSet t .isolated ∧
        t.rse = { service := none, reentry := none, repair := none, repairList := [] } ∧
        (w + 1 < s.regionWords i → t.ptl.kind = .scrub ∧ t.ptl.riding = false ∧
          t.ptl.place = some { region := i, word := w + 1 } ∧
          (s.ptl.riding = true → t.record i = { s.record i with running := false }))) ∧
      (pl.cls = .constant → s.mdc.mode = .run → s.rse.repairList = [] →
        (∀ p, FirstVoter s p → (s.link p).tx.length < 15 →
          t.mdc = { s.mdc with mode := .repair, chen := false } ∧
          t.rse = { s.rse with
            service := none, repairList := [a / 4096 * 4096]
            repair := some
              { phase := .asking, asked := p, triedA := p == .a, triedB := p == .b, time := 0, written := [],
                repaired := [] } } ∧
          (t.link p).tx =
            (if s.rse.service.map (·.port) = some p then queued (s.link p) (.abandon 19) else (s.link p).tx) ++
              [.repairRequest s.dgu.tableDigest (a / 4096 * 4096)] ∧
          (w + 1 < s.regionWords i → s.wordAddress i (w + 1) / 4096 * 4096 ≠ a / 4096 * 4096 →
            t.ptl.place = some { region := i, word := w + 1 } ∧ t.ptl.riding = false) ∧
          (w + 1 < s.regionWords i → s.wordAddress i (w + 1) / 4096 * 4096 = a / 4096 * 4096 →
            ((w + 1) / 1024 + 1) * 1024 < s.regionWords i →
            s.wordAddress i (((w + 1) / 1024 + 1) * 1024) / 4096 * 4096 ≠ a / 4096 * 4096 →
            t.ptl.place = some { region := i, word := ((w + 1) / 1024 + 1) * 1024 } ∧ t.ptl.riding = false) ∧
          (¬ MoveWaits s → MoveChosen s.srm s.ret.entries (MovePermitted s .repair) False t)) ∧
        ((∀ p, s.expectedVoter p = false) → NoSourceLeft t)) ∧
      (pl.cls = .constant → s.mdc.mode = .repair →
        (s.rse.repairList.length < 8 → a / 4096 * 4096 ∉ s.rse.repairList →
          t.rse = { s.rse with repairList := s.rse.repairList ++ [a / 4096 * 4096] } ∧ t.mdc = s.mdc ∧
            t.lkc = s.lkc) ∧
        (s.rse.repairList.length = 8 → a / 4096 * 4096 ∉ s.rse.repairList →
          t.mdc = { mode := .isolated, chen := false, cause := .repairOverflow } ∧ t.rse.repairList = [])) ∧
      (pl.cls = .nonvital ∨ pl.cls = .constant ∧ s.mdc.mode = .repair ∧ a / 4096 * 4096 ∈ s.rse.repairList →
        t.rse = s.rse ∧ t.mdc = s.mdc ∧ t.lkc = s.lkc ∧ Fired s t [.memUncorrectable])) ∧
  ∀ s g (i : Fin 32) w a m, s.msq.port = some g → g.op = .scrubRead i w a → g.live = true →
    s.ptl.kind = .scrub → s.ptl.asked = [] → MemoryLaw s →
    (s.ptl.riding = false → wrongBits (found s g m).flips = 0 → w + 1 < s.regionWords i →
      s.wordAddress i (w + 1) / 4096 * 4096 ∉ s.rse.repairList →
      ∃ t, exec (.scrubReadEnd m) s = .next t ∧ t.ptl = { s.ptl with place := some { region := i, word := w + 1 } } ∧
        memLookup t.mem (groupKey g) = some (found s g m) ∧ CellsKept s t [groupKey g] ∧ WaitingStarts s t ∧
        t = { s with mem := t.mem, msq := { s.msq with port := none }, ptl := t.ptl, srm := t.srm, ret := t.ret }) ∧
    (s.ptl.riding = false → wrongBits (found s g m).flips = 0 → w + 1 < s.regionWords i →
      s.wordAddress i (w + 1) / 4096 * 4096 ∈ s.rse.repairList →
      ((w + 1) / 1024 + 1) * 1024 < s.regionWords i →
      s.wordAddress i (((w + 1) / 1024 + 1) * 1024) / 4096 * 4096 ∉ s.rse.repairList →
      ∃ t, exec (.scrubReadEnd m) s = .next t ∧
        t.ptl = { s.ptl with place := some { region := i, word := ((w + 1) / 1024 + 1) * 1024 } }) ∧
    (s.ptl.riding = false → wrongBits (found s g m).flips = 0 → w + 1 = s.regionWords i → s.rse.repairList = [] →
      (∀ j, nextRegion s.scrubSet i = some j → ∃ t, exec (.scrubReadEnd m) s = .next t ∧
        t.ptl = { s.ptl with
          place := some { region := j, word := 0 }, riding := s.isDigestRegion j && (s.record j).valid } ∧
        (t.ptl.riding = true →
          t.record j = { s.record j with running := true, acc := 0, pointer := 0 }) ∧
        (∀ k, k ≠ j ∨ t.ptl.riding = false → t.record k = s.record k) ∧ WaitingStarts s t ∧
        t = { s with
          mem := t.mem, msq := { s.msq with port := none }, ptl := t.ptl, srm := t.srm, ret := t.ret
          dgu := { s.dgu with records := t.dgu.records } }) ∧
      (∀ j, nextRegion s.scrubSet i = none → s.scrubSet.head? = some j →
        ∃ t, exec (.scrubReadEnd m) s = .next t ∧ t.ptl.place = some { region := j, word := 0 } ∧
          t.ptl.kind = .scrub ∧ t.ptl.timer = some 0 ∧ Counted s t [.scrubPasses] ∧ Fired s t [] ∧
          t.ptl.riding = (s.isDigestRegion j && (s.record j).valid))) ∧
    (s.ptl.riding = true → (s.record i).running = true → (s.record i).pointer = w →
      wrongBits (found s g m).flips ≤ 1 → s.rse.repairList = [] → RowTableLaw s →
      ∃ t, exec (.scrubReadEnd m) s = .next t ∧
        (wrongBits (found s g m).flips = 1 → Stores t g (found s g m).data ∧ FlagSet t .memCorrected ∧
          RowReported s t g.row g.word) ∧
        (w + 1 < s.regionWords i →
          t.ptl.place = some { region := i, word := w + 1 } ∧ t.ptl.riding = true ∧
          t.record i = { s.record i with
            acc := ((s.record i).acc + (found s g m).data.toNat * (w + 1)) % (2 ^ 61 - 1), pointer := w + 1 }) ∧
        (w + 1 = s.regionWords i → (s.record i).valid = true →
          ((s.record i).acc + (found s g m).data.toNat * (w + 1)) % (2 ^ 61 - 1) ≠ (s.record i).digest →
          FlagSet t .digestDrift ∧ (t.record i).valid = true ∧ (t.record i).digest = (s.record i).digest ∧
          ((s.mdc.mode = .sync ∨ s.mdc.mode = .run ∨ s.mdc.mode = .repair ∨ s.mdc.mode = .ready) →
            t.mdc = { mode := .isolated, chen := false, cause := .digestDrift } ∧ t.rse.service = none ∧
            t.rse.reentry = none ∧ t.rse.repair = none) ∧
          (s.mdc.mode = .isolated → t.mdc = s.mdc)) ∧
        (w + 1 = s.regionWords i → (s.record i).valid = true →
          ((s.record i).acc + (found s g m).data.toNat * (w + 1)) % (2 ^ 61 - 1) = (s.record i).digest →
          t.mdc = s.mdc ∧ (t.record i).valid = true ∧ (t.record i).digest = (s.record i).digest)) ∧
    (wrongBits (found s g m).flips = 2 → s.mdc.mode = .isolated → w + 1 < s.regionWords i →
      s.rse.repairList = [] → ∃ t, exec (.scrubReadEnd m) s = .next t ∧ t.mdc = s.mdc ∧
        FlagSet t .memUncorrectable ∧ Captured s t .memory .s (some a) (.memory .read) ∧
        memLookup t.mem (groupKey g) = some (found s g m) ∧ t.ptl.riding = false ∧
        t.ptl.place = some { region := i, word := w + 1 } ∧
        (s.ptl.riding = true → t.record i = { s.record i with running := false }))

/-- AUDIT_READ_END and CLEAR_WRITE_END for the operation that PTL waits for (R60, R61, R77 to R81). A clean audit word
is added to A, and so is a corrected one, which is written back and reported. At a region's end an INVALID record becomes
VALID with D = A (the VERIFY audit); after the last digest region the audits are complete. A repair audit goes on from a
region that matches to the next named one, which isolates the channel with REPAIR_FAILED where its record is INVALID (R158,
log entry 23), and after the last one returns it to RUN with REPAIR_DONE; a DRIFT isolates it with REPAIR_FAILED (R158).
An uncorrectable word isolates the channel in VERIFY, and in REPAIR where it is VITAL (R125). One of a CONSTANT region
joins the list, which stops the repair audit: the voter of the lower identity is asked for its block and the suspended
scrub goes on (R82, R158), and without a voter the channel is isolated with NO_SOURCE (R151). A clear write stores zero and
moves on; after the last word of the last region every digest region is VALID with D = 0, the mode is SYNC with the watchdog
at 0, and a SCRUB pass starts. The changes into SYNC and RUN are occasions to choose a move (R45), and a move waiting to
start does so at the group's end (R46); that the row chosen stands until then and starts in whatever mode the channel is by
then, and that one ended by RESTART does not count, is the model's reading (log entries 24 and 25). -/
def Obligations.AuditAndClearEndsAdvanceWalk : Prop :=
  (∀ s g (i : Fin 32) w a m, s.msq.port = some g → g.op = .auditRead i w a → g.live = true → MemoryLaw s →
    (s.ptl.kind = .verifyAudit ∨ s.ptl.kind = .repairAudit) → wrongBits (found s g m).flips = 0 →
    (s.record i).running = true → (s.record i).pointer = w →
    (w + 1 < s.regionWords i → ∃ t, exec (.auditReadEnd m) s = .next t ∧ WaitingStarts s t ∧
      t.record i = { s.record i with
        acc := ((s.record i).acc + (found s g m).data.toNat * (w + 1)) % (2 ^ 61 - 1), pointer := w + 1 } ∧
      (∀ j, j ≠ i → t.record j = s.record j) ∧ CellsKept s t [groupKey g] ∧
      t = { s with
        mem := t.mem, msq := { s.msq with port := none }, srm := t.srm, ret := t.ret
        ptl := { s.ptl with place := some { region := i, word := w + 1 } }
        dgu := { s.dgu with records := t.dgu.records } }) ∧
    (w + 1 = s.regionWords i → s.ptl.kind = .verifyAudit → (s.record i).valid = false →
      ∃ t, exec (.auditReadEnd m) s = .next t ∧ t.mdc = s.mdc ∧ (t.record i).valid = true ∧
        (t.record i).running = false ∧
        (t.record i).digest = ((s.record i).acc + (found s g m).data.toNat * (w + 1)) % (2 ^ 61 - 1) ∧
        (∀ j, nextRegion s.digestRegions i = some j → t.ptl.place = some { region := j, word := 0 } ∧
          t.rse = s.rse ∧ t.record j = { s.record j with running := true, acc := 0, pointer := 0 }) ∧
        (nextRegion s.digestRegions i = none → t.ptl.kind = .none ∧ t.ptl.place = none ∧
          ∀ v, s.rse.reentry = some v → t.rse = { s.rse with reentry := some { v with auditsDone := true } })) ∧
    (w + 1 = s.regionWords i → s.ptl.kind = .repairAudit → s.mdc.mode = .repair → s.rse.repair ≠ none →
      s.ptl.suspended ≠ none → (s.record i).valid = true →
      (((s.record i).acc + (found s g m).data.toNat * (w + 1)) % (2 ^ 61 - 1) = (s.record i).digest →
        (∀ j, nextRegion s.ptl.auditList i = some j → (s.record j).valid = true →
          ∃ t, exec (.auditReadEnd m) s = .next t ∧ t.ptl = { s.ptl with place := some { region := j, word := 0 } } ∧
            t.record j = { s.record j with running := true, acc := 0, pointer := 0 } ∧ t.mdc = s.mdc ∧
            t.rse = s.rse) ∧
        (∀ j, nextRegion s.ptl.auditList i = some j → (s.record j).valid = false →
          ∃ t, exec (.auditReadEnd m) s = .next t ∧ t.rse.repair = none ∧ t.ptl.kind = .scrub ∧
            t.mdc = { mode := .isolated, chen := false, cause := .repairFailed }) ∧
        (nextRegion s.ptl.auditList i = none → ∃ t, exec (.auditReadEnd m) s = .next t ∧
          t.mdc = { s.mdc with mode := .run, chen := true } ∧ t.rse = { s.rse with repair := none } ∧
          FlagSet t .repairDone ∧ FlagSet t .modeChanged ∧ t.ptl.kind = .scrub ∧
          (t.record i).digest = (s.record i).digest ∧
          (RowTableLaw s → ¬ MoveWaits s →
            MoveChosen s.srm s.ret.entries (MovePermitted s .run) False t))) ∧
      (((s.record i).acc + (found s g m).data.toNat * (w + 1)) % (2 ^ 61 - 1) ≠ (s.record i).digest →
        ∃ t, exec (.auditReadEnd m) s = .next t ∧ FlagSet t .digestDrift ∧ t.ptl.kind = .scrub ∧
          t.mdc = { mode := .isolated, chen := false, cause := .repairFailed } ∧ t.rse.repair = none))) ∧
  (∀ s g (i : Fin 32) w a m, s.msq.port = some g → g.op = .auditRead i w a → g.live = true → MemoryLaw s →
    RowTableLaw s → (s.ptl.kind = .verifyAudit ∨ s.ptl.kind = .repairAudit) → wrongBits (found s g m).flips = 1 →
    (s.record i).running = true → (s.record i).pointer = w → w + 1 < s.regionWords i →
    ∃ t, exec (.auditReadEnd m) s = .next t ∧ Stores t g (found s g m).data ∧ CellsKept s t (writtenKeys g) ∧
      FlagSet t .memCorrected ∧ RowReported s t g.row g.word ∧
      t.ptl = { s.ptl with place := some { region := i, word := w + 1 } } ∧
      t.record i = { s.record i with
        acc := ((s.record i).acc + (found s g m).data.toNat * (w + 1)) % (2 ^ 61 - 1), pointer := w + 1 } ∧
      t = { s with
        mem := t.mem, msq := { s.msq with port := none }, srm := t.srm, ret := t.ret, ptl := t.ptl
        dgu := { s.dgu with records := t.dgu.records }, evu := t.evu }) ∧
  (∀ s g (i : Fin 32) w a m pl, s.msq.port = some g → g.op = .auditRead i w a → g.live = true → MemoryLaw s →
    g.place = some pl → wrongBits (found s g m).flips = 2 →
    (s.mdc.mode = .verify ∧ pl.cls ≠ .nonvital ∨ s.mdc.mode = .repair ∧ pl.cls = .vital) →
    ∃ t, exec (.auditReadEnd m) s = .next t ∧ FlagSet t .memUncorrectable ∧
      Captured s t .memory .s (some a) (.memory .read) ∧
      t.mdc = { mode := .isolated, chen := false, cause := .vitalDamage } ∧ t.rse.reentry = none ∧
      t.rse.repair = none) ∧
  (∀ s g (i : Fin 32) w a m pl here (sp : Place) ride v, s.msq.port = some g → g.op = .auditRead i w a →
    g.live = true → MemoryLaw s → g.place = some pl → pl.cls = .constant → wrongBits (found s g m).flips = 2 →
    s.mdc.mode = .repair → s.ptl.kind = .repairAudit → s.ptl.place = some here →
    s.ptl.suspended = some (some sp, ride) → sp.word ≠ 0 → s.rse.service = none → s.rse.reentry = none →
    s.rse.repairList = [] → s.rse.repair = some v →
    s.wordAddress sp.region sp.word / 4096 * 4096 ≠ a / 4096 * 4096 →
    (∀ p, FirstVoter s p → (s.link p).tx.length < 16 → ∃ t, exec (.auditReadEnd m) s = .next t ∧ t.mdc = s.mdc ∧
      t.rse = { s.rse with
        repairList := [a / 4096 * 4096]
        repair := some
          { v with
            phase := .asking, asked := p, time := 0, written := [], triedA := p == .a, triedB := p == .b } } ∧
      t.link p = { s.link p with
        tx := (s.link p).tx ++ [.repairRequest s.dgu.tableDigest (a / 4096 * 4096)] } ∧
      (∀ q, q ≠ p → t.link q = s.link q) ∧ t.ptl.kind = .scrub ∧ t.ptl.place = some sp ∧ t.ptl.suspended = none ∧
      t.record here.region = { s.record here.region with running := false }) ∧
    ((∀ p, s.expectedVoter p = false) → ∃ t, exec (.auditReadEnd m) s = .next t ∧ NoSourceLeft t)) ∧
  ∀ s g (i : Fin 32) w a, s.msq.port = some g → g.op = .clearWrite i w a → g.live = true → MemoryLaw s →
    ∃ t, exec .clearWriteEnd s = .next t ∧ Stores t g 0 ∧ CellsKept s t (writtenKeys g) ∧ t.msq.port = none ∧
      (w + 1 < s.regionWords i → t.ptl = { s.ptl with place := some { region := i, word := w + 1 } } ∧
        t.mdc = s.mdc ∧ t.dgu = s.dgu) ∧
      (∀ j, s.regionWords i ≤ w + 1 → nextRegion s.validRegions i = some j →
        t.ptl = { s.ptl with place := some { region := j, word := 0 } } ∧ t.mdc = s.mdc ∧ t.dgu = s.dgu) ∧
      (s.regionWords i ≤ w + 1 → nextRegion s.validRegions i = none → s.mdc.mode = .clearing →
        (∀ j, s.isDigestRegion j = true → (t.record j).valid = true ∧ (t.record j).digest = 0) ∧
        t.mdc = { s.mdc with mode := .sync, chen := false } ∧ t.vtu.watchdog = some 0 ∧ t.vtu.unchecked = 0 ∧
        t.vtu.syncCount = 0 ∧ t.vtu.last = s.vtu.last ∧ t.ptl.kind = .scrub ∧ t.ptl.timer = some 0 ∧
        FlagSet t .modeChanged ∧ (RowTableLaw s → ¬ MoveWaits s →
          MoveChosen s.srm s.ret.entries (MovePermitted s .sync) False t)) ∧
      t = { s with
        mem := t.mem, msq := { s.msq with port := none }, ptl := t.ptl, dgu := t.dgu, mdc := t.mdc, vtu := t.vtu
        srm := t.srm, ret := t.ret, evu := t.evu }

/-- COPY_READ_END, FRAME_WRITE_END and RESTORING_WRITE_END (R134, R143, R155). A copy read puts the value at the read
pointer of the segment buffer, a corrected one as corrected, and draws nothing more from it once its service has
ended. A frame write and a restoring write store the frame's word at every row the group writes, and the frame's work
goes on with the next word or ends; a restoring write changes no digest, and the last one of a SEGMENT of the head
block adds its segment to those written. A move waiting to start does so at the group's end (R46); that the row chosen
stands until then and starts in whatever mode the channel is by then, REENTRY too, is the model's reading (log entry 24). -/
def Obligations.CopyAndFrameEndsMoveWords : Prop :=
  (∀ s g a m, s.msq.port = some g → g.op = .copyRead a → MemoryLaw s →
    (∀ v b, g.live = true → s.rse.service = some v → v.buffer = some b → wrongBits (found s g m).flips ≤ 1 →
      ∃ t, exec (.copyReadEnd m) s = .next t ∧
        t.rse = { s.rse with
          service := some { v with buffer := some { b with words := b.words ++ [(found s g m).data] } } } ∧
        (wrongBits (found s g m).flips = 1 → Stores t g (found s g m).data ∧ FlagSet t .memCorrected) ∧
        (wrongBits (found s g m).flips = 0 → CellsKept s t [groupKey g] ∧ WaitingStarts s t ∧
          t = { s with mem := t.mem, msq := { s.msq with port := none }, srm := t.srm, ret := t.ret, rse := t.rse })) ∧
    (g.live = false → wrongBits (found s g m).flips = 0 → ∃ t, exec (.copyReadEnd m) s = .next t ∧
      t.rse = s.rse ∧ t.msq.port = none) ∧
    (∀ pl, g.place = some pl → pl.cls = .vital → s.mdc.mode = .run → wrongBits (found s g m).flips = 2 →
      ∃ t, exec (.copyReadEnd m) s = .next t ∧ t.rse.service = none ∧
        t.mdc = { mode := .isolated, chen := false, cause := .vitalDamage } ∧
        Captured s t .memory .xSource (some a) (.memory .read))) ∧
  (∀ s g p a v m x, s.msq.port = some g → g.op = .frameWrite p a v → g.live = true → MemoryLaw s →
    (s.link p).work = some x → x.restoring = false →
    (g.updating = false ∨ wrongBits (found s g m).flips ≤ 1) →
    ∃ t, exec (.frameWriteEnd m) s = .next t ∧ Stores t g v ∧ CellsKept s t (writtenKeys g) ∧
      t.msq.port = none ∧ (x.words.length ≤ 1 → t.link p = { s.link p with work := none }) ∧
      (2 ≤ x.words.length → t.link p = { s.link p with
        work := some { x with next := x.next + 4, words := x.words.tail } }) ∧
      (∀ q, q ≠ p → t.link q = s.link q) ∧
      (g.updating = false → WaitingStarts s t ∧
        t = { s with mem := t.mem, msq := { s.msq with port := none }, srm := t.srm, ret := t.ret, lkc := t.lkc }) ∧
      ∀ pl, g.place = some pl → g.updating = true → (s.record pl.region).valid = true →
        (((t.record pl.region).digest : Nat) : Int) % (2 ^ 61 - 1) =
          ((s.record pl.region).digest + ((v.toNat : Int) - (found s g m).data.toNat) * (pl.word + 1)) %
            (2 ^ 61 - 1)) ∧
  ∀ s g p a v x, s.msq.port = some g → g.op = .restoringWrite p a v → g.live = true → MemoryLaw s →
    (s.link p).work = some x → x.restoring = true →
    ∃ t, exec .restoringWriteEnd s = .next t ∧ Stores t g v ∧ CellsKept s t (writtenKeys g) ∧ WaitingStarts s t ∧
      (2 ≤ x.words.length → t.link p = { s.link p with
        work := some { x with next := x.next + 4, words := x.words.tail } } ∧ t.rse = s.rse) ∧
      (x.words.length ≤ 1 → t.link p = { s.link p with work := none } ∧
        ∀ r, s.rse.repair = some r → s.rse.repairList.head? = some (x.first / 4096 * 4096) →
          ∃ r', t.rse = { s.rse with repair := some r' } ∧ r' = { r with written := r'.written } ∧
            ∀ k, k ∈ r'.written ↔ k ∈ r.written ∨ k = x.first % 4096 / 256) ∧
      (∀ q, q ≠ p → t.link q = s.link q) ∧
      t = { s with
        mem := t.mem, msq := { s.msq with port := none }, srm := t.srm, ret := t.ret, lkc := t.lkc
        rse := { s.rse with repair := t.rse.repair } }

/-- ROW_MOVE_COPY_END for a move in flight (R28, R29, R46 to R49). A word read clean or corrected is stored in the
spare with fresh check bits and the pointer moves on; at 256 the spare becomes ACTIVE for the logical row that the row
served, a spare moved out of is RETIRED, the row's entry is REPLACED and ROW_SUBSTITUTED fires. A word read uncorrectable
fails the move: the spare is FREE, the entry MOVE_FAILED, the event fires, and the spare is not written. Either end is an
occasion to choose the next move, which starts at the end of this group (R45, R46; log entry 24 on one chosen before). -/
def Obligations.RowMoveCopiesWords : Prop :=
  ∀ s g a m (i : Fin 16) row p r, s.msq.port = some g → g.op = .moveCopy a → g.live = true →
    g.mirror = some (s.rows - 16 + i.val) → s.srm.spares[i] = .moving row p → MoveLaw s → RowMapLaw s →
    MemoryLaw s → RowTableLaw s →
    (row < s.rows - 16 ∧ r = row ∨
      ∃ j : Fin 16, (∃ b, s.srm.spares[j] = .active r b) ∧ row = s.rows - 16 + j.val) →
    (wrongBits (found s g m).flips ≤ 1 → ∃ t, exec (.rowMoveCopyEnd m) s = .next t ∧
      memLookup t.mem ((s.rows - 16 + i.val) * 256 + g.word) = some { data := (found s g m).data, flips := 0 } ∧
      CellsKept s t (writtenKeys g) ∧ t.msq.port = none ∧
      (wrongBits (found s g m).flips = 1 → FlagSet t .memCorrected) ∧
      (p + 1 < 256 → t.srm.spares[i] = .moving row (p + 1) ∧
        (∀ j, j ≠ i → t.srm.spares[j] = s.srm.spares[j]) ∧
        (wrongBits (found s g m).flips = 0 → ¬ MoveWaits s → t = { s with
          mem := t.mem, msq := { s.msq with port := none }, srm := t.srm })) ∧
      (p + 1 = 256 → t.srm.spares[i] = .active r s.evu.msTime ∧ FlagSet t .rowSubstituted ∧
        (∀ e ∈ t.ret.entries, e.row = row → e.state = .replaced) ∧
        (∀ (j : Fin 16) b, s.srm.spares[j] = .active r b → t.srm.spares[j] = .retired b) ∧
        (wrongBits (found s g m).flips = 0 → ¬ MoveWaits s → ∃ sp : Vector Spare 16,
          sp[i] = .active r s.evu.msTime ∧
          (∀ j : Fin 16, j ≠ i → ∀ b, s.srm.spares[j] = .active r b → sp[j] = .retired b) ∧
          (∀ j : Fin 16, j ≠ i → (∀ b, s.srm.spares[j] ≠ .active r b) → sp[j] = s.srm.spares[j]) ∧
          MoveChosen { s.srm with spares := sp }
            (s.ret.entries.map (fun e => if e.row = row then { e with state := .replaced } else e))
            (PermitsMoves s.mdc.mode) False t))) ∧
    (wrongBits (found s g m).flips = 2 → (∀ pl, g.place = some pl → EventOnly s.mdc.mode pl.cls) →
      ∃ t, exec (.rowMoveCopyEnd m) s = .next t ∧ FlagSet t .moveFailed ∧ FlagSet t .memUncorrectable ∧
        Captured s t .memory .m (some a) (.memory .moveCopy) ∧
        memLookup t.mem (groupKey g) = some (found s g m) ∧ CellsKept s t [groupKey g] ∧
        (∀ e ∈ t.ret.entries, e.row = row → e.state = .moveFailed) ∧
        ((∀ e ∈ s.ret.entries, e.state ≠ .weak) → t.srm.spares[i] = .free ∧
          ∀ j, j ≠ i → t.srm.spares[j] = s.srm.spares[j]) ∧
        (¬ MoveWaits s → MoveChosen { s.srm with spares := s.srm.spares.set i .free }
          (s.ret.entries.map (fun e => if e.row = row then { e with state := .moveFailed } else e))
          (PermitsMoves s.mdc.mode) False t) ∧
        t = { s with
          mem := t.mem, msq := { s.msq with port := none }, srm := t.srm, ret := t.ret, evu := t.evu })

/-- AGEING_SWEEP (R40), COVERAGE_TIMER_EXPIRY (R75), NOTICE_PULSE_END and NOTICE_GAP_END (R169). A sweep removes the
TRACKING entries that no error has touched, clears the touched marks and makes MOVE_FAILED entries WEAK, which is an
occasion to choose a row move (R45, R46); that none is chosen while a chosen one waits to start (log entry 24), and that
one ended by RESTART does not count as in flight (log entry 25), is the model's reading. The coverage
expiry fires and counts SCRUB_LATE and restarts the timer; a rise starts a pulse on a QUIET line in PULSE style to
which the flag is routed and is left pending on another. A pulse that has lasted 20 µs ends in a gap, or with NOTICE_GAP
0 as the gap's end does; a gap that has reached the NOTICE_GAP in force ends in a pulse where a rise is pending and a
routed flag is set, and in QUIET otherwise. The marks by which a tick leaves an expiry due, the pacing ticks that time a
pulse and a gap, and that a step not due leaves the state as it is, are the model's (log entries 2, 14, 18 and 50). -/
def Obligations.TimersSweepLateAndNotice : Prop :=
  (∀ s, s.ret.sweepDue = true → ∃ t, exec .ageingSweep s = .next t ∧ t.ret.ageing = 0 ∧ t.ret.sweepDue = false ∧
    ((∀ e ∈ s.ret.entries, e.state ≠ .moveFailed) → t = { s with ret := t.ret } ∧
      t.ret.entries = (s.ret.entries.filter (fun e => e.touched || e.state != .tracking)).map
        (fun e => { e with touched := false })) ∧
    (t.ret.entries.length =
      (s.ret.entries.filter (fun e => e.touched || e.state != .tracking)).length) ∧
    (RowTableLaw s → ∀ (k : Nat) e,
      (s.ret.entries.filter (fun e => e.touched || e.state != .tracking))[k]? = some e →
      ∃ e', t.ret.entries[k]? = some e' ∧ e' = { e with touched := false, state := e'.state } ∧
        (e.state = .moveFailed → e'.state = .weak ∨ e'.state = .moving) ∧
        (e.state ≠ .moveFailed → e.state ≠ .weak → e'.state = e.state)) ∧
    (RowTableLaw s → (∃ e ∈ s.ret.entries, e.state = .moveFailed) → MoveChosen s.srm
      ((s.ret.entries.filter (fun e => e.touched || e.state != .tracking)).map (fun e => { e with
        touched := false, state := if e.state = .moveFailed then .weak else e.state }))
      (MovePermitted s s.mdc.mode) (s.msq.port ≠ none) t) ∧
    t = { s with ret := t.ret, srm := t.srm, evu := t.evu }) ∧
  (∀ s, s.ret.sweepDue = false → exec .ageingSweep s = .next s) ∧
  (∀ s n, s.ptl.lateDue = true → s.ptl.timer = some n → ∃ t, exec .coverageTimerExpiry s = .next t ∧
    t.ptl = { s.ptl with timer := some 0, lateDue := false } ∧ Fired s t [.scrubLate] ∧
    Counted s t [.scrubLate] ∧ CapturesKept s t ∧ TimeKept s t ∧
    (∀ l, s.cmi.settings.style l = .pulse → s.cmi.settings.routed 8 l = true → ¬ FlagSet s .scrubLate →
      ((s.evu.line l).state = .quiet → (t.evu.line l).state = .pulsing ∧
        (t.evu.line l).pending = (s.evu.line l).pending) ∧
      ((s.evu.line l).state ≠ .quiet → (t.evu.line l).state = (s.evu.line l).state ∧
        (t.evu.line l).pending = true)) ∧
    (∀ l, s.cmi.settings.style l = .level ∨ s.cmi.settings.routed 8 l = false ∨ FlagSet s .scrubLate →
      t.evu.line l = s.evu.line l) ∧
    t = { s with ptl := t.ptl, evu := t.evu }) ∧
  (∀ s, (s.ptl.lateDue = false ∨ s.ptl.timer = none) → exec .coverageTimerExpiry s = .next s) ∧
  (∀ s l, s.cmi.settings.style l = .pulse → (s.evu.line l).state = .pulsing → 2 ≤ (s.evu.line l).ticks →
    ∃ t, exec (.noticePulseEnd l) s = .next t ∧
      (s.cmi.settings.noticeGap ≠ 0 → t.evu.line l = { s.evu.line l with state := .holding, ticks := 0 }) ∧
      (s.cmi.settings.noticeGap = 0 → GapEnded s t l) ∧
      (∀ k, k ≠ l → t.evu.line k = s.evu.line k) ∧
      t = { s with evu := { s.evu with na := t.evu.na, nb := t.evu.nb } }) ∧
  (∀ s l, s.cmi.settings.style l = .pulse → (s.evu.line l).state = .holding →
    s.cmi.settings.noticeGap * 100 ≤ (s.evu.line l).ticks →
    ∃ t, exec (.noticeGapEnd l) s = .next t ∧
      GapEnded s t l ∧
      (∀ k, k ≠ l → t.evu.line k = s.evu.line k) ∧
      t = { s with evu := { s.evu with na := t.evu.na, nb := t.evu.nb } }) ∧
  (∀ s l, (s.cmi.settings.style l = .level ∨ (s.evu.line l).state ≠ .pulsing ∨ (s.evu.line l).ticks < 2 →
    exec (.noticePulseEnd l) s = .next s)) ∧
  ∀ s l, (s.cmi.settings.style l = .level ∨ (s.evu.line l).state ≠ .holding ∨
    (s.evu.line l).ticks < s.cmi.settings.noticeGap * 100 → exec (.noticeGapEnd l) s = .next s)

/-! ### The vote -/

/-- VOTE_DEADLINE_EXPIRY decides the OPEN record whose deadline has reached 0 (R106 to R113). With no voter the
outcome is UNCHECKED. With voters that hold the local table digest: AGREE where every region agrees with every voter,
PARTNER_DISSENT where on each region at most one voter dissents from the local value, LOCAL_DISSENT where both partners
agree against it, SPLIT where the only voter differs, NO_MAJORITY where on some region no two are equal. Each region and
the table pseudo-region, index 32, has its result by Table 7.4 (R109). Partners named by a dissent are suspect, and an
outcome but AGREE and UNCHECKED offers a VOTE capture with the lowest index of that result and the requester of R110. Each
partner expected and absent is counted absent, and lost at the second time (R107); the consequence follows the outcome
and the mode. A partner with another table digest than the local one differs from both others on every index, so two of them
give NO_MAJORITY with cause TABLE_MISMATCH (R108, R111), and one alone gives PARTNER_DISSENT where the other agrees and
NO_MAJORITY where it does not; that the first holds in the pseudo-region also where their table digests
are the same number is log entry 59. The change from SYNC to RUN is an occasion to choose a move (R45; log entries 24 and
25). That a set of a partner that does not vote counts as present for the absence count is the model's choice (log entry 63). -/
def Obligations.DeadlineDecidesByMajority : Prop :=
  ∀ s r l, (s.mdc.mode = .sync ∨ s.mdc.mode = .run ∨ s.mdc.mode = .repair) → VoteLaw s → r ∈ s.vtu.records →
    r.outcome = none → r.deadline = some 0 → r.snapshot = some l →
    (∀ q ∈ s.vtu.records, q.outcome = none → q.deadline = some 0 → q = r) →
    ∃ t r', exec .voteDeadlineExpiry s = .next t ∧ t.recordFor r.cycle = some r' ∧
      r' = { r with outcome := r'.outcome, deadline := none, results := r'.results } ∧
      (∀ p, r.expects p = true → r.setOf p = none → (s.link p).partner.absence < 2 →
        (t.link p).partner.absence = (s.link p).partner.absence + 1 ∧
        ((s.link p).partner.absence = 1 → (t.link p).partner.lost = true) ∧
        ((s.link p).partner.absence = 1 → (s.link p).partner.lost = false → FlagSet t .partnerLost) ∧
        ((s.link p).partner.absence = 0 → (t.link p).partner.lost = (s.link p).partner.lost)) ∧
      (∀ p x, r.setOf p = some x → (t.link p).partner.absence = 0) ∧
      (∀ p, r.expects p = false → r.setOf p = none →
        (t.link p).partner.absence = (s.link p).partner.absence) ∧
      r'.results.length = l.entries.length + 1 ∧
      (∀ (k : Nat) e, l.entries[k]? = some e → ∃ res, r'.results[k]? = some (e.region, res) ∧
        Table74 (VoterIs r s.mdc.mode .a (fun _ => True)) (VoterIs r s.mdc.mode .b (fun _ => True))
          (VoterIs r s.mdc.mode .a (fun x => localEquals l x e.region = true))
          (VoterIs r s.mdc.mode .b (fun y => localEquals l y e.region = true))
          (∃ x y, r.setA = some x ∧ r.setB = some y ∧ partnersEqual l x y e.region = true) res) ∧
      (∃ res, r'.results[l.entries.length]? = some (32, res) ∧
        Table74 (VoterIs r s.mdc.mode .a (fun _ => True)) (VoterIs r s.mdc.mode .b (fun _ => True))
          (VoterIs r s.mdc.mode .a (fun x => x.tableDigest = l.tableDigest))
          (VoterIs r s.mdc.mode .b (fun y => y.tableDigest = l.tableDigest))
          (∃ x y, r.setA = some x ∧ r.setB = some y ∧
            x.tableDigest = l.tableDigest ∧ y.tableDigest = l.tableDigest) res) ∧
      (∀ x y, r.setA = some x → r.setB = some y → x.votes s.mdc.mode = true → y.votes s.mdc.mode = true →
        x.tableDigest ≠ l.tableDigest → y.tableDigest ≠ l.tableDigest →
        r'.results[l.entries.length]? = some (32, .noMajority) ∧ r'.outcome = some .noMajority ∧
        FlagSet t .voteFailed ∧ t.mdc = { mode := .isolated, chen := false, cause := .tableMismatch }) ∧
      (∀ p q x y, q ≠ p → r.setOf p = some x → r.setOf q = some y → x.votes s.mdc.mode = true →
        y.votes s.mdc.mode = true → x.tableDigest ≠ l.tableDigest → y.tableDigest = l.tableDigest →
        r'.results[l.entries.length]? = some (32, .partnerDissent p) ∧ FlagSet t .partnerDissent ∧
        (t.link p).partner.suspect = true ∧ (t.link q).partner.suspect = (s.link q).partner.suspect ∧
        ((∀ e ∈ l.entries, localEquals l y e.region = true) →
          r'.outcome = some .partnerDissent ∧ DissentTolerated s t) ∧
        ((∃ e ∈ l.entries, localEquals l y e.region = false) → r'.outcome = some .noMajority ∧
          FlagSet t .voteFailed ∧ t.mdc = { mode := .isolated, chen := false, cause := .noMajority })) ∧
      (r'.outcome = some .agree ∨ r'.outcome = some .unchecked → CapturesKept s t) ∧
      (∀ (k n : Nat) res o, r'.outcome = some o → o ≠ .agree → o ≠ .unchecked → r'.results[k]? = some (n, res) →
        res.outcome = o → (∀ (k' n' : Nat) res', k' < k → r'.results[k']? = some (n', res') → res'.outcome ≠ o) →
        (∀ p, res = .partnerDissent p →
          Captured s t .vote (if p = .a then .linkA else .linkB) none (.vote o n)) ∧
        ((∀ p, res ≠ .partnerDissent p) → VoterIs r s.mdc.mode .a (fun _ => True) →
          Captured s t .vote .linkA none (.vote o n)) ∧
        ((∀ p, res ≠ .partnerDissent p) → ¬ VoterIs r s.mdc.mode .a (fun _ => True) →
          Captured s t .vote .linkB none (.vote o n))) ∧
      ((∀ p x, r.setOf p = some x → x.votes s.mdc.mode = false) → r'.outcome = some .unchecked ∧
        (s.mdc.mode = .sync → s.vtu.syncCount + 1 < s.cmi.settings.syncLimit →
          t.mdc = s.mdc ∧ t.vtu.syncCount = s.vtu.syncCount + 1) ∧
        (s.mdc.mode = .sync → s.cmi.settings.syncLimit ≤ s.vtu.syncCount + 1 →
          t.mdc = { mode := .isolated, chen := false, cause := .syncTimeout }) ∧
        (s.mdc.mode ≠ .sync → s.vtu.unchecked = 0 → t.mdc = s.mdc ∧ t.vtu.unchecked = 1) ∧
        (s.mdc.mode ≠ .sync → 1 ≤ s.vtu.unchecked →
          t.mdc = { mode := .isolated, chen := false, cause := .noVoter })) ∧
      ((∃ p x, r.setOf p = some x ∧ x.votes s.mdc.mode = true) →
        (∀ p x, r.setOf p = some x → x.votes s.mdc.mode = true → x.tableDigest = l.tableDigest ∧
          ∀ e ∈ l.entries, localEquals l x e.region = true) →
        r'.outcome = some .agree ∧ (s.mdc.mode = .sync → t.mdc = { s.mdc with mode := .run, chen := true } ∧
          t.vtu.syncCount = 0 ∧ (RowTableLaw s →
            MoveChosen s.srm s.ret.entries (MovePermitted s .run) (s.msq.port ≠ none) t)) ∧
        (s.mdc.mode ≠ .sync → t.mdc = s.mdc ∧ t.vtu.unchecked = 0)) ∧
      (∀ p x, r.setOf p = some x → x.votes s.mdc.mode = true → x.tableDigest = l.tableDigest →
        (∀ q y, q ≠ p → r.setOf q = some y → y.votes s.mdc.mode = false) →
        (∃ e ∈ l.entries, localEquals l x e.region = false) → r'.outcome = some .split ∧
          FlagSet t .voteFailed ∧ t.mdc = { mode := .isolated, chen := false, cause := .split }) ∧
      (∀ p x, r.setOf p = some x → x.votes s.mdc.mode = true → x.tableDigest ≠ l.tableDigest →
        (∀ q y, q ≠ p → r.setOf q = some y → y.votes s.mdc.mode = false) → r'.outcome = some .split ∧
          FlagSet t .voteFailed ∧ t.mdc = { mode := .isolated, chen := false, cause := .tableMismatch }) ∧
      ∀ x y, r.setA = some x → r.setB = some y → x.votes s.mdc.mode = true → y.votes s.mdc.mode = true →
        x.tableDigest = l.tableDigest → y.tableDigest = l.tableDigest →
        ((∃ e ∈ l.entries, localEquals l x e.region = false ∧ localEquals l y e.region = false ∧
            partnersEqual l x y e.region = false) →
          r'.outcome = some .noMajority ∧ FlagSet t .voteFailed ∧
          t.mdc = { mode := .isolated, chen := false, cause := .noMajority }) ∧
        ((∃ e ∈ l.entries, localEquals l x e.region = false ∧ localEquals l y e.region = false) →
          (∀ e ∈ l.entries, localEquals l x e.region = true ∨ localEquals l y e.region = true ∨
            partnersEqual l x y e.region = true) →
          r'.outcome = some .localDissent ∧ FlagSet t .voteFailed ∧
          t.mdc = { mode := .isolated, chen := false, cause := .voteDissent }) ∧
        ((∀ e ∈ l.entries, localEquals l x e.region = true ∨ localEquals l y e.region = true) →
          (∃ e ∈ l.entries, localEquals l x e.region = false ∨ localEquals l y e.region = false) →
          r'.outcome = some .partnerDissent ∧ FlagSet t .partnerDissent ∧
          ((t.link .a).partner.suspect = true ↔ (s.link .a).partner.suspect = true ∨
            ∃ e ∈ l.entries, localEquals l x e.region = false) ∧
          ((t.link .b).partner.suspect = true ↔ (s.link .b).partner.suspect = true ∨
            ∃ e ∈ l.entries, localEquals l y e.region = false) ∧
          DissentTolerated s t)

/-! ### Links -/

/-- FRAME_ARRIVAL (R85, R87, R89, R93). The first check of Table 6.2 that fails classes the frame: a bad or malformed
frame is counted for its port, a frame of another sender counts WRONG_SENDER, and either fires LINK_FAULT with a LINK
capture and is discarded; the fourth bad frame of a run in UP takes the port DOWN, with a BAD_RUN capture (R88). A good
frame resets the port's silence and bad run and enters the receive queue; in DOWN it counts toward UP, which the third of
a run makes, and only an IDLE frame is passed on before; at a full queue it is dropped, counted and flagged. That a part
whose CHAN_ID straps read 3 also fires LINK_FAULT and offers the capture, where R83 only counts, is the model's choice
(log entry 47); so is that the change of link state is made within the arrival (log entry 16), and that the capture of the
fourth bad frame is offered before that of the bad run (log entry 70). -/
def Obligations.ArrivalIsJudgedAndQueued : Prop :=
  (∀ s p w d, crcGood w = false ∧ d = LinkDetail.crc ∨
      crcGood w = true ∧ s.chanId ≠ 3 ∧ senderOf w.header = s.partnerId p ∧
        parseFrame w.header w.payload = none ∧ d = LinkDetail.malformed →
    ((s.link p).up = false ∨ (s.link p).badRun < 3) →
    ∃ t, exec (.frameArrival p w) s = .next t ∧
      t.link p = (if (s.link p).up = true then { s.link p with badRun := (s.link p).badRun + 1 }
        else { s.link p with goodRun := 0 }) ∧
      (∀ q, q ≠ p → t.link q = s.link q) ∧ Fired s t [.linkFault] ∧
      Counted s t [if p = .a then .crcBadA else .crcBadB] ∧
      Captured s t .link (if p = .a then .linkA else .linkB) none (.link d) ∧ TimeKept s t ∧
      t = { s with lkc := t.lkc, evu := t.evu }) ∧
  (∀ s p w d, crcGood w = false ∧ d = LinkDetail.crc ∨
      crcGood w = true ∧ s.chanId ≠ 3 ∧ senderOf w.header = s.partnerId p ∧
        parseFrame w.header w.payload = none ∧ d = LinkDetail.malformed →
    (s.link p).up = true → 3 ≤ (s.link p).badRun → (∀ r ∈ s.vtu.records, r.outcome ≠ none) →
    (∀ v, s.rse.service = some v → v.port ≠ p) → (∀ v, s.rse.reentry = some v → v.asked ≠ p) →
    (∀ v, s.rse.repair = some v → v.asked ≠ p ∨ v.phase = .auditing) →
    ∃ t u, exec (.frameArrival p w) s = .next t ∧ WentDown s t p ∧
      Fired s t [.linkFault, if p = .a then .linkADown else .linkBDown] ∧
      Counted s t [if p = .a then .crcBadA else .crcBadB] ∧
      Captured s u .link (if p = .a then .linkA else .linkB) none (.link d) ∧ u.vtu = s.vtu ∧ u.cmi = s.cmi ∧
      u.evu.msTime = s.evu.msTime ∧ Captured u t .link (if p = .a then .linkA else .linkB) none (.link .badRun) ∧
      t = { s with lkc := t.lkc, evu := t.evu }) ∧
  (∀ s p w, crcGood w = true → (s.chanId = 3 ∨ senderOf w.header ≠ s.partnerId p) →
    ∃ t, exec (.frameArrival p w) s = .next t ∧
      t.link p = (if (s.link p).up = true then s.link p else { s.link p with goodRun := 0 }) ∧
      (∀ q, q ≠ p → t.link q = s.link q) ∧ Fired s t [.linkFault] ∧ Counted s t [.wrongSender] ∧
      Captured s t .link (if p = .a then .linkA else .linkB) none (.link .wrongSender) ∧ TimeKept s t ∧
      t = { s with lkc := t.lkc, evu := t.evu }) ∧
  (∀ s p w f, crcGood w = true → s.chanId ≠ 3 → senderOf w.header = s.partnerId p →
    parseFrame w.header w.payload = some f →
    ((s.link p).up = true → (s.link p).rx.length < 8 → ∃ t, exec (.frameArrival p w) s = .next t ∧
      t.link p = { s.link p with silence := 0, badRun := 0, rx := (s.link p).rx ++ [f] } ∧
      (∀ q, q ≠ p → t.link q = s.link q) ∧ t = { s with lkc := t.lkc }) ∧
    ((s.link p).up = false → (s.link p).goodRun < 2 → (s.link p).rx.length < 8 →
      ∃ t, exec (.frameArrival p w) s = .next t ∧
        t.link p = { s.link p with
          goodRun := (s.link p).goodRun + 1, silence := 0, badRun := 0
          rx := if f.kind = 0 then (s.link p).rx ++ [f] else (s.link p).rx } ∧
        (∀ q, q ≠ p → t.link q = s.link q) ∧ t = { s with lkc := t.lkc }) ∧
    ((s.link p).up = false → 2 ≤ (s.link p).goodRun → (s.link p).rx.length < 8 →
      ∃ t, exec (.frameArrival p w) s = .next t ∧
        t.link p = { s.link p with
          up := true, goodRun := 0, silence := 0, badRun := 0, rx := (s.link p).rx ++ [f] } ∧
        (∀ q, q ≠ p → t.link q = s.link q) ∧ t = { s with lkc := t.lkc }) ∧
    ((s.link p).up = true → 8 ≤ (s.link p).rx.length →
      (∀ v, s.rse.reentry = some v → v.phase = .receiving → v.asked ≠ p) →
      ∃ t, exec (.frameArrival p w) s = .next t ∧
        t.link p = { s.link p with silence := 0, badRun := 0 } ∧ (∀ q, q ≠ p → t.link q = s.link q) ∧
        Fired s t [.linkFault] ∧ Counted s t [if p = .a then .rxOverrunA else .rxOverrunB] ∧
        Captured s t .link (if p = .a then .linkA else .linkB) none (.rxOverrun f.kind) ∧
        t = { s with lkc := t.lkc, evu := t.evu }) ∧
    ((s.link p).up = true → 8 ≤ (s.link p).rx.length →
      (∃ v, s.rse.reentry = some v ∧ v.phase = .receiving ∧ v.asked = p) →
      (s.mdc.mode = .reentry ∨ s.mdc.mode = .verify ∨ s.mdc.mode = .ready) →
      ∃ t, exec (.frameArrival p w) s = .next t ∧ FlagSet t .linkFault ∧ t.rse.reentry = none ∧
        t.mdc = { mode := .isolated, chen := false, cause := .overrun }))

/-- LINK_UP, LINK_DOWN and SILENCE_RESET_IN_DOWN (R87, R88). The third good frame of a run makes the port UP and is
passed on. An UP port whose silence has reached 5, or whose run of bad frames has reached 4, goes DOWN: its queues are
emptied, its partner is UNKNOWN with no cycle and no role, what is being sent goes on, the event fires with its capture;
with no vote, service, re-entry or repair that concerns it nothing else changes. A source serving there ends its service
(R141, R154); a target receiving from there is isolated with SOURCE_LOST (R148, R157); a repair that is asking there turns
to the other partner, as at a refusal (R151), and so does a re-entry that is asking there (R130). In DOWN the fifth silent tick clears the
good run. That LINK_UP carries the third good frame and makes its arrival itself, and that a step that is not due leaves
the state as it is, are the model's choices (log entries 16 and 2). -/
def Obligations.LinkStateFollowsRunsAndSilence : Prop :=
  (∀ s p w f, crcGood w = true → s.chanId ≠ 3 → senderOf w.header = s.partnerId p →
    parseFrame w.header w.payload = some f → (s.link p).up = false → 2 ≤ (s.link p).goodRun →
    (s.link p).rx.length < 8 → ∃ t, exec (.linkUp p w) s = .next t ∧
      t.link p = { s.link p with
        up := true, goodRun := 0, silence := 0, badRun := 0, rx := (s.link p).rx ++ [f] } ∧
      (∀ q, q ≠ p → t.link q = s.link q) ∧ t = { s with lkc := t.lkc }) ∧
  (∀ s p d, (s.link p).up = true → (5 ≤ (s.link p).silence ∧ d = LinkDetail.silence ∨
      (s.link p).silence < 5 ∧ 4 ≤ (s.link p).badRun ∧ d = LinkDetail.badRun) →
    ∃ t, exec (.linkDown p) s = .next t ∧
    (t.link p).up = false ∧ (t.link p).tx = [] ∧ (t.link p).rx = [] ∧ (t.link p).goodRun = 0 ∧
    (t.link p).badRun = 0 ∧ (t.link p).silence = 0 ∧ (t.link p).partner.mode = none ∧
    (t.link p).partner.cycle = none ∧ (t.link p).partner.role = .none ∧
    (t.link p).sending = (s.link p).sending ∧ FlagSet t (if p = .a then .linkADown else .linkBDown) ∧
    ((∀ r ∈ s.vtu.records, r.outcome ≠ none) → (∀ v, s.rse.service = some v → v.port ≠ p) →
      (∀ v, s.rse.reentry = some v → v.asked ≠ p) →
      (∀ v, s.rse.repair = some v → v.asked ≠ p ∨ v.phase = .auditing) →
      WentDown s t p ∧ Fired s t [if p = .a then .linkADown else .linkBDown] ∧
      Counted s t [] ∧ Captured s t .link (if p = .a then .linkA else .linkB) none (.link d) ∧
      t = { s with lkc := t.lkc, evu := t.evu }) ∧
    ((∀ r ∈ s.vtu.records, r.outcome ≠ none) → (∃ v, s.rse.service = some v ∧ v.port = p) →
      s.rse.reentry = none → s.rse.repair = none → t.rse = { s.rse with service := none } ∧
        FlagSet t .serviceEnded ∧ t.mdc = s.mdc) ∧
    ((∀ r ∈ s.vtu.records, r.outcome ≠ none) → s.rse.service = none →
      (∃ v, s.rse.reentry = some v ∧ v.asked = p ∧ v.phase = .receiving) →
      (s.mdc.mode = .reentry ∨ s.mdc.mode = .verify ∨ s.mdc.mode = .ready) →
      t.mdc = { mode := .isolated, chen := false, cause := .sourceLost } ∧ t.rse.reentry = none)) ∧
  (∀ s p q v, (s.link p).up = true → (5 ≤ (s.link p).silence ∨ 4 ≤ (s.link p).badRun) →
    (∀ r ∈ s.vtu.records, r.outcome ≠ none) → s.rse.service = none → s.rse.reentry = none →
    s.rse.repair = some v → s.mdc.mode = .repair → v.asked = p → v.tried p = true → q ≠ p →
    (v.phase = .asking → RepairRefused s (.linkDown p) v p q []) ∧
    (v.phase = .receiving → ∃ t, exec (.linkDown p) s = .next t ∧
      t.mdc = { mode := .isolated, chen := false, cause := .sourceLost } ∧ t.rse.repair = none ∧
      t.rse.repairList = [])) ∧
  (∀ s p q v, (s.link p).up = true → (5 ≤ (s.link p).silence ∨ 4 ≤ (s.link p).badRun) →
    (∀ r ∈ s.vtu.records, r.outcome ≠ none) → s.rse.service = none → s.rse.repair = none →
    s.rse.reentry = some v → s.mdc.mode = .reentry → v.asked = p → v.phase = .asking → v.tried p = true → q ≠ p →
    CopyRefused s (.linkDown p) v q) ∧
  (∀ s p, (s.link p).up = false → 5 ≤ (s.link p).silence → ∃ t, exec (.silenceResetInDown p) s = .next t ∧
    t.link p = { s.link p with goodRun := 0, silence := 0 } ∧ (∀ q, q ≠ p → t.link q = s.link q) ∧
    t = { s with lkc := t.lkc }) ∧
  ∀ s p, (s.link p).silence < 5 → exec (.silenceResetInDown p) s = .next s ∧
    ((s.link p).badRun < 4 → exec (.linkDown p) s = .next s)

/-- IDLE_FRAME_SEND, TX_FRAME_START and TX_FRAME_END (R84, R90, R91). An IDLE frame called for on a free port carries
the mode, L and the role of this moment. A free transmitter takes the head of its queue; the frame on the wire carries
the sender's identity and is sent as it stood in the queue. The end of a frame frees the transmitter. That the IDLE frame
is sent by a step of its own after the tick that calls for it, and leaves the mark of a frame begun as it is so that an
idle port sends one every ms, and that a step that is not due leaves the state as it is, are the model's choices (log
entries 17 and 2). -/
def Obligations.TransmitterSendsFrames : Prop :=
  (∀ s p, (s.link p).idleDue = true → (s.link p).sending = none → (s.link p).tx = [] → s.chanId ≠ 3 →
    ∃ t, exec (.idleFrameSend p) s = .next t ∧
      t.link p = { s.link p with
        idleDue := false
        sending := some ((Frame.idle (some s.mdc.mode) s.vtu.last s.role).wire s.chanId.toNat) } ∧
      (∀ q, q ≠ p → t.link q = s.link q) ∧ t = { s with lkc := t.lkc }) ∧
  (∀ s p, (s.link p).sending ≠ none ∨ (s.link p).tx ≠ [] ∨ s.chanId = 3 →
    exec (.idleFrameSend p) s = .next s) ∧
  (∀ (s : State) v, s.rse.service = some v → s.role =
    (match v.kind with | .reentry => .source | .repair => .repairSource)) ∧
  (∀ (s : State), s.rse.service = none →
    (s.rse.reentry ≠ none → s.role = .target) ∧
    (s.rse.reentry = none → s.rse.repair ≠ none → s.role = .repairTarget) ∧
    (s.rse.reentry = none → s.rse.repair = none → s.role = .none)) ∧
  (∀ s p f fs, (s.link p).sending = none → (s.link p).tx = f :: fs → ∃ t, exec (.txFrameStart p) s = .next t ∧
    t.link p = { s.link p with
      sending := some (f.wire s.chanId.toNat), tx := fs, begun := true, idleDue := false } ∧
    (∀ q, q ≠ p → t.link q = s.link q) ∧ t = { s with lkc := t.lkc }) ∧
  (∀ s p, (s.link p).sending ≠ none ∨ (s.link p).tx = [] → exec (.txFrameStart p) s = .next s) ∧
  ∀ s p, ∃ t, exec (.txFrameEnd p) s = .next t ∧ t.link p = { s.link p with sending := none } ∧
    (∀ q, q ≠ p → t.link q = s.link q) ∧ t = { s with lkc := t.lkc }

/-- SERVICE_QUEUE_MOVE, SEGMENT_ENTRY_JOIN and COPY_END_ENTRY_JOIN (R92, R134, R139, R140, R153, R154). The head of the
service queue moves only while 4 places of the transmit queue are free on an UP port; a REPAIR_END that moves ends the
service. A full buffer joins as a SEGMENT while fewer than 2 are queued: after segment 15 its block is SENT, and a
repair service queues its REPAIR_END. COPY_END joins when the walk is done and nothing is left to send; that it joins
once for each completion is the model's reading (log entry 21), and that the next block is taken within the join of
segment 15 is its choice (log entry 20). -/
def Obligations.ServiceQueueJoinsAndMoves : Prop :=
  (∀ s v f rest, s.rse.service = some v → v.queue = f :: rest →
    ((s.link v.port).up = true → (s.link v.port).tx.length ≤ 12 → f.kind ≠ 11 →
      ∃ t, exec .serviceQueueMove s = .next t ∧
        t.rse = { s.rse with service := some { v with queue := rest } } ∧
        t.link v.port = { s.link v.port with tx := (s.link v.port).tx ++ [f] } ∧
        (∀ q, q ≠ v.port → t.link q = s.link q) ∧ t = { s with rse := t.rse, lkc := t.lkc }) ∧
    ((s.link v.port).up = true → (s.link v.port).tx.length ≤ 12 → f.kind = 11 →
      ∃ t, exec .serviceQueueMove s = .next t ∧ t.rse = { s.rse with service := none } ∧
        t.link v.port = { s.link v.port with tx := (s.link v.port).tx ++ [f] } ∧
        (∀ q, q ≠ v.port → t.link q = s.link q) ∧ Fired s t [.serviceEnded] ∧ Counted s t [] ∧
        (∀ g, s.msq.port = some g → ∃ l, t.msq.port = some { g with live := l }) ∧
        (s.msq.port = none → t.msq.port = none) ∧
        t = { s with rse := t.rse, lkc := t.lkc, msq := { s.msq with port := t.msq.port }, evu := t.evu }) ∧
    ((s.link v.port).up = false ∨ 13 ≤ (s.link v.port).tx.length → exec .serviceQueueMove s = .next s)) ∧
  (∀ s v b, s.rse.service = some v → v.buffer = some b → b.words.length = 64 →
    (v.queue.countP (fun f => f.kind == 5) < 2 →
      ∃ t v', exec .segmentEntryJoin s = .next t ∧ t = { s with rse := { s.rse with service := some v' } } ∧
        (b.seg ≠ 15 → v' = { v with
          queue := v.queue ++ [.segment (b.block + b.seg * 256) b.words]
          buffer := some { block := b.block, seg := b.seg + 1, words := [] } }) ∧
        (b.seg = 15 → v'.queue = v.queue ++ .segment (b.block + b.seg * 256) b.words ::
            (if v.kind = .repair then [.repairEnd b.block] else []) ∧
          v'.kind = v.kind ∧ v'.port = v.port ∧ v'.map.map (·.1) = v.map.map (·.1) ∧
          (∀ e ∈ v'.map, e.1 = b.block → e.2 = .sent ∨ v'.buffer.map (·.block) = some b.block) ∧
          (v.walk ≥ v.map.length → v.resend = [] → v'.buffer = none ∧
            v'.map = v.map.map (fun e => if e.1 = b.block then (e.1, .sent) else e)) ∧
          ∀ n st, v.map[v.walk]? = some (n, st) → n ≠ b.block →
            v'.buffer = some { block := n, seg := 0, words := [] } ∧ v'.walk = v.walk + 1)) ∧
    (2 ≤ v.queue.countP (fun f => f.kind == 5) → exec .segmentEntryJoin s = .next s)) ∧
  (∀ s v, s.rse.service = some v → v.kind = .reentry → v.map.length ≤ v.walk → v.resend = [] →
    v.buffer = none → (∀ e ∈ v.map, e.2 ≠ .sending) → (∀ f ∈ v.queue, f.kind ≠ 5 ∧ f.kind ≠ 7) →
    v.endQueued = false → ∃ t, exec .copyEndEntryJoin s = .next t ∧
      t = { s with rse := { s.rse with
        service := some { v with queue := v.queue ++ [.copyEnd], endQueued := true } } }) ∧
  ∀ s v, s.rse.service = some v → (v.kind = .repair ∨ v.walk < v.map.length ∨ v.resend ≠ [] ∨ v.buffer ≠ none ∨
    (∃ f ∈ v.queue, f.kind = 5 ∨ f.kind = 7)) → exec .copyEndEntryJoin s = .next s

/-! ### Frames taken from the receive queues -/

/-- IDLE (R95, R141, R148, R151, R154): the partner entry takes mode, cycle and role. Where no service, re-entry or
repair stands on that port nothing else changes. A source ends its service when the target no longer announces that it
is one; a target in RECEIVING is isolated with SOURCE_LOST when its source announces a mode other than RUN or a role
other than SOURCE. A repair target takes a mode other than RUN of the port asked, before AUDITING, as a refusal, with
ABANDON sent there (R151, R157). A port with a frame in work takes none (R94); that the step leaves the state as it is where no frame waits
is the model's choice (log entry 2). -/
def Obligations.IdleUpdatesPartner : Prop :=
  (∀ s p m c r, NextFrame s p (.idle m c r) → ∃ t, exec (.idle p) s = .next t ∧
    (t.link p).partner = { (s.link p).partner with mode := m, cycle := c, role := r } ∧
    (t.link p).rx = (s.link p).rx.tail ∧
    ((∀ v, s.rse.service = some v → v.port ≠ p) →
      (∀ v, s.rse.reentry = some v → v.asked ≠ p ∨ v.phase = .asking) →
      (∀ v, s.rse.repair = some v → v.asked ≠ p ∨ v.phase = .auditing ∨ m = some .run) →
      t.link p = { s.link p with
        rx := (s.link p).rx.tail
        partner := { (s.link p).partner with mode := m, cycle := c, role := r } } ∧
      (∀ q, q ≠ p → t.link q = s.link q) ∧ t = { s with lkc := t.lkc }) ∧
    (∀ v, s.rse.service = some v → v.port = p → s.rse.reentry = none → s.rse.repair = none →
      ((v.kind = .reentry ∧ (m = some .reentry ∨ m = some .verify ∨ m = some .ready) ∨
          v.kind = .repair ∧ m = some .repair) → t.rse = s.rse ∧ Fired s t []) ∧
      ((v.kind = .reentry ∧ m ≠ some .reentry ∧ m ≠ some .verify ∧ m ≠ some .ready ∨
          v.kind = .repair ∧ m ≠ some .repair) →
        t.rse = { s.rse with service := none } ∧ Fired s t [.serviceEnded] ∧ t.mdc = s.mdc)) ∧
    (∀ v, s.rse.reentry = some v → v.asked = p → v.phase = .receiving → s.rse.service = none →
      s.rse.repair = none → (s.mdc.mode = .reentry ∨ s.mdc.mode = .verify ∨ s.mdc.mode = .ready) →
      (m ≠ some .run ∨ r ≠ .source →
        t.mdc = { mode := .isolated, chen := false, cause := .sourceLost } ∧ t.rse.reentry = none) ∧
      (m = some .run → r = .source → t.mdc = s.mdc ∧ t.rse = s.rse))) ∧
  (∀ s p q m c r v, NextFrame s p (.idle m c r) → m ≠ some .run → s.rse.service = none → s.rse.reentry = none →
    s.rse.repair = some v → v.phase ≠ .auditing → s.mdc.mode = .repair → v.asked = p → v.tried p = true → q ≠ p →
    RepairRefused s (.idle p) v p q (queued (s.link p) (.abandon 19))) ∧
  ∀ s p, (s.link p).work ≠ none ∨ (s.link p).rx = [] → exec (.idle p) s = .next s

/-- DIGEST (R95, R104, R105, R145, R147). The partner entry takes mode and cycle, its lost flag is cleared and its
absence count is 0. In SYNC, RUN and REPAIR the frame is stored for cycle L, L + 1 or L + 2 while that record is OPEN,
made where there is none, and counted STALE_DIGEST otherwise. At a target whose audits are complete it is the mirror
check: agreement in VERIFY leads to READY with JOIN_READY, agreement in READY at the join cycle to RUN with L at that
cycle, and a difference isolates with MIRROR_MISMATCH. A source that announces a mode other than RUN isolates its
target in RECEIVING with SOURCE_LOST (R148), which the model checks before the mirror check (log entry 64); a repair
target takes it, of the port asked and before AUDITING, as a refusal, with ABANDON sent there (R151, R157). A source ends its
service when the target announces by a DIGEST that it is one no longer (R141, R154). The changes into READY and RUN are
occasions to choose a row move (R45), as log entries 24 and 25 read it. -/
def Obligations.DigestIsStoredOrMirrored : Prop :=
  (∀ s p m mode td es, NextFrame s p (.digest m mode td es) →
    (∀ v, s.rse.service = some v → v.port ≠ p ∨ StaysTarget v mode) →
    (∀ v, s.rse.reentry = some v → v.asked ≠ p ∨ v.phase = .asking) →
    (∀ v, s.rse.repair = some v → v.asked ≠ p ∨ v.phase = .auditing ∨ mode = some .run) →
    ∃ t, exec (.digest p) s = .next t ∧
      (t.link p).partner.mode = mode ∧ (t.link p).partner.cycle = some m ∧
      (t.link p).partner.role = (s.link p).partner.role ∧ (t.link p).partner.lost = false ∧
      (t.link p).partner.absence = 0 ∧ (t.link p).rx = (s.link p).rx.tail ∧
      ((s.mdc.mode ≠ .sync ∧ s.mdc.mode ≠ .run ∧ s.mdc.mode ≠ .repair) ∨ s.vtu.last = none →
        (∀ q, q ≠ p → t.link q = s.link q) ∧ t = { s with lkc := t.lkc }) ∧
      (∀ l, (s.mdc.mode = .sync ∨ s.mdc.mode = .run ∨ s.mdc.mode = .repair) → s.vtu.last = some l → VoteLaw s →
        (∀ r, r ∈ s.vtu.records → r.cycle = m → r.outcome = none → ∃ r', t.recordFor m = some r' ∧
          r'.setOf p = some { mode := mode, tableDigest := td, entries := es } ∧
          r'.snapshot = r.snapshot ∧ (∀ q, q ≠ p → r'.setOf q = r.setOf q) ∧
          (m ≠ l → r'.outcome = none ∧ t.mdc = s.mdc) ∧
          (m = l → (∀ q, q ≠ p → r.expects q = true → r.setOf q ≠ none) → r'.outcome ≠ none) ∧
          (m = l → (∃ q, q ≠ p ∧ r.expects q = true ∧ r.setOf q = none) → r'.outcome = none ∧
            t.mdc = s.mdc)) ∧
        ((∀ r ∈ s.vtu.records, r.cycle ≠ m) → (m = l + 1 ∨ m = l + 2) →
          ∃ r', t.recordFor m = some r' ∧ r'.outcome = none ∧ r'.snapshot = none ∧
            r'.setOf p = some { mode := mode, tableDigest := td, entries := es } ∧
            t.vtu = { s.vtu with records := t.vtu.records } ∧ t = { s with lkc := t.lkc, vtu := t.vtu }) ∧
        ((∃ r ∈ s.vtu.records, r.cycle = m ∧ r.outcome ≠ none) ∨
            ((∀ r ∈ s.vtu.records, r.cycle ≠ m) ∧ m ≠ l + 1 ∧ m ≠ l + 2) →
          t = { s with lkc := t.lkc, evu := t.evu } ∧ Fired s t [] ∧ Counted s t [.staleDigest]))) ∧
  (∀ s p m mode td es v, NextFrame s p (.digest m mode td es) → s.rse.service = some v → v.port = p →
    ¬ StaysTarget v mode → s.rse.reentry = none → s.rse.repair = none → ∃ t, exec (.digest p) s = .next t ∧
      t.rse.service = none ∧ FlagSet t .serviceEnded ∧
      ((∀ r ∈ s.vtu.records, r.cycle = m → r.outcome ≠ none) → t.rse = { s.rse with service := none } ∧
        t.mdc = s.mdc ∧ Fired s t [.serviceEnded])) ∧
  (∀ s p m mode td es v, NextFrame s p (.digest m mode td es) → mode ≠ some .run → s.rse.service = none →
    s.rse.repair = none → s.vtu.last = none → s.rse.reentry = some v → v.phase = .receiving → v.asked = p →
    (s.mdc.mode = .reentry ∨ s.mdc.mode = .verify ∨ s.mdc.mode = .ready) →
    ∃ t, exec (.digest p) s = .next t ∧ t.mdc = { mode := .isolated, chen := false, cause := .sourceLost } ∧
      t.rse.reentry = none) ∧
  (∀ s p q m mode td es v, NextFrame s p (.digest m mode td es) → mode ≠ some .run → s.rse.service = none →
    s.rse.reentry = none → s.rse.repair = some v → v.phase ≠ .auditing → s.mdc.mode = .repair → v.asked = p →
    v.tried p = true → q ≠ p → VoteLaw s → (∃ r ∈ s.vtu.records, r.cycle = m ∧ r.outcome ≠ none) →
    RepairRefused s (.digest p) v p q (queued (s.link p) (.abandon 19))) ∧
  ∀ s p m mode td es v, NextFrame s p (.digest m mode td es) → s.rse.service = none → s.rse.repair = none →
    s.vtu.last = none → s.rse.reentry = some v → v.phase = .receiving → v.asked = p → mode = some .run →
    (v.auditsDone = false → ∃ t, exec (.digest p) s = .next t ∧ t.mdc = s.mdc ∧
      t.rse = { s.rse with reentry := some { v with source := some m } } ∧ t = { s with lkc := t.lkc, rse := t.rse }) ∧
    (v.auditsDone = true →
      (td = s.dgu.tableDigest ∧ (∀ i, s.isDigestRegion i = true → (s.record i).valid = true ∧
        ∃ e, entryFor es i.val = some e ∧ e.valid = true ∧ e.digest = (s.record i).digest) →
        (s.mdc.mode = .verify → ∃ t, exec (.digest p) s = .next t ∧
          t.mdc = { s.mdc with mode := .ready, chen := false } ∧ FlagSet t .joinReady ∧
          t.rse = { s.rse with reentry := some { v with source := some m } } ∧ t.ptl.kind = .scrub ∧
          (RowTableLaw s →
            MoveChosen s.srm s.ret.entries (MovePermitted s .ready) (s.msq.port ≠ none) t)) ∧
        (s.mdc.mode = .ready → ∀ n, v.join = some n →
          (m = n → ∃ t, exec (.digest p) s = .next t ∧ t.mdc = { s.mdc with mode := .run, chen := true } ∧
            t.vtu = { s.vtu with last := some n, watchdog := some 0, unchecked := 0 } ∧
            t.rse = { s.rse with reentry := none } ∧ FlagSet t .serviceEnded ∧ FlagSet t .modeChanged ∧
            (t.link p).partner.role = .none ∧ (t.link p).tx = queued (s.link p) (.joined n) ∧
            (RowTableLaw s →
              MoveChosen s.srm s.ret.entries (MovePermitted s .run) (s.msq.port ≠ none) t)) ∧
          (1 ≤ (m - n).toNat → (m - n).toNat < 2 ^ 31 → ∃ t, exec (.digest p) s = .next t ∧ t.mdc = s.mdc ∧
            t.rse = { s.rse with reentry := some { v with source := some m, join := none } } ∧
            FlagSet t .joinMissed) ∧
          (2 ^ 31 ≤ (m - n).toNat → ∃ t, exec (.digest p) s = .next t ∧ t.mdc = s.mdc ∧
            t.rse = { s.rse with reentry := some { v with source := some m } } ∧ Fired s t []))) ∧
      ((td ≠ s.dgu.tableDigest ∨ ∃ i, s.isDigestRegion i = true ∧ ((s.record i).valid = false ∨
          ∀ e, entryFor es i.val = some e → e.valid = false ∨ e.digest ≠ (s.record i).digest)) →
        (s.mdc.mode = .verify ∨ s.mdc.mode = .ready) → ∃ t, exec (.digest p) s = .next t ∧
          t.mdc = { mode := .isolated, chen := false, cause := .mirrorMismatch } ∧ t.rse.reentry = none ∧
          (t.link p).tx = queued (s.link p) (.abandon 15)))

/-- COPY_REQUEST, REPAIR_REQUEST and JOINED taken by a source (R132, R141, R152). In RUN with no service a request
with the own table digest starts one: a re-entry is accepted with COPY_ACCEPT where it enters the queue, with every
block of every digest region UNSENT; a repair is not answered but by its SEGMENTs. Any other request is refused with
its reason. A COPY_REQUEST from the target port of any service, and a REPAIR_REQUEST from that of a repair service, first
ends that service and is then judged; that a REPAIR_REQUEST does not end a re-entry service and is refused with BUSY is
log entry 49. JOINED from the target port ends a re-entry service, and does nothing without one. -/
def Obligations.SourceJudgesRequests : Prop :=
  (∀ s p td, NextFrame s p (.copyRequest td) → s.rse.service = none →
    (s.mdc.mode = .run → td = s.dgu.tableDigest → (s.link p).up = true → (s.link p).tx.length < 16 →
      ∃ t, exec (.copyRequest p) s = .next t ∧ t.rse = { s.rse with
          service := some
            { kind := .reentry, port := p, map := s.digestBlocks.map (fun b => (b, .unsent)), walk := 0,
                buffer := none, queue := [], resend := [], endQueued := false } } ∧
        t.link p = { s.link p with rx := (s.link p).rx.tail, tx := (s.link p).tx ++ [.copyAccept] } ∧
        (∀ q, q ≠ p → t.link q = s.link q) ∧ Fired s t [.serviceStarted] ∧ Counted s t [] ∧
        t = { s with rse := t.rse, lkc := t.lkc, evu := t.evu }) ∧
    (s.mdc.mode = .run → td = s.dgu.tableDigest → (s.link p).up = true → 16 ≤ (s.link p).tx.length →
      ∃ t, exec (.copyRequest p) s = .next t ∧ t.rse = s.rse ∧ Fired s t [] ∧ Counted s t [.txDrop]) ∧
    (s.mdc.mode ≠ .run ∨ td ≠ s.dgu.tableDigest → ∃ t, exec (.copyRequest p) s = .next t ∧
      t.link p = { s.link p with
        rx := (s.link p).rx.tail
        tx := queued (s.link p) (.copyRefuse (if s.mdc.mode = .run then 3 else 1)) } ∧
      (∀ q, q ≠ p → t.link q = s.link q) ∧ Fired s t [] ∧ Counted s t (dropped (s.link p)) ∧
      t = { s with lkc := t.lkc, evu := t.evu })) ∧
  (∀ s p td v, NextFrame s p (.copyRequest td) → s.rse.service = some v → v.port ≠ p → s.mdc.mode = .run →
    ∃ t, exec (.copyRequest p) s = .next t ∧ t.rse = s.rse ∧
      (t.link p).tx = queued (s.link p) (.copyRefuse 2) ∧ t = { s with lkc := t.lkc, evu := t.evu }) ∧
  (∀ s p td v, NextFrame s p (.copyRequest td) → s.rse.service = some v → v.port = p → s.mdc.mode = .run →
    td = s.dgu.tableDigest → (s.link p).up = true → (s.link p).tx.length < 16 →
    ∃ t, exec (.copyRequest p) s = .next t ∧ FlagSet t .serviceEnded ∧ FlagSet t .serviceStarted ∧
      t.rse = { s.rse with
        service := some
          { kind := .reentry, port := p, map := s.digestBlocks.map (fun b => (b, .unsent)), walk := 0,
                buffer := none, queue := [], resend := [], endQueued := false } }) ∧
  (∀ s p td block, NextFrame s p (.repairRequest td block) → s.rse.service = none →
    (s.mdc.mode = .run → td = s.dgu.tableDigest → block % 4096 = 0 →
      (∃ pl, s.placeOf block = some pl ∧ pl.cls = .constant) → ∃ t, exec (.repairRequest p) s = .next t ∧
        t.rse = { s.rse with
          service := some
            { kind := .repair, port := p, map := [(block, .unsent)], walk := 0, buffer := none, queue := [],
                resend := [], endQueued := false } } ∧
        t.link p = { s.link p with rx := (s.link p).rx.tail } ∧ (∀ q, q ≠ p → t.link q = s.link q) ∧
        Fired s t [.serviceStarted] ∧ Counted s t [] ∧ t = { s with rse := t.rse, lkc := t.lkc, evu := t.evu }) ∧
    (s.mdc.mode ≠ .run ∨ td ≠ s.dgu.tableDigest ∨ block % 4096 ≠ 0 ∨
      (∀ pl, s.placeOf block = some pl → pl.cls ≠ .constant) → ∃ t, exec (.repairRequest p) s = .next t ∧
        (t.link p).tx = queued (s.link p) (.copyRefuse (if s.mdc.mode = .run then 3 else 1)) ∧
        Fired s t [] ∧ t = { s with lkc := t.lkc, evu := t.evu })) ∧
  (∀ s p td v, NextFrame s p (.copyRequest td) → s.rse.service = some v → v.port = p →
    (s.mdc.mode ≠ .run ∨ td ≠ s.dgu.tableDigest) → ∃ t, exec (.copyRequest p) s = .next t ∧
      t.rse = { s.rse with service := none } ∧ FlagSet t .serviceEnded ∧ t.mdc = s.mdc ∧
      (t.link p).tx = queued (s.link p) (.copyRefuse (if s.mdc.mode = .run then 3 else 1))) ∧
  (∀ s p td block v, NextFrame s p (.repairRequest td block) → s.rse.service = some v →
    (v.port ≠ p ∨ v.kind = .reentry → ∃ t, exec (.repairRequest p) s = .next t ∧ t.rse = s.rse ∧
      (t.link p).tx = queued (s.link p) (.copyRefuse (if s.mdc.mode = .run then 2 else 1)) ∧
      (∀ q, q ≠ p → t.link q = s.link q) ∧ Fired s t [] ∧ Counted s t (dropped (s.link p)) ∧
      t = { s with lkc := t.lkc, evu := t.evu }) ∧
    (v.port = p → v.kind = .repair → ∃ t, exec (.repairRequest p) s = .next t ∧ FlagSet t .serviceEnded ∧
      t.mdc = s.mdc ∧
      (s.mdc.mode = .run → td = s.dgu.tableDigest → block % 4096 = 0 →
        (∃ pl, s.placeOf block = some pl ∧ pl.cls = .constant) → FlagSet t .serviceStarted ∧
        t.link p = { s.link p with rx := (s.link p).rx.tail } ∧
        t.rse = { s.rse with
          service := some
            { kind := .repair, port := p, map := [(block, .unsent)], walk := 0, buffer := none, queue := [],
                resend := [], endQueued := false } }) ∧
      (s.mdc.mode ≠ .run ∨ td ≠ s.dgu.tableDigest ∨ block % 4096 ≠ 0 ∨
          (∀ pl, s.placeOf block = some pl → pl.cls ≠ .constant) →
        t.rse = { s.rse with service := none } ∧
        (t.link p).tx = queued (s.link p) (.copyRefuse (if s.mdc.mode = .run then 3 else 1))))) ∧
  (∀ s p n, NextFrame s p (.joined n) → s.rse.service = none → ∃ t, exec (.joined p) s = .next t ∧
    t.link p = { s.link p with rx := (s.link p).rx.tail } ∧ (∀ q, q ≠ p → t.link q = s.link q) ∧
    t = { s with lkc := t.lkc }) ∧
  ∀ s p n v, NextFrame s p (.joined n) → s.rse.service = some v →
    (v.port = p → v.kind = .reentry → ∃ t, exec (.joined p) s = .next t ∧
      t.rse = { s.rse with service := none } ∧ t.link p = { s.link p with rx := (s.link p).rx.tail } ∧
      (∀ q, q ≠ p → t.link q = s.link q) ∧ Fired s t [.serviceEnded] ∧ Counted s t [] ∧
      (∀ g, s.msq.port = some g → ∃ l, t.msq.port = some { g with live := l }) ∧
      (s.msq.port = none → t.msq.port = none) ∧
      t = { s with rse := t.rse, lkc := t.lkc, msq := { s.msq with port := t.msq.port }, evu := t.evu }) ∧
    (v.port ≠ p ∨ v.kind = .repair → ∃ t, exec (.joined p) s = .next t ∧
      t.link p = { s.link p with rx := (s.link p).rx.tail } ∧ t = { s with lkc := t.lkc })

/-- COPY_ACCEPT, COPY_REFUSE and ABANDON at a target, and the timeouts (R130, R131, R148, R151, R156, R157). An accept
from the port asked makes a re-entry RECEIVING; any other accept is answered with ABANDON. Of one at a repair target that
asks or receives, from a port it has not asked, R131 says so and R151 that it is ignored, and which it does is a free
value; that R151 does not speak of AUDITING is the model's reading (log entry 22). A refusal, an ABANDON while asking, and
the tenth ms ask the other eligible partner not yet tried, the tenth ms with an ABANDON first; without one the channel is
isolated with NO_SOURCE. In RECEIVING an ABANDON isolates with OVERRUN or SOURCE_LOST. A repair takes a refusal or an
ABANDON while asking, and one with reason SERVICE_ENDED in RECEIVING, as a refusal; another reason in RECEIVING isolates
with SOURCE_LOST, and an ABANDON in AUDITING changes nothing (R151, R157). Either frame from another port than the asked
one, or with no record at all, changes nothing, and so does a COPY_REFUSE in another phase than ASKING (R130, R142, R151).
A repair whose answer stays out asks the same port again. That a timeout that is not due leaves the state as it is is the
model's choice (log entry 2). -/
def Obligations.TargetTakesAnswers : Prop :=
  (∀ s p v, NextFrame s p .copyAccept → s.rse.reentry = some v →
    (v.phase = .asking → v.asked = p → ∃ t, exec (.copyAccept p) s = .next t ∧
      t.rse = { s.rse with reentry := some { v with phase := .receiving } } ∧
      t.link p = { s.link p with rx := (s.link p).rx.tail } ∧ (∀ q, q ≠ p → t.link q = s.link q) ∧
      Fired s t [.serviceStarted] ∧ Counted s t [] ∧ t = { s with rse := t.rse, lkc := t.lkc, evu := t.evu }) ∧
    (v.phase = .receiving ∨ v.asked ≠ p → ∃ t, exec (.copyAccept p) s = .next t ∧
      t.link p = { s.link p with rx := (s.link p).rx.tail, tx := queued (s.link p) (.abandon 19) } ∧
      (∀ q, q ≠ p → t.link q = s.link q) ∧ t = { s with lkc := t.lkc, evu := t.evu })) ∧
  (∀ s p, NextFrame s p .copyAccept → s.rse.reentry = none →
    (∀ v, s.rse.repair = some v → v.asked = p ∨ v.phase = .auditing) →
    ∃ t, exec (.copyAccept p) s = .next t ∧
      t.link p = { s.link p with rx := (s.link p).rx.tail, tx := queued (s.link p) (.abandon 19) } ∧
      (∀ q, q ≠ p → t.link q = s.link q) ∧ t = { s with lkc := t.lkc, evu := t.evu }) ∧
  (∀ s p v, NextFrame s p .copyAccept → s.rse.reentry = none → s.rse.repair = some v → v.asked ≠ p →
    v.phase ≠ .auditing →
    ∃ t, exec (.copyAccept p) s = .next t ∧
      t.link p = { s.link p with
        rx := (s.link p).rx.tail
        tx := if Config.strayAcceptAnswered then queued (s.link p) (.abandon 19) else (s.link p).tx } ∧
      (∀ q, q ≠ p → t.link q = s.link q) ∧ Fired s t [] ∧ CapturesKept s t ∧
      Counted s t (if Config.strayAcceptAnswered then dropped (s.link p) else []) ∧
      (Config.strayAcceptAnswered = false → t.evu = s.evu) ∧ t = { s with lkc := t.lkc, evu := t.evu }) ∧
  (∀ s p q v c, s.rse.reentry = none → s.rse.service = none → s.rse.repair = some v → s.mdc.mode = .repair →
    v.asked = p → v.tried p = true → q ≠ p →
    (v.phase = .asking → NextFrame s p (.copyRefuse c) → RepairRefused s (.copyRefuse p) v p q (s.link p).tx) ∧
    (v.phase = .asking → NextFrame s p (.abandon c) → RepairRefused s (.abandon p) v p q (s.link p).tx) ∧
    (v.phase = .receiving → NextFrame s p (.abandon 19) → RepairRefused s (.abandon p) v p q (s.link p).tx) ∧
    (v.phase = .receiving → NextFrame s p (.abandon c) → c ≠ 19 → ∃ t, exec (.abandon p) s = .next t ∧
      t.mdc = { mode := .isolated, chen := false, cause := .sourceLost } ∧ t.rse.repair = none ∧
      t.rse.repairList = [])) ∧
  (∀ s p c i, (i = Instr.abandon p → ∀ v, s.rse.service = some v → v.port ≠ p) →
    (∀ v, s.rse.reentry = some v → v.asked ≠ p ∨ i = Instr.copyRefuse p ∧ v.phase = .receiving) →
    (∀ v, s.rse.repair = some v →
      v.asked ≠ p ∨ i = Instr.abandon p ∧ v.phase = .auditing ∨ i = Instr.copyRefuse p ∧ v.phase ≠ .asking) →
    (i = Instr.abandon p ∧ NextFrame s p (.abandon c) ∨ i = Instr.copyRefuse p ∧ NextFrame s p (.copyRefuse c)) →
    ∃ t, exec i s = .next t ∧ t.link p = { s.link p with rx := (s.link p).rx.tail } ∧
      (∀ q, q ≠ p → t.link q = s.link q) ∧ t = { s with lkc := t.lkc }) ∧
  (∀ s p q v c i, s.rse.reentry = some v → v.phase = .asking → v.asked = p → s.rse.service = none →
    s.rse.repair = none → s.mdc.mode = .reentry → q ≠ p → v.tried p = true →
    (i = Instr.copyRefuse p ∧ NextFrame s p (.copyRefuse c) ∨ i = Instr.abandon p ∧ NextFrame s p (.abandon c) ∨
      i = Instr.copyRequestTimeout ∧ 10 ≤ v.time) →
    (s.eligibleSource q = true → v.tried q = false → (s.link q).tx.length < 16 → ∃ t, exec i s = .next t ∧
      t.rse = { s.rse with reentry := some { v with asked := q, time := 0, triedA := true, triedB := true } } ∧
      t.link q = { s.link q with tx := (s.link q).tx ++ [.copyRequest s.dgu.tableDigest] } ∧
      (i = Instr.copyRequestTimeout → t.link p = { s.link p with tx := queued (s.link p) (.abandon 19) }) ∧
      (i ≠ Instr.copyRequestTimeout → t.link p = { s.link p with rx := (s.link p).rx.tail }) ∧
      t.mdc = s.mdc ∧ t = { s with rse := t.rse, lkc := t.lkc, evu := t.evu }) ∧
    (s.eligibleSource q = false ∨ v.tried q = true → ∃ t, exec i s = .next t ∧
      t.mdc = { mode := .isolated, chen := false, cause := .noSource } ∧ t.rse.reentry = none)) ∧
  (∀ s p v c, NextFrame s p (.abandon c) → s.rse.reentry = some v → v.phase = .receiving → v.asked = p →
    s.rse.service = none → s.rse.repair = none →
    (s.mdc.mode = .reentry ∨ s.mdc.mode = .verify ∨ s.mdc.mode = .ready) →
    ∃ t, exec (.abandon p) s = .next t ∧ t.rse.reentry = none ∧
      t.mdc = { mode := .isolated, chen := false, cause := if c = 18 then .overrun else .sourceLost }) ∧
  (∀ s p v c, NextFrame s p (.abandon c) → s.rse.service = some v → v.port = p → s.rse.reentry = none →
    s.rse.repair = none → ∃ t, exec (.abandon p) s = .next t ∧ t.rse = { s.rse with service := none } ∧
      Fired s t [.serviceEnded] ∧ t.mdc = s.mdc) ∧
  (∀ s v, s.rse.reentry = none → s.rse.repair = some v → v.phase = .asking → 10 ≤ v.time → s.mdc.mode = .repair →
    s.rse.service = none → v.tried v.asked = true →
    (∀ q, q ≠ v.asked → s.expectedVoter q = true → v.tried q = false → (s.link q).tx.length < 16 →
      ∃ t, exec .repairAnswerTimeout s = .next t ∧
        t.rse = { s.rse with
          repair := some
            { v with asked := q, time := 0, written := [], triedA := true, triedB := true } } ∧
        t.link q = { s.link q with
          tx := (s.link q).tx ++ [.repairRequest s.dgu.tableDigest (s.rse.repairList.head?.getD 0)] } ∧
        t.link v.asked = { s.link v.asked with tx := queued (s.link v.asked) (.abandon 19) } ∧
        t = { s with rse := t.rse, lkc := t.lkc, evu := t.evu }) ∧
    ((∀ q, q ≠ v.asked → s.expectedVoter q = false ∨ v.tried q = true) →
      ∃ t, exec .repairAnswerTimeout s = .next t ∧ t.rse.repair = none ∧ t.rse.repairList = [] ∧
        t.mdc = { mode := .isolated, chen := false, cause := .noSource })) ∧
  (∀ s v, s.rse.repair = some v → v.phase = .receiving → 10 ≤ v.time → (s.link v.asked).up = true →
    (s.link v.asked).tx.length < 16 → ∃ t, exec .repairSegmentTimeout s = .next t ∧
      t.rse = { s.rse with
        repair := some
          { v with
          phase := .asking, time := 0, written := [], triedA := v.asked == .a, triedB := v.asked == .b } } ∧
      t.link v.asked = { s.link v.asked with
        tx := (s.link v.asked).tx ++ [.repairRequest s.dgu.tableDigest (s.rse.repairList.head?.getD 0)] } ∧
      (∀ q, q ≠ v.asked → t.link q = s.link q) ∧ t = { s with rse := t.rse, lkc := t.lkc }) ∧
  ∀ s, ((∀ v, s.rse.reentry = some v → v.time < 10) → exec .copyRequestTimeout s = .next s) ∧
    ((∀ v, s.rse.repair = some v → v.time < 10) →
      exec .repairAnswerTimeout s = .next s ∧ exec .repairSegmentTimeout s = .next s)

/-- SEGMENT, FORWARD, COPY_END and REPAIR_END taken by a target (R142 to R144, R155, R156, R158). In RECEIVING a
SEGMENT or FORWARD of the source begins its writes; one with no taker is discarded and counted; one out of place
isolates with PROTOCOL, which ends a frame's work at once (log entry 71). The first COPY_END leads from REENTRY to VERIFY, whose audit pass starts at the first digest
region, and which is an occasion to choose a row move (R45, R46); that none is chosen while a chosen one waits to
start (log entry 24), and that one ended by RESTART does not count as in flight (log entry 25), is the model's reading. A
REPAIR_END that names the head block ends its repair where all sixteen segments are written, and asks the same port again
otherwise; the repair audit asked for after the last block waits for a scrub read in flight (R81, log entry 26). A COPY_END
or REPAIR_END that matches no re-entry or repair, port or head block is discarded without count (R142, R156). -/
def Obligations.TargetTakesData : Prop :=
  (∀ s p addr ws v, NextFrame s p (.segment addr ws) → s.rse.repair = none → s.rse.reentry = some v →
    v.phase = .receiving → v.asked = p →
    (addr % 256 = 0 → (∃ pl, s.placeOf addr = some pl ∧ pl.cls ≠ .nonvital) → ∃ t, exec (.segment p) s = .next t ∧
      t.link p = { s.link p with
        rx := (s.link p).rx.tail, work := some { restoring := false, first := addr, next := addr, words := ws } } ∧
      (∀ q, q ≠ p → t.link q = s.link q) ∧ t = { s with lkc := t.lkc }) ∧
    (addr % 256 ≠ 0 ∨ (∀ pl, s.placeOf addr = some pl → pl.cls = .nonvital) →
      (s.mdc.mode = .reentry ∨ s.mdc.mode = .verify ∨ s.mdc.mode = .ready) → ∃ t, exec (.segment p) s = .next t ∧
        t.mdc = { mode := .isolated, chen := false, cause := .protocol } ∧ t.rse.reentry = none ∧
        (t.link p).work = none)) ∧
  (∀ s p addr x v, NextFrame s p (.forward addr x) → s.rse.reentry = some v →
    v.phase = .receiving → v.asked = p →
    (addr % 4 = 0 → (∃ pl, s.placeOf addr = some pl ∧ pl.cls ≠ .nonvital) → ∃ t, exec (.forward p) s = .next t ∧
      t.link p = { s.link p with
        rx := (s.link p).rx.tail
        work := some { restoring := false, first := addr, next := addr, words := [x] } } ∧
      (∀ q, q ≠ p → t.link q = s.link q) ∧ t = { s with lkc := t.lkc }) ∧
    (addr % 4 ≠ 0 ∨ (∀ pl, s.placeOf addr = some pl → pl.cls = .nonvital) →
      (s.mdc.mode = .reentry ∨ s.mdc.mode = .verify ∨ s.mdc.mode = .ready) → ∃ t, exec (.forward p) s = .next t ∧
        t.mdc = { mode := .isolated, chen := false, cause := .protocol })) ∧
  (∀ s p f i, (i = Instr.segment p ∧ (∃ a ws, f = Frame.segment a ws) ∧ s.rse.repair = none ∨
      i = Instr.forward p ∧ ∃ a x, f = Frame.forward a x) → NextFrame s p f →
    (∀ v, s.rse.reentry = some v → v.phase = .asking ∨ v.asked ≠ p) → ∃ t, exec i s = .next t ∧
      t.link p = { s.link p with rx := (s.link p).rx.tail } ∧ (∀ q, q ≠ p → t.link q = s.link q) ∧
      Counted s t [.forwardsDiscarded] ∧ Fired s t [] ∧ t = { s with lkc := t.lkc, evu := t.evu }) ∧
  (∀ s p addr ws v, NextFrame s p (.segment addr ws) → s.rse.repair = some v →
    (v.asked = p → v.phase ≠ .auditing → addr % 256 = 0 →
      s.rse.repairList.head? = some (addr / 4096 * 4096) → ∃ t, exec (.segment p) s = .next t ∧
        t.rse = { s.rse with repair := some { v with phase := .receiving, time := 0 } } ∧
        t.link p = { s.link p with
          rx := (s.link p).rx.tail, work := some { restoring := true, first := addr, next := addr, words := ws } } ∧
        (∀ q, q ≠ p → t.link q = s.link q) ∧
        Fired s t (if v.phase = .asking then [.serviceStarted] else []) ∧ Counted s t [] ∧
        t = { s with rse := t.rse, lkc := t.lkc, evu := t.evu }) ∧
    (v.asked = p → v.phase ≠ .auditing →
      (addr % 256 ≠ 0 ∨ s.rse.repairList.head? ≠ some (addr / 4096 * 4096)) → s.mdc.mode = .repair →
      ∃ t, exec (.segment p) s = .next t ∧
        t.mdc = { mode := .isolated, chen := false, cause := .protocol } ∧ t.rse.repairList = []) ∧
    (v.asked ≠ p ∨ v.phase = .auditing → ∃ t, exec (.segment p) s = .next t ∧ t.rse = s.rse ∧
      Counted s t [.forwardsDiscarded] ∧ t = { s with lkc := t.lkc, evu := t.evu })) ∧
  (∀ s p v, NextFrame s p .copyEnd → s.rse.reentry = some v → v.phase = .receiving → v.asked = p →
    (v.copyEnd = false → s.mdc.mode = .reentry → ∃ t, exec (.copyEnd p) s = .next t ∧
      t.mdc = { s.mdc with mode := .verify, chen := false } ∧ FlagSet t .modeChanged ∧
      t.rse = { s.rse with reentry := some { v with copyEnd := true } } ∧ t.ptl.kind = .verifyAudit ∧
      (∀ i, s.digestRegions.head? = some i → t.ptl.place = some { region := i, word := 0 } ∧
        t.record i = { s.record i with running := true, acc := 0, pointer := 0 } ∧
        ∀ j, j ≠ i → t.record j = s.record j) ∧
      (RowTableLaw s → MoveChosen s.srm s.ret.entries (MovePermitted s .verify) (s.msq.port ≠ none) t)) ∧
    (v.copyEnd = true → ∃ t, exec (.copyEnd p) s = .next t ∧
      t.link p = { s.link p with rx := (s.link p).rx.tail } ∧ t = { s with lkc := t.lkc })) ∧
  (∀ s p, NextFrame s p .copyEnd → (∀ v, s.rse.reentry = some v → v.phase = .asking ∨ v.asked ≠ p) →
    ∃ t, exec (.copyEnd p) s = .next t ∧ t.link p = { s.link p with rx := (s.link p).rx.tail } ∧
      (∀ q, q ≠ p → t.link q = s.link q) ∧ t = { s with lkc := t.lkc }) ∧
  (∀ s p block, NextFrame s p (.repairEnd block) →
    (∀ v, s.rse.repair = some v → v.asked ≠ p ∨ v.phase = .auditing ∨ s.rse.repairList.head? ≠ some block) →
    ∃ t, exec (.repairEnd p) s = .next t ∧ t.link p = { s.link p with rx := (s.link p).rx.tail } ∧
      (∀ q, q ≠ p → t.link q = s.link q) ∧ t = { s with lkc := t.lkc }) ∧
  (∀ s p block v g (i : Fin 32) w a, NextFrame s p (.repairEnd block) → s.rse.repair = some v → v.asked = p →
    v.phase ≠ .auditing → s.rse.repairList = [block] → (∀ k, k < 16 → k ∈ v.written) → s.msq.port = some g →
    g.live = true → g.op = .scrubRead i w a → ∃ t r', exec (.repairEnd p) s = .next t ∧
      t.rse = { s.rse with repair := some r', repairList := [] } ∧ r' = { v with
        phase := .auditing, repaired := r'.repaired } ∧
      (∀ k, k ∈ r'.repaired ↔ k ∈ v.repaired ∨ s.findRegion block = some k) ∧
      t.ptl = { s.ptl with asked := t.ptl.asked } ∧ (∀ k, k ∈ t.ptl.asked ↔ k ∈ r'.repaired) ∧
      t.ptl.asked.Pairwise (· < ·) ∧ t.link p = { s.link p with rx := (s.link p).rx.tail } ∧
      Fired s t [.serviceEnded] ∧ t = { s with rse := t.rse, lkc := t.lkc, ptl := t.ptl, evu := t.evu }) ∧
  ∀ s p block rest v, NextFrame s p (.repairEnd block) → s.rse.repair = some v → v.asked = p →
    v.phase ≠ .auditing → s.rse.repairList = block :: rest →
    ((∀ k, k < 16 → k ∈ v.written) → rest ≠ [] → (s.link p).up = true → (s.link p).tx.length < 16 →
      ∃ t r', exec (.repairEnd p) s = .next t ∧ t.rse = { s.rse with repair := some r', repairList := rest } ∧
        r'.phase = .asking ∧ r'.asked = p ∧ r'.time = 0 ∧ r'.written = [] ∧
        (r'.triedA = true ↔ p = .a) ∧ (r'.triedB = true ↔ p = .b) ∧
        (∀ i, i ∈ r'.repaired ↔ i ∈ v.repaired ∨ s.findRegion block = some i) ∧
        t.link p = { s.link p with
          rx := (s.link p).rx.tail
          tx := (s.link p).tx ++ [.repairRequest s.dgu.tableDigest (rest.head?.getD 0)] } ∧
        Fired s t [.serviceEnded] ∧ t = { s with rse := t.rse, lkc := t.lkc, evu := t.evu }) ∧
    ((∀ k, k < 16 → k ∈ v.written) → rest = [] → s.msq.port = none → s.mdc.mode = .repair →
      ∃ t, exec (.repairEnd p) s = .next t ∧ t.rse.repairList = [] ∧ FlagSet t .serviceEnded ∧
        (∀ i, s.findRegion block = some i → v.repaired = [] → (s.record i).valid = true →
          t.mdc = s.mdc ∧ t.ptl.kind = .repairAudit ∧ t.ptl.place = some { region := i, word := 0 } ∧
          t.ptl.suspended = some (s.ptl.place, s.ptl.riding) ∧
          t.record i = { s.record i with running := true, acc := 0, pointer := 0 } ∧
          ∃ r', t.rse.repair = some r' ∧ r'.phase = .auditing) ∧
        (∀ i, s.findRegion block = some i → v.repaired = [] → (s.record i).valid = false →
          t.mdc = { mode := .isolated, chen := false, cause := .repairFailed } ∧ t.rse.repair = none)) ∧
    ((∃ k, k < 16 ∧ k ∉ v.written) → (s.link p).up = true → (s.link p).tx.length < 16 →
      ∃ t, exec (.repairEnd p) s = .next t ∧
        t.rse = { s.rse with
          repair := some
            { v with
            phase := .asking, time := 0, written := [], triedA := p == .a, triedB := p == .b } } ∧
        t.link p = { s.link p with
          rx := (s.link p).rx.tail, tx := (s.link p).tx ++ [.repairRequest s.dgu.tableDigest block] } ∧
        (∀ q, q ≠ p → t.link q = s.link q) ∧ t = { s with rse := t.rse, lkc := t.lkc })
end

