-- ==== Sys2Proof/Laws/State.lean ====
section
/-! SUPPORT. What each basic operation on the state leaves unchanged: for every update and shared operation, one
lemma that lists the blocks (or the parts of a block) it does not touch. -/

set_option linter.unusedTactic false
set_option linter.unreachableTactic false

namespace Sys2Proof.Machine

@[simp] theorem State.readSlot_frame (s : State) (row word : Nat) (m : CellSample) :
    (s.readSlot row word m).1.chanId = s.chanId ∧ (s.readSlot row word m).1.msize = s.msize ∧
    (s.readSlot row word m).1.txi = s.txi ∧ (s.readSlot row word m).1.rgt = s.rgt ∧
    (s.readSlot row word m).1.msq = s.msq ∧ (s.readSlot row word m).1.ret = s.ret ∧
    (s.readSlot row word m).1.srm = s.srm ∧ (s.readSlot row word m).1.dgu = s.dgu ∧
    (s.readSlot row word m).1.ptl = s.ptl ∧ (s.readSlot row word m).1.lkc = s.lkc ∧
    (s.readSlot row word m).1.vtu = s.vtu ∧ (s.readSlot row word m).1.mdc = s.mdc ∧
    (s.readSlot row word m).1.rse = s.rse ∧ (s.readSlot row word m).1.evu = s.evu ∧
    (s.readSlot row word m).1.cmi = s.cmi ∧ (s.readSlot row word m).1.pending = s.pending := by
  unfold State.readSlot; simp

@[simp] theorem State.answer_frame (s : State) (status : CommandStatus) (results : List Word) :
    (s.answer status results).chanId = s.chanId ∧ (s.answer status results).msize = s.msize ∧
    (s.answer status results).txi = s.txi ∧ (s.answer status results).rgt = s.rgt ∧
    (s.answer status results).msq = s.msq ∧ (s.answer status results).ret = s.ret ∧
    (s.answer status results).srm = s.srm ∧ (s.answer status results).dgu = s.dgu ∧
    (s.answer status results).ptl = s.ptl ∧ (s.answer status results).lkc = s.lkc ∧
    (s.answer status results).vtu = s.vtu ∧ (s.answer status results).mdc = s.mdc ∧
    (s.answer status results).rse = s.rse ∧ (s.answer status results).evu = s.evu ∧
    (s.answer status results).cmi.settings = s.cmi.settings ∧ (s.answer status results).mem = s.mem ∧
    (s.answer status results).pending = s.pending := by
  and_intros
  all_goals
    unfold State.answer; (try dsimp only)
    repeat' (first | rfl | (simp; done) | split)

@[simp] theorem State.count_frame (s : State) (c : Counter) :
    (s.count c).chanId = s.chanId ∧ (s.count c).msize = s.msize ∧ (s.count c).txi = s.txi ∧
    (s.count c).rgt = s.rgt ∧ (s.count c).msq = s.msq ∧ (s.count c).ret = s.ret ∧ (s.count c).srm = s.srm ∧
    (s.count c).dgu = s.dgu ∧ (s.count c).ptl = s.ptl ∧ (s.count c).lkc = s.lkc ∧ (s.count c).vtu = s.vtu ∧
    (s.count c).mdc = s.mdc ∧ (s.count c).rse = s.rse ∧ (s.count c).cmi = s.cmi ∧ (s.count c).mem = s.mem ∧
    (s.count c).pending = s.pending := by
  unfold State.count; (try dsimp only); repeat' (first | (simp; done) | split)

@[simp] theorem State.countBack_frame (s : State) (g : Group) (o : ReadOutcome) :
    (s.countBack g o).chanId = s.chanId ∧ (s.countBack g o).msize = s.msize ∧
    (s.countBack g o).txi = s.txi ∧ (s.countBack g o).rgt = s.rgt ∧
    (s.countBack g o).msq.port = s.msq.port ∧ (s.countBack g o).ret = s.ret ∧
    (s.countBack g o).srm = s.srm ∧ (s.countBack g o).dgu = s.dgu ∧ (s.countBack g o).ptl = s.ptl ∧
    (s.countBack g o).lkc = s.lkc ∧ (s.countBack g o).vtu = s.vtu ∧ (s.countBack g o).mdc = s.mdc ∧
    (s.countBack g o).rse = s.rse ∧ (s.countBack g o).evu = s.evu ∧ (s.countBack g o).cmi = s.cmi ∧
    (s.countBack g o).mem = s.mem ∧ (s.countBack g o).pending = s.pending := by
  unfold State.countBack; (try dsimp only); repeat' (first | (simp; done) | split)

@[simp] theorem State.cutGap_frame (s : State) (l : NoticeName) :
    (s.cutGap l).chanId = s.chanId ∧ (s.cutGap l).msize = s.msize ∧ (s.cutGap l).txi = s.txi ∧
    (s.cutGap l).rgt = s.rgt ∧ (s.cutGap l).msq = s.msq ∧ (s.cutGap l).ret = s.ret ∧
    (s.cutGap l).srm = s.srm ∧ (s.cutGap l).dgu = s.dgu ∧ (s.cutGap l).ptl = s.ptl ∧
    (s.cutGap l).lkc = s.lkc ∧ (s.cutGap l).vtu = s.vtu ∧ (s.cutGap l).mdc = s.mdc ∧
    (s.cutGap l).rse = s.rse ∧ (s.cutGap l).cmi = s.cmi ∧ (s.cutGap l).mem = s.mem ∧
    (s.cutGap l).pending = s.pending := by
  unfold State.cutGap; (try dsimp only); repeat' (first | (simp; done) | split)

@[simp] theorem State.dropWork_frame (s : State) :
    s.dropWork.chanId = s.chanId ∧ s.dropWork.msize = s.msize ∧ s.dropWork.txi = s.txi ∧
    s.dropWork.rgt = s.rgt ∧ s.dropWork.msq = s.msq ∧ s.dropWork.ret = s.ret ∧ s.dropWork.srm = s.srm ∧
    s.dropWork.dgu = s.dgu ∧ s.dropWork.ptl = s.ptl ∧ s.dropWork.vtu = s.vtu ∧ s.dropWork.mdc = s.mdc ∧
    s.dropWork.rse = s.rse ∧ s.dropWork.evu = s.evu ∧ s.dropWork.cmi = s.cmi ∧ s.dropWork.mem = s.mem ∧
    s.dropWork.pending = s.pending := by
  unfold State.dropWork; (try dsimp only); repeat' (first | (simp; done) | split)

@[simp] theorem State.fire_frame (s : State) (ev : Event) :
    (s.fire ev).chanId = s.chanId ∧ (s.fire ev).msize = s.msize ∧ (s.fire ev).txi = s.txi ∧
    (s.fire ev).rgt = s.rgt ∧ (s.fire ev).msq = s.msq ∧ (s.fire ev).ret = s.ret ∧ (s.fire ev).srm = s.srm ∧
    (s.fire ev).dgu = s.dgu ∧ (s.fire ev).ptl = s.ptl ∧ (s.fire ev).lkc = s.lkc ∧ (s.fire ev).vtu = s.vtu ∧
    (s.fire ev).mdc = s.mdc ∧ (s.fire ev).rse = s.rse ∧ (s.fire ev).cmi = s.cmi ∧ (s.fire ev).mem = s.mem ∧
    (s.fire ev).pending = s.pending := by
  unfold State.fire; (try dsimp only); repeat' (first | (simp; done) | split)

@[simp] theorem State.forget_frame (s : State) (who : WordOp → Bool) :
    (s.forget who).chanId = s.chanId ∧ (s.forget who).msize = s.msize ∧ (s.forget who).txi = s.txi ∧
    (s.forget who).rgt = s.rgt ∧ (s.forget who).ret = s.ret ∧ (s.forget who).srm = s.srm ∧
    (s.forget who).dgu = s.dgu ∧ (s.forget who).ptl = s.ptl ∧ (s.forget who).lkc = s.lkc ∧
    (s.forget who).vtu = s.vtu ∧ (s.forget who).mdc = s.mdc ∧ (s.forget who).rse = s.rse ∧
    (s.forget who).evu = s.evu ∧ (s.forget who).cmi = s.cmi ∧ (s.forget who).mem = s.mem ∧
    (s.forget who).pending = s.pending := by
  unfold State.forget; (try dsimp only); repeat' (first | (simp; done) | split)

@[simp] theorem State.grantP_frame (s : State) (op : WordOp) :
    (s.grantP op).chanId = s.chanId ∧ (s.grantP op).msize = s.msize ∧ (s.grantP op).txi = s.txi ∧
    (s.grantP op).rgt = s.rgt ∧ (s.grantP op).ret = s.ret ∧ (s.grantP op).srm = s.srm ∧
    (s.grantP op).dgu = s.dgu ∧ (s.grantP op).ptl = s.ptl ∧ (s.grantP op).lkc = s.lkc ∧
    (s.grantP op).vtu = s.vtu ∧ (s.grantP op).mdc = s.mdc ∧ (s.grantP op).rse = s.rse ∧
    (s.grantP op).evu = s.evu ∧ (s.grantP op).cmi = s.cmi ∧ (s.grantP op).mem = s.mem ∧
    (s.grantP op).pending = s.pending := by
  unfold State.grantP; (try dsimp only); repeat' (first | (simp; done) | split)

@[simp] theorem State.invalidateAll_frame (s : State) :
    s.invalidateAll.chanId = s.chanId ∧ s.invalidateAll.msize = s.msize ∧ s.invalidateAll.txi = s.txi ∧
    s.invalidateAll.rgt = s.rgt ∧ s.invalidateAll.msq = s.msq ∧ s.invalidateAll.ret = s.ret ∧
    s.invalidateAll.srm = s.srm ∧ s.invalidateAll.dgu.tableDigest = s.dgu.tableDigest ∧
    s.invalidateAll.ptl = s.ptl ∧ s.invalidateAll.lkc = s.lkc ∧ s.invalidateAll.vtu = s.vtu ∧
    s.invalidateAll.mdc = s.mdc ∧ s.invalidateAll.rse = s.rse ∧ s.invalidateAll.evu = s.evu ∧
    s.invalidateAll.cmi = s.cmi ∧ s.invalidateAll.mem = s.mem ∧ s.invalidateAll.pending = s.pending := by
  unfold State.invalidateAll; (try dsimp only); repeat' (first | (simp; done) | split)

@[simp] theorem State.offerCapture_frame (s : State) (k : CaptureClass) (requester : Requester) (address : Option ℕ) (detail : Detail) :
    (s.offerCapture k requester address detail).chanId = s.chanId ∧
    (s.offerCapture k requester address detail).msize = s.msize ∧
    (s.offerCapture k requester address detail).txi = s.txi ∧
    (s.offerCapture k requester address detail).rgt = s.rgt ∧
    (s.offerCapture k requester address detail).msq = s.msq ∧
    (s.offerCapture k requester address detail).ret = s.ret ∧
    (s.offerCapture k requester address detail).srm = s.srm ∧
    (s.offerCapture k requester address detail).dgu = s.dgu ∧
    (s.offerCapture k requester address detail).ptl = s.ptl ∧
    (s.offerCapture k requester address detail).lkc = s.lkc ∧
    (s.offerCapture k requester address detail).vtu = s.vtu ∧
    (s.offerCapture k requester address detail).mdc = s.mdc ∧
    (s.offerCapture k requester address detail).rse = s.rse ∧
    (s.offerCapture k requester address detail).cmi = s.cmi ∧
    (s.offerCapture k requester address detail).mem = s.mem ∧
    (s.offerCapture k requester address detail).pending = s.pending := by
  unfold State.offerCapture; (try dsimp only); repeat' (first | (simp; done) | split)

@[simp] theorem State.respondTxi_frame (s : State) (st : ResponseStatus) (data : List Word) :
    (s.respondTxi st data).chanId = s.chanId ∧ (s.respondTxi st data).msize = s.msize ∧
    (s.respondTxi st data).txi.held = s.txi.held ∧ (s.respondTxi st data).txi.waiting = s.txi.waiting ∧
    (s.respondTxi st data).rgt = s.rgt ∧ (s.respondTxi st data).msq = s.msq ∧
    (s.respondTxi st data).ret = s.ret ∧ (s.respondTxi st data).srm = s.srm ∧
    (s.respondTxi st data).dgu = s.dgu ∧ (s.respondTxi st data).ptl = s.ptl ∧
    (s.respondTxi st data).lkc = s.lkc ∧ (s.respondTxi st data).vtu = s.vtu ∧
    (s.respondTxi st data).mdc = s.mdc ∧ (s.respondTxi st data).rse = s.rse ∧
    (s.respondTxi st data).evu = s.evu ∧ (s.respondTxi st data).cmi = s.cmi ∧
    (s.respondTxi st data).mem = s.mem ∧ (s.respondTxi st data).pending = s.pending := by
  unfold State.respondTxi; (try dsimp only); repeat' (first | (simp; done) | split)

@[simp] theorem State.setEntries_frame (s : State) (es : List RowEntry) :
    (s.setEntries es).chanId = s.chanId ∧ (s.setEntries es).msize = s.msize ∧
    (s.setEntries es).txi = s.txi ∧ (s.setEntries es).rgt = s.rgt ∧ (s.setEntries es).msq = s.msq ∧
    (s.setEntries es).srm = s.srm ∧ (s.setEntries es).dgu = s.dgu ∧ (s.setEntries es).ptl = s.ptl ∧
    (s.setEntries es).lkc = s.lkc ∧ (s.setEntries es).vtu = s.vtu ∧ (s.setEntries es).mdc = s.mdc ∧
    (s.setEntries es).rse = s.rse ∧ (s.setEntries es).evu = s.evu ∧ (s.setEntries es).cmi = s.cmi ∧
    (s.setEntries es).mem = s.mem ∧ (s.setEntries es).pending = s.pending := by
  unfold State.setEntries; (try dsimp only); repeat' (first | (simp; done) | split)

@[simp] theorem State.setLink_frame (s : State) (p : Port) (x : LinkPort) :
    (s.setLink p x).chanId = s.chanId ∧ (s.setLink p x).msize = s.msize ∧ (s.setLink p x).txi = s.txi ∧
    (s.setLink p x).rgt = s.rgt ∧ (s.setLink p x).msq = s.msq ∧ (s.setLink p x).ret = s.ret ∧
    (s.setLink p x).srm = s.srm ∧ (s.setLink p x).dgu = s.dgu ∧ (s.setLink p x).ptl = s.ptl ∧
    (s.setLink p x).vtu = s.vtu ∧ (s.setLink p x).mdc = s.mdc ∧ (s.setLink p x).rse = s.rse ∧
    (s.setLink p x).evu = s.evu ∧ (s.setLink p x).cmi = s.cmi ∧ (s.setLink p x).mem = s.mem ∧
    (s.setLink p x).pending = s.pending := by
  unfold State.setLink; (try dsimp only); repeat' (first | (simp; done) | split)

@[simp] theorem State.setMode_frame (s : State) (m : Mode) :
    (s.setMode m).chanId = s.chanId ∧ (s.setMode m).msize = s.msize ∧ (s.setMode m).txi = s.txi ∧
    (s.setMode m).rgt = s.rgt ∧ (s.setMode m).msq = s.msq ∧ (s.setMode m).ret = s.ret ∧
    (s.setMode m).srm = s.srm ∧ (s.setMode m).dgu = s.dgu ∧ (s.setMode m).ptl = s.ptl ∧
    (s.setMode m).lkc = s.lkc ∧ (s.setMode m).vtu = s.vtu ∧ (s.setMode m).rse = s.rse ∧
    (s.setMode m).evu = s.evu ∧ (s.setMode m).cmi = s.cmi ∧ (s.setMode m).mem = s.mem ∧
    (s.setMode m).pending = s.pending := by
  unfold State.setMode; (try dsimp only); repeat' (first | (simp; done) | split)

@[simp] theorem State.setNotice_frame (s : State) (l : NoticeName) (n : NoticeLine) :
    (s.setNotice l n).chanId = s.chanId ∧ (s.setNotice l n).msize = s.msize ∧
    (s.setNotice l n).txi = s.txi ∧ (s.setNotice l n).rgt = s.rgt ∧ (s.setNotice l n).msq = s.msq ∧
    (s.setNotice l n).ret = s.ret ∧ (s.setNotice l n).srm = s.srm ∧ (s.setNotice l n).dgu = s.dgu ∧
    (s.setNotice l n).ptl = s.ptl ∧ (s.setNotice l n).lkc = s.lkc ∧ (s.setNotice l n).vtu = s.vtu ∧
    (s.setNotice l n).mdc = s.mdc ∧ (s.setNotice l n).rse = s.rse ∧ (s.setNotice l n).cmi = s.cmi ∧
    (s.setNotice l n).mem = s.mem ∧ (s.setNotice l n).pending = s.pending := by
  unfold State.setNotice; (try dsimp only); repeat' (first | (simp; done) | split)

@[simp] theorem State.setPtl_frame (s : State) (x : Ptl) :
    (s.setPtl x).chanId = s.chanId ∧ (s.setPtl x).msize = s.msize ∧ (s.setPtl x).txi = s.txi ∧
    (s.setPtl x).rgt = s.rgt ∧ (s.setPtl x).msq = s.msq ∧ (s.setPtl x).ret = s.ret ∧
    (s.setPtl x).srm = s.srm ∧ (s.setPtl x).dgu = s.dgu ∧ (s.setPtl x).lkc = s.lkc ∧
    (s.setPtl x).vtu = s.vtu ∧ (s.setPtl x).mdc = s.mdc ∧ (s.setPtl x).rse = s.rse ∧
    (s.setPtl x).evu = s.evu ∧ (s.setPtl x).cmi = s.cmi ∧ (s.setPtl x).mem = s.mem ∧
    (s.setPtl x).pending = s.pending := by
  unfold State.setPtl; (try dsimp only); repeat' (first | (simp; done) | split)

@[simp] theorem State.setRegion_frame (s : State) (i : Fin 32) (e : Option Region) :
    (s.setRegion i e).chanId = s.chanId ∧ (s.setRegion i e).msize = s.msize ∧
    (s.setRegion i e).txi = s.txi ∧ (s.setRegion i e).rgt.closed = s.rgt.closed ∧
    (s.setRegion i e).msq = s.msq ∧ (s.setRegion i e).ret = s.ret ∧ (s.setRegion i e).srm = s.srm ∧
    (s.setRegion i e).dgu = s.dgu ∧ (s.setRegion i e).ptl = s.ptl ∧ (s.setRegion i e).lkc = s.lkc ∧
    (s.setRegion i e).vtu = s.vtu ∧ (s.setRegion i e).mdc = s.mdc ∧ (s.setRegion i e).rse = s.rse ∧
    (s.setRegion i e).evu = s.evu ∧ (s.setRegion i e).cmi = s.cmi ∧ (s.setRegion i e).mem = s.mem ∧
    (s.setRegion i e).pending = s.pending := by
  unfold State.setRegion; (try dsimp only); repeat' (first | (simp; done) | split)

@[simp] theorem State.setRse_frame (s : State) (x : Rse) :
    (s.setRse x).chanId = s.chanId ∧ (s.setRse x).msize = s.msize ∧ (s.setRse x).txi = s.txi ∧
    (s.setRse x).rgt = s.rgt ∧ (s.setRse x).msq = s.msq ∧ (s.setRse x).ret = s.ret ∧
    (s.setRse x).srm = s.srm ∧ (s.setRse x).dgu = s.dgu ∧ (s.setRse x).ptl = s.ptl ∧
    (s.setRse x).lkc = s.lkc ∧ (s.setRse x).vtu = s.vtu ∧ (s.setRse x).mdc = s.mdc ∧
    (s.setRse x).evu = s.evu ∧ (s.setRse x).cmi = s.cmi ∧ (s.setRse x).mem = s.mem ∧
    (s.setRse x).pending = s.pending := by
  unfold State.setRse; (try dsimp only); repeat' (first | (simp; done) | split)

@[simp] theorem State.setSpare_frame (s : State) (i : Fin 16) (x : Spare) :
    (s.setSpare i x).chanId = s.chanId ∧ (s.setSpare i x).msize = s.msize ∧ (s.setSpare i x).txi = s.txi ∧
    (s.setSpare i x).rgt = s.rgt ∧ (s.setSpare i x).msq = s.msq ∧ (s.setSpare i x).ret = s.ret ∧
    (s.setSpare i x).dgu = s.dgu ∧ (s.setSpare i x).ptl = s.ptl ∧ (s.setSpare i x).lkc = s.lkc ∧
    (s.setSpare i x).vtu = s.vtu ∧ (s.setSpare i x).mdc = s.mdc ∧ (s.setSpare i x).rse = s.rse ∧
    (s.setSpare i x).evu = s.evu ∧ (s.setSpare i x).cmi = s.cmi ∧ (s.setSpare i x).mem = s.mem ∧
    (s.setSpare i x).pending = s.pending := by
  unfold State.setSpare; (try dsimp only); repeat' (first | (simp; done) | split)

@[simp] theorem State.setVtu_frame (s : State) (x : Vtu) :
    (s.setVtu x).chanId = s.chanId ∧ (s.setVtu x).msize = s.msize ∧ (s.setVtu x).txi = s.txi ∧
    (s.setVtu x).rgt = s.rgt ∧ (s.setVtu x).msq = s.msq ∧ (s.setVtu x).ret = s.ret ∧
    (s.setVtu x).srm = s.srm ∧ (s.setVtu x).dgu = s.dgu ∧ (s.setVtu x).ptl = s.ptl ∧
    (s.setVtu x).lkc = s.lkc ∧ (s.setVtu x).mdc = s.mdc ∧ (s.setVtu x).rse = s.rse ∧
    (s.setVtu x).evu = s.evu ∧ (s.setVtu x).cmi = s.cmi ∧ (s.setVtu x).mem = s.mem ∧
    (s.setVtu x).pending = s.pending := by
  unfold State.setVtu; (try dsimp only); repeat' (first | (simp; done) | split)

@[simp] theorem State.storeWord_frame (s : State) (i : ℕ) (v : Word) :
    (s.storeWord i v).chanId = s.chanId ∧ (s.storeWord i v).msize = s.msize ∧
    (s.storeWord i v).txi = s.txi ∧ (s.storeWord i v).rgt = s.rgt ∧ (s.storeWord i v).msq = s.msq ∧
    (s.storeWord i v).ret = s.ret ∧ (s.storeWord i v).srm = s.srm ∧ (s.storeWord i v).dgu = s.dgu ∧
    (s.storeWord i v).ptl = s.ptl ∧ (s.storeWord i v).lkc = s.lkc ∧ (s.storeWord i v).vtu = s.vtu ∧
    (s.storeWord i v).mdc = s.mdc ∧ (s.storeWord i v).rse = s.rse ∧ (s.storeWord i v).evu = s.evu ∧
    (s.storeWord i v).cmi.settings = s.cmi.settings ∧ (s.storeWord i v).mem = s.mem ∧
    (s.storeWord i v).pending = s.pending := by
  unfold State.storeWord; (try dsimp only); repeat' (first | (simp; done) | split)

@[simp] theorem State.tick_frame (s : State) :
    s.tick.chanId = s.chanId ∧ s.tick.msize = s.msize ∧ s.tick.txi = s.txi ∧ s.tick.rgt = s.rgt ∧
    s.tick.msq = s.msq ∧ s.tick.srm = s.srm ∧ s.tick.dgu = s.dgu ∧ s.tick.vtu.last = s.vtu.last ∧
    s.tick.mdc = s.mdc ∧ s.tick.rse.service = s.rse.service ∧ s.tick.rse.repairList = s.rse.repairList ∧
    s.tick.evu.counters = s.evu.counters ∧ s.tick.evu.flags = s.evu.flags ∧ s.tick.cmi = s.cmi ∧
    s.tick.mem = s.mem ∧ s.tick.pending = s.pending := by
  and_intros
  all_goals
    unfold State.tick; (try dsimp only)
    repeat' (first | rfl | (simp; done) | split)

@[simp] theorem State.updateRecord_frame (s : State) (i : Fin 32) (f : DigestRecord → DigestRecord) :
    (s.updateRecord i f).chanId = s.chanId ∧ (s.updateRecord i f).msize = s.msize ∧
    (s.updateRecord i f).txi = s.txi ∧ (s.updateRecord i f).rgt = s.rgt ∧ (s.updateRecord i f).msq = s.msq ∧
    (s.updateRecord i f).ret = s.ret ∧ (s.updateRecord i f).srm = s.srm ∧
    (s.updateRecord i f).dgu.tableDigest = s.dgu.tableDigest ∧ (s.updateRecord i f).ptl = s.ptl ∧
    (s.updateRecord i f).lkc = s.lkc ∧ (s.updateRecord i f).vtu = s.vtu ∧ (s.updateRecord i f).mdc = s.mdc ∧
    (s.updateRecord i f).rse = s.rse ∧ (s.updateRecord i f).evu = s.evu ∧ (s.updateRecord i f).cmi = s.cmi ∧
    (s.updateRecord i f).mem = s.mem ∧ (s.updateRecord i f).pending = s.pending := by
  unfold State.updateRecord; (try dsimp only); repeat' (first | (simp; done) | split)

@[simp] theorem State.validateCleared_frame (s : State) :
    s.validateCleared.chanId = s.chanId ∧ s.validateCleared.msize = s.msize ∧
    s.validateCleared.txi = s.txi ∧ s.validateCleared.rgt = s.rgt ∧ s.validateCleared.msq = s.msq ∧
    s.validateCleared.ret = s.ret ∧ s.validateCleared.srm = s.srm ∧
    s.validateCleared.dgu.tableDigest = s.dgu.tableDigest ∧ s.validateCleared.ptl = s.ptl ∧
    s.validateCleared.lkc = s.lkc ∧ s.validateCleared.vtu = s.vtu ∧ s.validateCleared.mdc = s.mdc ∧
    s.validateCleared.rse = s.rse ∧ s.validateCleared.evu = s.evu ∧ s.validateCleared.cmi = s.cmi ∧
    s.validateCleared.mem = s.mem ∧ s.validateCleared.pending = s.pending := by
  unfold State.validateCleared; (try dsimp only); repeat' (first | (simp; done) | split)

@[simp] theorem State.voteIsolated_frame (s : State) :
    s.voteIsolated.chanId = s.chanId ∧ s.voteIsolated.msize = s.msize ∧ s.voteIsolated.txi = s.txi ∧
    s.voteIsolated.rgt = s.rgt ∧ s.voteIsolated.msq = s.msq ∧ s.voteIsolated.ret = s.ret ∧
    s.voteIsolated.srm = s.srm ∧ s.voteIsolated.dgu = s.dgu ∧ s.voteIsolated.ptl = s.ptl ∧
    s.voteIsolated.lkc = s.lkc ∧ s.voteIsolated.vtu.last = s.vtu.last ∧ s.voteIsolated.mdc = s.mdc ∧
    s.voteIsolated.rse = s.rse ∧ s.voteIsolated.evu = s.evu ∧ s.voteIsolated.cmi = s.cmi ∧
    s.voteIsolated.mem = s.mem ∧ s.voteIsolated.pending = s.pending := by
  unfold State.voteIsolated; (try dsimp only); repeat' (first | (simp; done) | split)

@[simp] theorem State.voteSync_frame (s : State) :
    s.voteSync.chanId = s.chanId ∧ s.voteSync.msize = s.msize ∧ s.voteSync.txi = s.txi ∧
    s.voteSync.rgt = s.rgt ∧ s.voteSync.msq = s.msq ∧ s.voteSync.ret = s.ret ∧ s.voteSync.srm = s.srm ∧
    s.voteSync.dgu = s.dgu ∧ s.voteSync.ptl = s.ptl ∧ s.voteSync.lkc = s.lkc ∧
    s.voteSync.vtu.last = s.vtu.last ∧ s.voteSync.vtu.records = s.vtu.records ∧ s.voteSync.mdc = s.mdc ∧
    s.voteSync.rse = s.rse ∧ s.voteSync.evu = s.evu ∧ s.voteSync.cmi = s.cmi ∧ s.voteSync.mem = s.mem ∧
    s.voteSync.pending = s.pending := by
  unfold State.voteSync; (try dsimp only); repeat' (first | (simp; done) | split)

@[simp] theorem State.withPending_frame (s : State) (cs : List Instr) :
    (s.withPending cs).chanId = s.chanId ∧ (s.withPending cs).msize = s.msize ∧
    (s.withPending cs).txi = s.txi ∧ (s.withPending cs).rgt = s.rgt ∧ (s.withPending cs).msq = s.msq ∧
    (s.withPending cs).ret = s.ret ∧ (s.withPending cs).srm = s.srm ∧ (s.withPending cs).dgu = s.dgu ∧
    (s.withPending cs).ptl = s.ptl ∧ (s.withPending cs).lkc = s.lkc ∧ (s.withPending cs).vtu = s.vtu ∧
    (s.withPending cs).mdc = s.mdc ∧ (s.withPending cs).rse = s.rse ∧ (s.withPending cs).evu = s.evu ∧
    (s.withPending cs).cmi = s.cmi ∧ (s.withPending cs).mem = s.mem := by
  unfold State.withPending; (try dsimp only); repeat' (first | (simp; done) | split)

@[simp] theorem State.wordDone_frame (s : State) (st : ResponseStatus) (data : List Word) :
    (s.wordDone st data).chanId = s.chanId ∧ (s.wordDone st data).msize = s.msize ∧
    (s.wordDone st data).txi.waiting = s.txi.waiting ∧ (s.wordDone st data).rgt = s.rgt ∧
    (s.wordDone st data).msq = s.msq ∧ (s.wordDone st data).ret = s.ret ∧ (s.wordDone st data).srm = s.srm ∧
    (s.wordDone st data).dgu = s.dgu ∧ (s.wordDone st data).ptl = s.ptl ∧ (s.wordDone st data).lkc = s.lkc ∧
    (s.wordDone st data).vtu = s.vtu ∧ (s.wordDone st data).mdc = s.mdc ∧ (s.wordDone st data).rse = s.rse ∧
    (s.wordDone st data).evu = s.evu ∧ (s.wordDone st data).cmi = s.cmi ∧ (s.wordDone st data).mem = s.mem ∧
    (s.wordDone st data).pending = s.pending := by
  unfold State.wordDone; (try dsimp only); repeat' (first | (simp; done) | split)

@[simp] theorem State.writeSlot_frame (s : State) (row : ℕ) (word : ℕ) (v : Word) :
    (s.writeSlot row word v).chanId = s.chanId ∧ (s.writeSlot row word v).msize = s.msize ∧
    (s.writeSlot row word v).txi = s.txi ∧ (s.writeSlot row word v).rgt = s.rgt ∧
    (s.writeSlot row word v).msq = s.msq ∧ (s.writeSlot row word v).ret = s.ret ∧
    (s.writeSlot row word v).srm = s.srm ∧ (s.writeSlot row word v).dgu = s.dgu ∧
    (s.writeSlot row word v).ptl = s.ptl ∧ (s.writeSlot row word v).lkc = s.lkc ∧
    (s.writeSlot row word v).vtu = s.vtu ∧ (s.writeSlot row word v).mdc = s.mdc ∧
    (s.writeSlot row word v).rse = s.rse ∧ (s.writeSlot row word v).evu = s.evu ∧
    (s.writeSlot row word v).cmi = s.cmi ∧ (s.writeSlot row word v).pending = s.pending := by
  unfold State.writeSlot; (try dsimp only); repeat' (first | (simp; done) | split)

@[simp] theorem State.auditOn_frame (s : State) (i : Fin 32) (w : ℕ) :
    (s.auditOn i w).chanId = s.chanId ∧ (s.auditOn i w).msize = s.msize ∧ (s.auditOn i w).txi = s.txi ∧
    (s.auditOn i w).rgt = s.rgt ∧ (s.auditOn i w).msq = s.msq ∧ (s.auditOn i w).ret = s.ret ∧
    (s.auditOn i w).srm = s.srm ∧ (s.auditOn i w).dgu = s.dgu ∧ (s.auditOn i w).lkc = s.lkc ∧
    (s.auditOn i w).vtu = s.vtu ∧ (s.auditOn i w).mdc = s.mdc ∧ (s.auditOn i w).rse = s.rse ∧
    (s.auditOn i w).evu = s.evu ∧ (s.auditOn i w).cmi = s.cmi ∧ (s.auditOn i w).mem = s.mem ∧
    (s.auditOn i w).pending = s.pending := by
  unfold State.auditOn; (try dsimp only); repeat' (first | (simp; done) | split)

@[simp] theorem State.badParam_frame (s : State) (i : ℕ) :
    (s.badParam i).chanId = s.chanId ∧ (s.badParam i).msize = s.msize ∧ (s.badParam i).txi = s.txi ∧
    (s.badParam i).rgt = s.rgt ∧ (s.badParam i).msq = s.msq ∧ (s.badParam i).ret = s.ret ∧
    (s.badParam i).srm = s.srm ∧ (s.badParam i).dgu = s.dgu ∧ (s.badParam i).ptl = s.ptl ∧
    (s.badParam i).lkc = s.lkc ∧ (s.badParam i).vtu = s.vtu ∧ (s.badParam i).mdc = s.mdc ∧
    (s.badParam i).rse = s.rse ∧ (s.badParam i).evu = s.evu ∧ (s.badParam i).cmi.settings = s.cmi.settings ∧
    (s.badParam i).mem = s.mem ∧ (s.badParam i).pending = s.pending := by
  unfold State.badParam; (try dsimp only); repeat' (first | (simp; done) | split)

@[simp] theorem State.beginSending_frame (s : State) (p : Port) (f : Frame) (rest : List Frame) :
    (s.beginSending p f rest).chanId = s.chanId ∧ (s.beginSending p f rest).msize = s.msize ∧
    (s.beginSending p f rest).txi = s.txi ∧ (s.beginSending p f rest).rgt = s.rgt ∧
    (s.beginSending p f rest).msq = s.msq ∧ (s.beginSending p f rest).ret = s.ret ∧
    (s.beginSending p f rest).srm = s.srm ∧ (s.beginSending p f rest).dgu = s.dgu ∧
    (s.beginSending p f rest).ptl = s.ptl ∧ (s.beginSending p f rest).vtu = s.vtu ∧
    (s.beginSending p f rest).mdc = s.mdc ∧ (s.beginSending p f rest).rse = s.rse ∧
    (s.beginSending p f rest).evu = s.evu ∧ (s.beginSending p f rest).cmi = s.cmi ∧
    (s.beginSending p f rest).mem = s.mem ∧ (s.beginSending p f rest).pending = s.pending := by
  unfold State.beginSending; (try dsimp only); repeat' (first | (simp; done) | split)

@[simp] theorem State.beginWork_frame (s : State) (p : Port) (restoring : Bool) (addr : ℕ) (words : List Word) :
    (s.beginWork p restoring addr words).chanId = s.chanId ∧
    (s.beginWork p restoring addr words).msize = s.msize ∧
    (s.beginWork p restoring addr words).txi = s.txi ∧ (s.beginWork p restoring addr words).rgt = s.rgt ∧
    (s.beginWork p restoring addr words).msq = s.msq ∧ (s.beginWork p restoring addr words).ret = s.ret ∧
    (s.beginWork p restoring addr words).srm = s.srm ∧ (s.beginWork p restoring addr words).dgu = s.dgu ∧
    (s.beginWork p restoring addr words).ptl = s.ptl ∧ (s.beginWork p restoring addr words).vtu = s.vtu ∧
    (s.beginWork p restoring addr words).mdc = s.mdc ∧ (s.beginWork p restoring addr words).rse = s.rse ∧
    (s.beginWork p restoring addr words).evu = s.evu ∧ (s.beginWork p restoring addr words).cmi = s.cmi ∧
    (s.beginWork p restoring addr words).mem = s.mem ∧
    (s.beginWork p restoring addr words).pending = s.pending := by
  unfold State.beginWork; (try dsimp only); repeat' (first | (simp; done) | split)

@[simp] theorem State.captureVote_frame (s : State) (rs : List (ℕ × RegionResult)) (o : VoteOutcome) (a : Option PartnerSet) :
    (s.captureVote rs o a).chanId = s.chanId ∧ (s.captureVote rs o a).msize = s.msize ∧
    (s.captureVote rs o a).txi = s.txi ∧ (s.captureVote rs o a).rgt = s.rgt ∧
    (s.captureVote rs o a).msq = s.msq ∧ (s.captureVote rs o a).ret = s.ret ∧
    (s.captureVote rs o a).srm = s.srm ∧ (s.captureVote rs o a).dgu = s.dgu ∧
    (s.captureVote rs o a).ptl = s.ptl ∧ (s.captureVote rs o a).lkc = s.lkc ∧
    (s.captureVote rs o a).vtu = s.vtu ∧ (s.captureVote rs o a).mdc = s.mdc ∧
    (s.captureVote rs o a).rse = s.rse ∧ (s.captureVote rs o a).evu.counters = s.evu.counters ∧
    (s.captureVote rs o a).evu.flags = s.evu.flags ∧ (s.captureVote rs o a).evu.msTime = s.evu.msTime ∧
    (s.captureVote rs o a).cmi = s.cmi ∧ (s.captureVote rs o a).mem = s.mem ∧
    (s.captureVote rs o a).pending = s.pending := by
  and_intros
  all_goals
    unfold State.captureVote; (try dsimp only)
    repeat' (first | rfl | (simp; done) | split)

@[simp] theorem State.cmdCountersClear_frame (s : State) :
    s.cmdCountersClear.chanId = s.chanId ∧ s.cmdCountersClear.msize = s.msize ∧
    s.cmdCountersClear.txi = s.txi ∧ s.cmdCountersClear.rgt = s.rgt ∧ s.cmdCountersClear.msq = s.msq ∧
    s.cmdCountersClear.ret = s.ret ∧ s.cmdCountersClear.srm = s.srm ∧ s.cmdCountersClear.dgu = s.dgu ∧
    s.cmdCountersClear.ptl = s.ptl ∧ s.cmdCountersClear.lkc = s.lkc ∧ s.cmdCountersClear.vtu = s.vtu ∧
    s.cmdCountersClear.mdc = s.mdc ∧ s.cmdCountersClear.rse = s.rse ∧
    s.cmdCountersClear.evu.flags = s.evu.flags ∧ s.cmdCountersClear.evu.msTime = s.evu.msTime ∧
    s.cmdCountersClear.cmi.settings = s.cmi.settings ∧ s.cmdCountersClear.mem = s.mem ∧
    s.cmdCountersClear.pending = s.pending := by
  unfold State.cmdCountersClear; (try dsimp only); repeat' (first | (simp; done) | split)

@[simp] theorem State.cmdEventsClear_frame (s : State) :
    s.cmdEventsClear.chanId = s.chanId ∧ s.cmdEventsClear.msize = s.msize ∧ s.cmdEventsClear.txi = s.txi ∧
    s.cmdEventsClear.rgt = s.rgt ∧ s.cmdEventsClear.msq = s.msq ∧ s.cmdEventsClear.ret = s.ret ∧
    s.cmdEventsClear.srm = s.srm ∧ s.cmdEventsClear.dgu = s.dgu ∧ s.cmdEventsClear.ptl = s.ptl ∧
    s.cmdEventsClear.lkc = s.lkc ∧ s.cmdEventsClear.vtu = s.vtu ∧ s.cmdEventsClear.mdc = s.mdc ∧
    s.cmdEventsClear.rse = s.rse ∧ s.cmdEventsClear.cmi.settings = s.cmi.settings ∧
    s.cmdEventsClear.mem = s.mem ∧ s.cmdEventsClear.pending = s.pending := by
  unfold State.cmdEventsClear; (try dsimp only); repeat' (first | (simp; done) | split)

@[simp] theorem State.cmdEventsRead_frame (s : State) :
    s.cmdEventsRead.chanId = s.chanId ∧ s.cmdEventsRead.msize = s.msize ∧ s.cmdEventsRead.txi = s.txi ∧
    s.cmdEventsRead.rgt = s.rgt ∧ s.cmdEventsRead.msq = s.msq ∧ s.cmdEventsRead.ret = s.ret ∧
    s.cmdEventsRead.srm = s.srm ∧ s.cmdEventsRead.dgu = s.dgu ∧ s.cmdEventsRead.ptl = s.ptl ∧
    s.cmdEventsRead.lkc = s.lkc ∧ s.cmdEventsRead.vtu = s.vtu ∧ s.cmdEventsRead.mdc = s.mdc ∧
    s.cmdEventsRead.rse = s.rse ∧ s.cmdEventsRead.evu = s.evu ∧
    s.cmdEventsRead.cmi.settings = s.cmi.settings ∧ s.cmdEventsRead.mem = s.mem ∧
    s.cmdEventsRead.pending = s.pending := by
  unfold State.cmdEventsRead; (try dsimp only); repeat' (first | (simp; done) | split)

@[simp] theorem State.cmdUnknown_frame (s : State) :
    s.cmdUnknown.chanId = s.chanId ∧ s.cmdUnknown.msize = s.msize ∧ s.cmdUnknown.txi = s.txi ∧
    s.cmdUnknown.rgt = s.rgt ∧ s.cmdUnknown.msq = s.msq ∧ s.cmdUnknown.ret = s.ret ∧
    s.cmdUnknown.srm = s.srm ∧ s.cmdUnknown.dgu = s.dgu ∧ s.cmdUnknown.ptl = s.ptl ∧
    s.cmdUnknown.lkc = s.lkc ∧ s.cmdUnknown.vtu = s.vtu ∧ s.cmdUnknown.mdc = s.mdc ∧
    s.cmdUnknown.rse = s.rse ∧ s.cmdUnknown.evu = s.evu ∧ s.cmdUnknown.cmi.settings = s.cmi.settings ∧
    s.cmdUnknown.mem = s.mem ∧ s.cmdUnknown.pending = s.pending := by
  unfold State.cmdUnknown; (try dsimp only); repeat' (first | (simp; done) | split)

@[simp] theorem State.copyToSpare_frame (s : State) (g : Group) (o : ReadOutcome) (v : Word) :
    (s.copyToSpare g o v).chanId = s.chanId ∧ (s.copyToSpare g o v).msize = s.msize ∧
    (s.copyToSpare g o v).txi = s.txi ∧ (s.copyToSpare g o v).rgt = s.rgt ∧
    (s.copyToSpare g o v).msq = s.msq ∧ (s.copyToSpare g o v).ret = s.ret ∧
    (s.copyToSpare g o v).srm = s.srm ∧ (s.copyToSpare g o v).dgu = s.dgu ∧
    (s.copyToSpare g o v).ptl = s.ptl ∧ (s.copyToSpare g o v).lkc = s.lkc ∧
    (s.copyToSpare g o v).vtu = s.vtu ∧ (s.copyToSpare g o v).mdc = s.mdc ∧
    (s.copyToSpare g o v).rse = s.rse ∧ (s.copyToSpare g o v).evu = s.evu ∧
    (s.copyToSpare g o v).cmi = s.cmi ∧ (s.copyToSpare g o v).pending = s.pending := by
  unfold State.copyToSpare; (try dsimp only); repeat' (first | (simp; done) | split)

@[simp] theorem State.createRecord_frame (s : State) (last : Word) (cycle : Word) :
    (s.createRecord last cycle).chanId = s.chanId ∧ (s.createRecord last cycle).msize = s.msize ∧
    (s.createRecord last cycle).txi = s.txi ∧ (s.createRecord last cycle).rgt = s.rgt ∧
    (s.createRecord last cycle).msq = s.msq ∧ (s.createRecord last cycle).ret = s.ret ∧
    (s.createRecord last cycle).srm = s.srm ∧ (s.createRecord last cycle).dgu = s.dgu ∧
    (s.createRecord last cycle).ptl = s.ptl ∧ (s.createRecord last cycle).lkc = s.lkc ∧
    (s.createRecord last cycle).vtu.last = s.vtu.last ∧ (s.createRecord last cycle).mdc = s.mdc ∧
    (s.createRecord last cycle).rse = s.rse ∧ (s.createRecord last cycle).evu = s.evu ∧
    (s.createRecord last cycle).cmi = s.cmi ∧ (s.createRecord last cycle).mem = s.mem ∧
    (s.createRecord last cycle).pending = s.pending := by
  and_intros
  all_goals
    unfold State.createRecord; (try dsimp only)
    repeat' (first | rfl | (simp; done) | split)

@[simp] theorem State.discardData_frame (s : State) :
    s.discardData.chanId = s.chanId ∧ s.discardData.msize = s.msize ∧ s.discardData.txi = s.txi ∧
    s.discardData.rgt = s.rgt ∧ s.discardData.msq = s.msq ∧ s.discardData.ret = s.ret ∧
    s.discardData.srm = s.srm ∧ s.discardData.dgu = s.dgu ∧ s.discardData.ptl = s.ptl ∧
    s.discardData.lkc = s.lkc ∧ s.discardData.vtu = s.vtu ∧ s.discardData.mdc = s.mdc ∧
    s.discardData.rse = s.rse ∧ s.discardData.cmi = s.cmi ∧ s.discardData.mem = s.mem ∧
    s.discardData.pending = s.pending := by
  unfold State.discardData; (try dsimp only); repeat' (first | (simp; done) | split)

@[simp] theorem State.dropFront_frame (s : State) (p : Port) :
    (s.dropFront p).chanId = s.chanId ∧ (s.dropFront p).msize = s.msize ∧ (s.dropFront p).txi = s.txi ∧
    (s.dropFront p).rgt = s.rgt ∧ (s.dropFront p).msq = s.msq ∧ (s.dropFront p).ret = s.ret ∧
    (s.dropFront p).srm = s.srm ∧ (s.dropFront p).dgu = s.dgu ∧ (s.dropFront p).ptl = s.ptl ∧
    (s.dropFront p).vtu = s.vtu ∧ (s.dropFront p).mdc = s.mdc ∧ (s.dropFront p).rse = s.rse ∧
    (s.dropFront p).evu = s.evu ∧ (s.dropFront p).cmi = s.cmi ∧ (s.dropFront p).mem = s.mem ∧
    (s.dropFront p).pending = s.pending := by
  unfold State.dropFront; (try dsimp only); repeat' (first | (simp; done) | split)

@[simp] theorem State.fireDissent_frame (s : State) (rs : List (ℕ × RegionResult)) :
    (s.fireDissent rs).chanId = s.chanId ∧ (s.fireDissent rs).msize = s.msize ∧
    (s.fireDissent rs).txi = s.txi ∧ (s.fireDissent rs).rgt = s.rgt ∧ (s.fireDissent rs).msq = s.msq ∧
    (s.fireDissent rs).ret = s.ret ∧ (s.fireDissent rs).srm = s.srm ∧ (s.fireDissent rs).dgu = s.dgu ∧
    (s.fireDissent rs).ptl = s.ptl ∧ (s.fireDissent rs).lkc = s.lkc ∧ (s.fireDissent rs).vtu = s.vtu ∧
    (s.fireDissent rs).mdc = s.mdc ∧ (s.fireDissent rs).rse = s.rse ∧ (s.fireDissent rs).cmi = s.cmi ∧
    (s.fireDissent rs).mem = s.mem ∧ (s.fireDissent rs).pending = s.pending := by
  unfold State.fireDissent; (try dsimp only); repeat' (first | (simp; done) | split)

@[simp] theorem State.fireFailed_frame (s : State) (o : VoteOutcome) :
    (s.fireFailed o).chanId = s.chanId ∧ (s.fireFailed o).msize = s.msize ∧ (s.fireFailed o).txi = s.txi ∧
    (s.fireFailed o).rgt = s.rgt ∧ (s.fireFailed o).msq = s.msq ∧ (s.fireFailed o).ret = s.ret ∧
    (s.fireFailed o).srm = s.srm ∧ (s.fireFailed o).dgu = s.dgu ∧ (s.fireFailed o).ptl = s.ptl ∧
    (s.fireFailed o).lkc = s.lkc ∧ (s.fireFailed o).vtu = s.vtu ∧ (s.fireFailed o).mdc = s.mdc ∧
    (s.fireFailed o).rse = s.rse ∧ (s.fireFailed o).cmi = s.cmi ∧ (s.fireFailed o).mem = s.mem ∧
    (s.fireFailed o).pending = s.pending := by
  unfold State.fireFailed; (try dsimp only); repeat' (first | (simp; done) | split)

@[simp] theorem State.handAudit_frame (s : State) (i : Fin 32) (w : ℕ) (v : Word) :
    (s.handAudit i w v).chanId = s.chanId ∧ (s.handAudit i w v).msize = s.msize ∧
    (s.handAudit i w v).txi = s.txi ∧ (s.handAudit i w v).rgt = s.rgt ∧ (s.handAudit i w v).msq = s.msq ∧
    (s.handAudit i w v).ret = s.ret ∧ (s.handAudit i w v).srm = s.srm ∧
    (s.handAudit i w v).dgu.tableDigest = s.dgu.tableDigest ∧ (s.handAudit i w v).ptl = s.ptl ∧
    (s.handAudit i w v).lkc = s.lkc ∧ (s.handAudit i w v).vtu = s.vtu ∧ (s.handAudit i w v).mdc = s.mdc ∧
    (s.handAudit i w v).rse = s.rse ∧ (s.handAudit i w v).evu = s.evu ∧ (s.handAudit i w v).cmi = s.cmi ∧
    (s.handAudit i w v).mem = s.mem ∧ (s.handAudit i w v).pending = s.pending := by
  unfold State.handAudit; (try dsimp only); repeat' (first | (simp; done) | split)

@[simp] theorem State.hold_frame (s : State) (t : Transaction) (region : Fin 32) (cls : RegionClass) :
    (s.hold t region cls).chanId = s.chanId ∧ (s.hold t region cls).msize = s.msize ∧
    (s.hold t region cls).txi.waiting = s.txi.waiting ∧ (s.hold t region cls).rgt = s.rgt ∧
    (s.hold t region cls).msq = s.msq ∧ (s.hold t region cls).ret = s.ret ∧
    (s.hold t region cls).srm = s.srm ∧ (s.hold t region cls).dgu = s.dgu ∧
    (s.hold t region cls).ptl = s.ptl ∧ (s.hold t region cls).lkc = s.lkc ∧
    (s.hold t region cls).vtu = s.vtu ∧ (s.hold t region cls).mdc = s.mdc ∧
    (s.hold t region cls).rse = s.rse ∧ (s.hold t region cls).evu = s.evu ∧
    (s.hold t region cls).cmi = s.cmi ∧ (s.hold t region cls).mem = s.mem ∧
    (s.hold t region cls).pending = s.pending := by
  unfold State.hold; (try dsimp only); repeat' (first | (simp; done) | split)

@[simp] theorem State.listBlock_frame (s : State) (b : ℕ) :
    (s.listBlock b).chanId = s.chanId ∧ (s.listBlock b).msize = s.msize ∧ (s.listBlock b).txi = s.txi ∧
    (s.listBlock b).rgt = s.rgt ∧ (s.listBlock b).msq = s.msq ∧ (s.listBlock b).ret = s.ret ∧
    (s.listBlock b).srm = s.srm ∧ (s.listBlock b).dgu = s.dgu ∧ (s.listBlock b).ptl = s.ptl ∧
    (s.listBlock b).lkc = s.lkc ∧ (s.listBlock b).vtu = s.vtu ∧ (s.listBlock b).mdc = s.mdc ∧
    (s.listBlock b).rse.service = s.rse.service ∧ (s.listBlock b).rse.reentry = s.rse.reentry ∧
    (s.listBlock b).rse.repair = s.rse.repair ∧ (s.listBlock b).evu = s.evu ∧ (s.listBlock b).cmi = s.cmi ∧
    (s.listBlock b).mem = s.mem ∧ (s.listBlock b).pending = s.pending := by
  and_intros
  all_goals
    unfold State.listBlock; (try dsimp only)
    repeat' (first | rfl | (simp; done) | split)

@[simp] theorem State.markLast_frame (s : State) (n : Word) :
    (s.markLast n).chanId = s.chanId ∧ (s.markLast n).msize = s.msize ∧ (s.markLast n).txi = s.txi ∧
    (s.markLast n).rgt = s.rgt ∧ (s.markLast n).msq = s.msq ∧ (s.markLast n).ret = s.ret ∧
    (s.markLast n).srm = s.srm ∧ (s.markLast n).dgu = s.dgu ∧ (s.markLast n).ptl = s.ptl ∧
    (s.markLast n).lkc = s.lkc ∧ (s.markLast n).vtu.records = s.vtu.records ∧ (s.markLast n).mdc = s.mdc ∧
    (s.markLast n).rse = s.rse ∧ (s.markLast n).evu = s.evu ∧ (s.markLast n).cmi = s.cmi ∧
    (s.markLast n).mem = s.mem ∧ (s.markLast n).pending = s.pending := by
  and_intros
  all_goals
    unfold State.markLast; (try dsimp only)
    repeat' (first | rfl | (simp; done) | split)

@[simp] theorem State.notNow_frame (s : State) :
    s.notNow.chanId = s.chanId ∧ s.notNow.msize = s.msize ∧ s.notNow.txi = s.txi ∧ s.notNow.rgt = s.rgt ∧
    s.notNow.msq = s.msq ∧ s.notNow.ret = s.ret ∧ s.notNow.srm = s.srm ∧ s.notNow.dgu = s.dgu ∧
    s.notNow.ptl = s.ptl ∧ s.notNow.lkc = s.lkc ∧ s.notNow.vtu = s.vtu ∧ s.notNow.mdc = s.mdc ∧
    s.notNow.rse = s.rse ∧ s.notNow.evu = s.evu ∧ s.notNow.cmi.settings = s.cmi.settings ∧
    s.notNow.mem = s.mem ∧ s.notNow.pending = s.pending := by
  unfold State.notNow; (try dsimp only); repeat' (first | (simp; done) | split)

@[simp] theorem State.putRecord_frame (s : State) (r : VoteRecord) :
    (s.putRecord r).chanId = s.chanId ∧ (s.putRecord r).msize = s.msize ∧ (s.putRecord r).txi = s.txi ∧
    (s.putRecord r).rgt = s.rgt ∧ (s.putRecord r).msq = s.msq ∧ (s.putRecord r).ret = s.ret ∧
    (s.putRecord r).srm = s.srm ∧ (s.putRecord r).dgu = s.dgu ∧ (s.putRecord r).ptl = s.ptl ∧
    (s.putRecord r).lkc = s.lkc ∧ (s.putRecord r).vtu.last = s.vtu.last ∧ (s.putRecord r).mdc = s.mdc ∧
    (s.putRecord r).rse = s.rse ∧ (s.putRecord r).evu = s.evu ∧ (s.putRecord r).cmi = s.cmi ∧
    (s.putRecord r).mem = s.mem ∧ (s.putRecord r).pending = s.pending := by
  and_intros
  all_goals
    unfold State.putRecord; (try dsimp only)
    repeat' (first | rfl | (simp; done) | split)

@[simp] theorem State.releaseSpare_frame (s : State) :
    s.releaseSpare.chanId = s.chanId ∧ s.releaseSpare.msize = s.msize ∧ s.releaseSpare.txi = s.txi ∧
    s.releaseSpare.rgt = s.rgt ∧ s.releaseSpare.msq = s.msq ∧ s.releaseSpare.ret = s.ret ∧
    s.releaseSpare.dgu = s.dgu ∧ s.releaseSpare.ptl = s.ptl ∧ s.releaseSpare.lkc = s.lkc ∧
    s.releaseSpare.vtu = s.vtu ∧ s.releaseSpare.mdc = s.mdc ∧ s.releaseSpare.rse = s.rse ∧
    s.releaseSpare.evu = s.evu ∧ s.releaseSpare.cmi = s.cmi ∧ s.releaseSpare.mem = s.mem ∧
    s.releaseSpare.pending = s.pending := by
  unfold State.releaseSpare; (try dsimp only); repeat' (first | (simp; done) | split)

@[simp] theorem State.reportWrite_frame (s : State) (i : Fin 32) (w : ℕ) (old : Option Word) (new : Word) :
    (s.reportWrite i w old new).chanId = s.chanId ∧ (s.reportWrite i w old new).msize = s.msize ∧
    (s.reportWrite i w old new).txi = s.txi ∧ (s.reportWrite i w old new).rgt = s.rgt ∧
    (s.reportWrite i w old new).msq = s.msq ∧ (s.reportWrite i w old new).ret = s.ret ∧
    (s.reportWrite i w old new).srm = s.srm ∧
    (s.reportWrite i w old new).dgu.tableDigest = s.dgu.tableDigest ∧
    (s.reportWrite i w old new).ptl = s.ptl ∧ (s.reportWrite i w old new).lkc = s.lkc ∧
    (s.reportWrite i w old new).vtu = s.vtu ∧ (s.reportWrite i w old new).mdc = s.mdc ∧
    (s.reportWrite i w old new).rse = s.rse ∧ (s.reportWrite i w old new).evu = s.evu ∧
    (s.reportWrite i w old new).cmi = s.cmi ∧ (s.reportWrite i w old new).mem = s.mem ∧
    (s.reportWrite i w old new).pending = s.pending := by
  unfold State.reportWrite; (try dsimp only); repeat' (first | (simp; done) | split)

@[simp] theorem State.setPartner_frame (s : State) (p : Port) (x : Partner) :
    (s.setPartner p x).chanId = s.chanId ∧ (s.setPartner p x).msize = s.msize ∧
    (s.setPartner p x).txi = s.txi ∧ (s.setPartner p x).rgt = s.rgt ∧ (s.setPartner p x).msq = s.msq ∧
    (s.setPartner p x).ret = s.ret ∧ (s.setPartner p x).srm = s.srm ∧ (s.setPartner p x).dgu = s.dgu ∧
    (s.setPartner p x).ptl = s.ptl ∧ (s.setPartner p x).vtu = s.vtu ∧ (s.setPartner p x).mdc = s.mdc ∧
    (s.setPartner p x).rse = s.rse ∧ (s.setPartner p x).evu = s.evu ∧ (s.setPartner p x).cmi = s.cmi ∧
    (s.setPartner p x).mem = s.mem ∧ (s.setPartner p x).pending = s.pending := by
  unfold State.setPartner; (try dsimp only); repeat' (first | (simp; done) | split)

@[simp] theorem State.setReentry_frame (s : State) (v : Option Reentry) :
    (s.setReentry v).chanId = s.chanId ∧ (s.setReentry v).msize = s.msize ∧ (s.setReentry v).txi = s.txi ∧
    (s.setReentry v).rgt = s.rgt ∧ (s.setReentry v).msq = s.msq ∧ (s.setReentry v).ret = s.ret ∧
    (s.setReentry v).srm = s.srm ∧ (s.setReentry v).dgu = s.dgu ∧ (s.setReentry v).ptl = s.ptl ∧
    (s.setReentry v).lkc = s.lkc ∧ (s.setReentry v).vtu = s.vtu ∧ (s.setReentry v).mdc = s.mdc ∧
    (s.setReentry v).rse.service = s.rse.service ∧ (s.setReentry v).rse.repair = s.rse.repair ∧
    (s.setReentry v).rse.repairList = s.rse.repairList ∧ (s.setReentry v).evu = s.evu ∧
    (s.setReentry v).cmi = s.cmi ∧ (s.setReentry v).mem = s.mem ∧ (s.setReentry v).pending = s.pending := by
  and_intros
  all_goals
    unfold State.setReentry; (try dsimp only)
    repeat' (first | rfl | (simp; done) | split)

@[simp] theorem State.setRepair_frame (s : State) (v : Option Repair) :
    (s.setRepair v).chanId = s.chanId ∧ (s.setRepair v).msize = s.msize ∧ (s.setRepair v).txi = s.txi ∧
    (s.setRepair v).rgt = s.rgt ∧ (s.setRepair v).msq = s.msq ∧ (s.setRepair v).ret = s.ret ∧
    (s.setRepair v).srm = s.srm ∧ (s.setRepair v).dgu = s.dgu ∧ (s.setRepair v).ptl = s.ptl ∧
    (s.setRepair v).lkc = s.lkc ∧ (s.setRepair v).vtu = s.vtu ∧ (s.setRepair v).mdc = s.mdc ∧
    (s.setRepair v).rse.service = s.rse.service ∧ (s.setRepair v).rse.reentry = s.rse.reentry ∧
    (s.setRepair v).rse.repairList = s.rse.repairList ∧ (s.setRepair v).evu = s.evu ∧
    (s.setRepair v).cmi = s.cmi ∧ (s.setRepair v).mem = s.mem ∧ (s.setRepair v).pending = s.pending := by
  and_intros
  all_goals
    unfold State.setRepair; (try dsimp only)
    repeat' (first | rfl | (simp; done) | split)

@[simp] theorem State.setService_frame (s : State) (v : Option Service) :
    (s.setService v).chanId = s.chanId ∧ (s.setService v).msize = s.msize ∧ (s.setService v).txi = s.txi ∧
    (s.setService v).rgt = s.rgt ∧ (s.setService v).msq = s.msq ∧ (s.setService v).ret = s.ret ∧
    (s.setService v).srm = s.srm ∧ (s.setService v).dgu = s.dgu ∧ (s.setService v).ptl = s.ptl ∧
    (s.setService v).lkc = s.lkc ∧ (s.setService v).vtu = s.vtu ∧ (s.setService v).mdc = s.mdc ∧
    (s.setService v).rse.reentry = s.rse.reentry ∧ (s.setService v).rse.repair = s.rse.repair ∧
    (s.setService v).rse.repairList = s.rse.repairList ∧ (s.setService v).evu = s.evu ∧
    (s.setService v).cmi = s.cmi ∧ (s.setService v).mem = s.mem ∧ (s.setService v).pending = s.pending := by
  and_intros
  all_goals
    unfold State.setService; (try dsimp only)
    repeat' (first | rfl | (simp; done) | split)

@[simp] theorem State.startClear_frame (s : State) :
    s.startClear.chanId = s.chanId ∧ s.startClear.msize = s.msize ∧ s.startClear.txi = s.txi ∧
    s.startClear.rgt = s.rgt ∧ s.startClear.msq = s.msq ∧ s.startClear.ret = s.ret ∧
    s.startClear.srm = s.srm ∧ s.startClear.dgu = s.dgu ∧ s.startClear.lkc = s.lkc ∧
    s.startClear.vtu = s.vtu ∧ s.startClear.mdc = s.mdc ∧ s.startClear.rse = s.rse ∧
    s.startClear.evu = s.evu ∧ s.startClear.cmi = s.cmi ∧ s.startClear.mem = s.mem ∧
    s.startClear.pending = s.pending := by
  unfold State.startClear; (try dsimp only); repeat' (first | (simp; done) | split)

@[simp] theorem State.stopAuditHere_frame (s : State) :
    s.stopAuditHere.chanId = s.chanId ∧ s.stopAuditHere.msize = s.msize ∧ s.stopAuditHere.txi = s.txi ∧
    s.stopAuditHere.rgt = s.rgt ∧ s.stopAuditHere.msq = s.msq ∧ s.stopAuditHere.ret = s.ret ∧
    s.stopAuditHere.srm = s.srm ∧ s.stopAuditHere.dgu.tableDigest = s.dgu.tableDigest ∧
    s.stopAuditHere.ptl = s.ptl ∧ s.stopAuditHere.lkc = s.lkc ∧ s.stopAuditHere.vtu = s.vtu ∧
    s.stopAuditHere.mdc = s.mdc ∧ s.stopAuditHere.rse = s.rse ∧ s.stopAuditHere.evu = s.evu ∧
    s.stopAuditHere.cmi = s.cmi ∧ s.stopAuditHere.mem = s.mem ∧ s.stopAuditHere.pending = s.pending := by
  unfold State.stopAuditHere; (try dsimp only); repeat' (first | (simp; done) | split)

@[simp] theorem State.voteJoin_frame (s : State) (n : Word) :
    (s.voteJoin n).chanId = s.chanId ∧ (s.voteJoin n).msize = s.msize ∧ (s.voteJoin n).txi = s.txi ∧
    (s.voteJoin n).rgt = s.rgt ∧ (s.voteJoin n).msq = s.msq ∧ (s.voteJoin n).ret = s.ret ∧
    (s.voteJoin n).srm = s.srm ∧ (s.voteJoin n).dgu = s.dgu ∧ (s.voteJoin n).ptl = s.ptl ∧
    (s.voteJoin n).lkc = s.lkc ∧ (s.voteJoin n).vtu.records = s.vtu.records ∧ (s.voteJoin n).mdc = s.mdc ∧
    (s.voteJoin n).rse = s.rse ∧ (s.voteJoin n).evu = s.evu ∧ (s.voteJoin n).cmi = s.cmi ∧
    (s.voteJoin n).mem = s.mem ∧ (s.voteJoin n).pending = s.pending := by
  and_intros
  all_goals
    unfold State.voteJoin; (try dsimp only)
    repeat' (first | rfl | (simp; done) | split)

@[simp] theorem State.withFetchWord_frame (s : State) (nbits : ℕ) (w : ℕ) :
    (s.withFetchWord nbits w).chanId = s.chanId ∧ (s.withFetchWord nbits w).msize = s.msize ∧
    (s.withFetchWord nbits w).txi = s.txi ∧ (s.withFetchWord nbits w).rgt = s.rgt ∧
    (s.withFetchWord nbits w).msq = s.msq ∧ (s.withFetchWord nbits w).ret = s.ret ∧
    (s.withFetchWord nbits w).srm = s.srm ∧ (s.withFetchWord nbits w).dgu = s.dgu ∧
    (s.withFetchWord nbits w).ptl = s.ptl ∧ (s.withFetchWord nbits w).lkc = s.lkc ∧
    (s.withFetchWord nbits w).vtu = s.vtu ∧ (s.withFetchWord nbits w).mdc = s.mdc ∧
    (s.withFetchWord nbits w).rse = s.rse ∧ (s.withFetchWord nbits w).evu = s.evu ∧
    (s.withFetchWord nbits w).cmi = s.cmi ∧ (s.withFetchWord nbits w).mem = s.mem ∧
    (s.withFetchWord nbits w).pending = s.pending := by
  and_intros
  all_goals
    unfold State.withFetchWord; (try dsimp only)
    repeat' (first | rfl | (simp; done) | split)

@[simp] theorem State.writeRows_frame (s : State) (row : ℕ) (word : ℕ) (mirror : Option ℕ) (v : Word) :
    (s.writeRows row word mirror v).chanId = s.chanId ∧ (s.writeRows row word mirror v).msize = s.msize ∧
    (s.writeRows row word mirror v).txi = s.txi ∧ (s.writeRows row word mirror v).rgt = s.rgt ∧
    (s.writeRows row word mirror v).msq = s.msq ∧ (s.writeRows row word mirror v).ret = s.ret ∧
    (s.writeRows row word mirror v).srm = s.srm ∧ (s.writeRows row word mirror v).dgu = s.dgu ∧
    (s.writeRows row word mirror v).ptl = s.ptl ∧ (s.writeRows row word mirror v).lkc = s.lkc ∧
    (s.writeRows row word mirror v).vtu = s.vtu ∧ (s.writeRows row word mirror v).mdc = s.mdc ∧
    (s.writeRows row word mirror v).rse = s.rse ∧ (s.writeRows row word mirror v).evu = s.evu ∧
    (s.writeRows row word mirror v).cmi = s.cmi ∧ (s.writeRows row word mirror v).pending = s.pending := by
  unfold State.writeRows; (try dsimp only); repeat' (first | (simp; done) | split)

@[simp] theorem State.announceDigest_frame (s : State) (p : Port) (m : Option Mode) (c : Word) :
    (s.announceDigest p m c).chanId = s.chanId ∧ (s.announceDigest p m c).msize = s.msize ∧
    (s.announceDigest p m c).txi = s.txi ∧ (s.announceDigest p m c).rgt = s.rgt ∧
    (s.announceDigest p m c).msq = s.msq ∧ (s.announceDigest p m c).ret = s.ret ∧
    (s.announceDigest p m c).srm = s.srm ∧ (s.announceDigest p m c).dgu = s.dgu ∧
    (s.announceDigest p m c).ptl = s.ptl ∧ (s.announceDigest p m c).vtu = s.vtu ∧
    (s.announceDigest p m c).mdc = s.mdc ∧ (s.announceDigest p m c).rse = s.rse ∧
    (s.announceDigest p m c).evu = s.evu ∧ (s.announceDigest p m c).cmi = s.cmi ∧
    (s.announceDigest p m c).mem = s.mem ∧ (s.announceDigest p m c).pending = s.pending := by
  unfold State.announceDigest; (try dsimp only); repeat' (first | (simp; done) | split)

@[simp] theorem State.announceIdle_frame (s : State) (p : Port) (m : Option Mode) (c : Option Word) (r : Role) :
    (s.announceIdle p m c r).chanId = s.chanId ∧ (s.announceIdle p m c r).msize = s.msize ∧
    (s.announceIdle p m c r).txi = s.txi ∧ (s.announceIdle p m c r).rgt = s.rgt ∧
    (s.announceIdle p m c r).msq = s.msq ∧ (s.announceIdle p m c r).ret = s.ret ∧
    (s.announceIdle p m c r).srm = s.srm ∧ (s.announceIdle p m c r).dgu = s.dgu ∧
    (s.announceIdle p m c r).ptl = s.ptl ∧ (s.announceIdle p m c r).vtu = s.vtu ∧
    (s.announceIdle p m c r).mdc = s.mdc ∧ (s.announceIdle p m c r).rse = s.rse ∧
    (s.announceIdle p m c r).evu = s.evu ∧ (s.announceIdle p m c r).cmi = s.cmi ∧
    (s.announceIdle p m c r).mem = s.mem ∧ (s.announceIdle p m c r).pending = s.pending := by
  unfold State.announceIdle; (try dsimp only); repeat' (first | (simp; done) | split)

@[simp] theorem State.cmdCaptureClear_frame (s : State) :
    s.cmdCaptureClear.chanId = s.chanId ∧ s.cmdCaptureClear.msize = s.msize ∧
    s.cmdCaptureClear.txi = s.txi ∧ s.cmdCaptureClear.rgt = s.rgt ∧ s.cmdCaptureClear.msq = s.msq ∧
    s.cmdCaptureClear.ret = s.ret ∧ s.cmdCaptureClear.srm = s.srm ∧ s.cmdCaptureClear.dgu = s.dgu ∧
    s.cmdCaptureClear.ptl = s.ptl ∧ s.cmdCaptureClear.lkc = s.lkc ∧ s.cmdCaptureClear.vtu = s.vtu ∧
    s.cmdCaptureClear.mdc = s.mdc ∧ s.cmdCaptureClear.rse = s.rse ∧
    s.cmdCaptureClear.cmi.settings = s.cmi.settings ∧ s.cmdCaptureClear.mem = s.mem ∧
    s.cmdCaptureClear.pending = s.pending := by
  unfold State.cmdCaptureClear; (try dsimp only); repeat' (first | (simp; done) | split)

@[simp] theorem State.cmdCaptureRead_frame (s : State) :
    s.cmdCaptureRead.chanId = s.chanId ∧ s.cmdCaptureRead.msize = s.msize ∧ s.cmdCaptureRead.txi = s.txi ∧
    s.cmdCaptureRead.rgt = s.rgt ∧ s.cmdCaptureRead.msq = s.msq ∧ s.cmdCaptureRead.ret = s.ret ∧
    s.cmdCaptureRead.srm = s.srm ∧ s.cmdCaptureRead.dgu = s.dgu ∧ s.cmdCaptureRead.ptl = s.ptl ∧
    s.cmdCaptureRead.lkc = s.lkc ∧ s.cmdCaptureRead.vtu = s.vtu ∧ s.cmdCaptureRead.mdc = s.mdc ∧
    s.cmdCaptureRead.rse = s.rse ∧ s.cmdCaptureRead.evu = s.evu ∧
    s.cmdCaptureRead.cmi.settings = s.cmi.settings ∧ s.cmdCaptureRead.mem = s.mem ∧
    s.cmdCaptureRead.pending = s.pending := by
  unfold State.cmdCaptureRead; (try dsimp only); repeat' (first | (simp; done) | split)

@[simp] theorem State.cmdCountersRead_frame (s : State) :
    s.cmdCountersRead.chanId = s.chanId ∧ s.cmdCountersRead.msize = s.msize ∧
    s.cmdCountersRead.txi = s.txi ∧ s.cmdCountersRead.rgt = s.rgt ∧ s.cmdCountersRead.msq = s.msq ∧
    s.cmdCountersRead.ret = s.ret ∧ s.cmdCountersRead.srm = s.srm ∧ s.cmdCountersRead.dgu = s.dgu ∧
    s.cmdCountersRead.ptl = s.ptl ∧ s.cmdCountersRead.lkc = s.lkc ∧ s.cmdCountersRead.vtu = s.vtu ∧
    s.cmdCountersRead.mdc = s.mdc ∧ s.cmdCountersRead.rse = s.rse ∧ s.cmdCountersRead.evu = s.evu ∧
    s.cmdCountersRead.cmi.settings = s.cmi.settings ∧ s.cmdCountersRead.mem = s.mem ∧
    s.cmdCountersRead.pending = s.pending := by
  unfold State.cmdCountersRead; (try dsimp only); repeat' (first | (simp; done) | split)

@[simp] theorem State.cmdDigestRead_frame (s : State) :
    s.cmdDigestRead.chanId = s.chanId ∧ s.cmdDigestRead.msize = s.msize ∧ s.cmdDigestRead.txi = s.txi ∧
    s.cmdDigestRead.rgt = s.rgt ∧ s.cmdDigestRead.msq = s.msq ∧ s.cmdDigestRead.ret = s.ret ∧
    s.cmdDigestRead.srm = s.srm ∧ s.cmdDigestRead.dgu = s.dgu ∧ s.cmdDigestRead.ptl = s.ptl ∧
    s.cmdDigestRead.lkc = s.lkc ∧ s.cmdDigestRead.vtu = s.vtu ∧ s.cmdDigestRead.mdc = s.mdc ∧
    s.cmdDigestRead.rse = s.rse ∧ s.cmdDigestRead.evu = s.evu ∧
    s.cmdDigestRead.cmi.settings = s.cmi.settings ∧ s.cmdDigestRead.mem = s.mem ∧
    s.cmdDigestRead.pending = s.pending := by
  unfold State.cmdDigestRead; (try dsimp only); repeat' (first | (simp; done) | split)

@[simp] theorem State.cmdRowTableRead_frame (s : State) :
    s.cmdRowTableRead.chanId = s.chanId ∧ s.cmdRowTableRead.msize = s.msize ∧
    s.cmdRowTableRead.txi = s.txi ∧ s.cmdRowTableRead.rgt = s.rgt ∧ s.cmdRowTableRead.msq = s.msq ∧
    s.cmdRowTableRead.ret = s.ret ∧ s.cmdRowTableRead.srm = s.srm ∧ s.cmdRowTableRead.dgu = s.dgu ∧
    s.cmdRowTableRead.ptl = s.ptl ∧ s.cmdRowTableRead.lkc = s.lkc ∧ s.cmdRowTableRead.vtu = s.vtu ∧
    s.cmdRowTableRead.mdc = s.mdc ∧ s.cmdRowTableRead.rse = s.rse ∧ s.cmdRowTableRead.evu = s.evu ∧
    s.cmdRowTableRead.cmi.settings = s.cmi.settings ∧ s.cmdRowTableRead.mem = s.mem ∧
    s.cmdRowTableRead.pending = s.pending := by
  unfold State.cmdRowTableRead; (try dsimp only); repeat' (first | (simp; done) | split)

@[simp] theorem State.cmdSettingsRead_frame (s : State) :
    s.cmdSettingsRead.chanId = s.chanId ∧ s.cmdSettingsRead.msize = s.msize ∧
    s.cmdSettingsRead.txi = s.txi ∧ s.cmdSettingsRead.rgt = s.rgt ∧ s.cmdSettingsRead.msq = s.msq ∧
    s.cmdSettingsRead.ret = s.ret ∧ s.cmdSettingsRead.srm = s.srm ∧ s.cmdSettingsRead.dgu = s.dgu ∧
    s.cmdSettingsRead.ptl = s.ptl ∧ s.cmdSettingsRead.lkc = s.lkc ∧ s.cmdSettingsRead.vtu = s.vtu ∧
    s.cmdSettingsRead.mdc = s.mdc ∧ s.cmdSettingsRead.rse = s.rse ∧ s.cmdSettingsRead.evu = s.evu ∧
    s.cmdSettingsRead.cmi.settings = s.cmi.settings ∧ s.cmdSettingsRead.mem = s.mem ∧
    s.cmdSettingsRead.pending = s.pending := by
  unfold State.cmdSettingsRead; (try dsimp only); repeat' (first | (simp; done) | split)

@[simp] theorem State.cmdSpareRead_frame (s : State) :
    s.cmdSpareRead.chanId = s.chanId ∧ s.cmdSpareRead.msize = s.msize ∧ s.cmdSpareRead.txi = s.txi ∧
    s.cmdSpareRead.rgt = s.rgt ∧ s.cmdSpareRead.msq = s.msq ∧ s.cmdSpareRead.ret = s.ret ∧
    s.cmdSpareRead.srm = s.srm ∧ s.cmdSpareRead.dgu = s.dgu ∧ s.cmdSpareRead.ptl = s.ptl ∧
    s.cmdSpareRead.lkc = s.lkc ∧ s.cmdSpareRead.vtu = s.vtu ∧ s.cmdSpareRead.mdc = s.mdc ∧
    s.cmdSpareRead.rse = s.rse ∧ s.cmdSpareRead.evu = s.evu ∧ s.cmdSpareRead.cmi.settings = s.cmi.settings ∧
    s.cmdSpareRead.mem = s.mem ∧ s.cmdSpareRead.pending = s.pending := by
  unfold State.cmdSpareRead; (try dsimp only); repeat' (first | (simp; done) | split)

@[simp] theorem State.cmdStatus_frame (s : State) :
    s.cmdStatus.chanId = s.chanId ∧ s.cmdStatus.msize = s.msize ∧ s.cmdStatus.txi = s.txi ∧
    s.cmdStatus.rgt = s.rgt ∧ s.cmdStatus.msq = s.msq ∧ s.cmdStatus.ret = s.ret ∧ s.cmdStatus.srm = s.srm ∧
    s.cmdStatus.dgu = s.dgu ∧ s.cmdStatus.ptl = s.ptl ∧ s.cmdStatus.lkc = s.lkc ∧ s.cmdStatus.vtu = s.vtu ∧
    s.cmdStatus.mdc = s.mdc ∧ s.cmdStatus.rse = s.rse ∧ s.cmdStatus.evu = s.evu ∧
    s.cmdStatus.cmi.settings = s.cmi.settings ∧ s.cmdStatus.mem = s.mem ∧
    s.cmdStatus.pending = s.pending := by
  unfold State.cmdStatus; (try dsimp only); repeat' (first | (simp; done) | split)

@[simp] theorem State.cmdTableRead_frame (s : State) :
    s.cmdTableRead.chanId = s.chanId ∧ s.cmdTableRead.msize = s.msize ∧ s.cmdTableRead.txi = s.txi ∧
    s.cmdTableRead.rgt = s.rgt ∧ s.cmdTableRead.msq = s.msq ∧ s.cmdTableRead.ret = s.ret ∧
    s.cmdTableRead.srm = s.srm ∧ s.cmdTableRead.dgu = s.dgu ∧ s.cmdTableRead.ptl = s.ptl ∧
    s.cmdTableRead.lkc = s.lkc ∧ s.cmdTableRead.vtu = s.vtu ∧ s.cmdTableRead.mdc = s.mdc ∧
    s.cmdTableRead.rse = s.rse ∧ s.cmdTableRead.evu = s.evu ∧ s.cmdTableRead.cmi.settings = s.cmi.settings ∧
    s.cmdTableRead.mem = s.mem ∧ s.cmdTableRead.pending = s.pending := by
  unfold State.cmdTableRead; (try dsimp only); repeat' (first | (simp; done) | split)

@[simp] theorem State.cmdVoteRead_frame (s : State) :
    s.cmdVoteRead.chanId = s.chanId ∧ s.cmdVoteRead.msize = s.msize ∧ s.cmdVoteRead.txi = s.txi ∧
    s.cmdVoteRead.rgt = s.rgt ∧ s.cmdVoteRead.msq = s.msq ∧ s.cmdVoteRead.ret = s.ret ∧
    s.cmdVoteRead.srm = s.srm ∧ s.cmdVoteRead.dgu = s.dgu ∧ s.cmdVoteRead.ptl = s.ptl ∧
    s.cmdVoteRead.lkc = s.lkc ∧ s.cmdVoteRead.vtu = s.vtu ∧ s.cmdVoteRead.mdc = s.mdc ∧
    s.cmdVoteRead.rse = s.rse ∧ s.cmdVoteRead.evu = s.evu ∧ s.cmdVoteRead.cmi.settings = s.cmi.settings ∧
    s.cmdVoteRead.mem = s.mem ∧ s.cmdVoteRead.pending = s.pending := by
  unfold State.cmdVoteRead; (try dsimp only); repeat' (first | (simp; done) | split)

@[simp] theorem State.copyDone_frame (s : State) (o : ReadOutcome) (v : Word) :
    (s.copyDone o v).chanId = s.chanId ∧ (s.copyDone o v).msize = s.msize ∧ (s.copyDone o v).txi = s.txi ∧
    (s.copyDone o v).rgt = s.rgt ∧ (s.copyDone o v).msq = s.msq ∧ (s.copyDone o v).ret = s.ret ∧
    (s.copyDone o v).srm = s.srm ∧ (s.copyDone o v).dgu = s.dgu ∧ (s.copyDone o v).ptl = s.ptl ∧
    (s.copyDone o v).lkc = s.lkc ∧ (s.copyDone o v).vtu = s.vtu ∧ (s.copyDone o v).mdc = s.mdc ∧
    (s.copyDone o v).rse.reentry = s.rse.reentry ∧ (s.copyDone o v).rse.repair = s.rse.repair ∧
    (s.copyDone o v).rse.repairList = s.rse.repairList ∧ (s.copyDone o v).evu = s.evu ∧
    (s.copyDone o v).cmi = s.cmi ∧ (s.copyDone o v).mem = s.mem ∧ (s.copyDone o v).pending = s.pending := by
  unfold State.copyDone; (try dsimp only); repeat' (first | (simp; done) | split)

@[simp] theorem State.enterAudit_frame (s : State) (i : Fin 32) :
    (s.enterAudit i).chanId = s.chanId ∧ (s.enterAudit i).msize = s.msize ∧ (s.enterAudit i).txi = s.txi ∧
    (s.enterAudit i).rgt = s.rgt ∧ (s.enterAudit i).msq = s.msq ∧ (s.enterAudit i).ret = s.ret ∧
    (s.enterAudit i).srm = s.srm ∧ (s.enterAudit i).dgu.tableDigest = s.dgu.tableDigest ∧
    (s.enterAudit i).lkc = s.lkc ∧ (s.enterAudit i).vtu = s.vtu ∧ (s.enterAudit i).mdc = s.mdc ∧
    (s.enterAudit i).rse = s.rse ∧ (s.enterAudit i).evu = s.evu ∧ (s.enterAudit i).cmi = s.cmi ∧
    (s.enterAudit i).mem = s.mem ∧ (s.enterAudit i).pending = s.pending := by
  unfold State.enterAudit; (try dsimp only); repeat' (first | (simp; done) | split)

@[simp] theorem State.enterScrub_frame (s : State) (i : Fin 32) :
    (s.enterScrub i).chanId = s.chanId ∧ (s.enterScrub i).msize = s.msize ∧ (s.enterScrub i).txi = s.txi ∧
    (s.enterScrub i).rgt = s.rgt ∧ (s.enterScrub i).msq = s.msq ∧ (s.enterScrub i).ret = s.ret ∧
    (s.enterScrub i).srm = s.srm ∧ (s.enterScrub i).dgu.tableDigest = s.dgu.tableDigest ∧
    (s.enterScrub i).lkc = s.lkc ∧ (s.enterScrub i).vtu = s.vtu ∧ (s.enterScrub i).mdc = s.mdc ∧
    (s.enterScrub i).rse = s.rse ∧ (s.enterScrub i).evu = s.evu ∧ (s.enterScrub i).cmi = s.cmi ∧
    (s.enterScrub i).mem = s.mem ∧ (s.enterScrub i).pending = s.pending := by
  unfold State.enterScrub; (try dsimp only); repeat' (first | (simp; done) | split)

@[simp] theorem State.linkFault_frame (s : State) (p : Port) (d : Detail) :
    (s.linkFault p d).chanId = s.chanId ∧ (s.linkFault p d).msize = s.msize ∧
    (s.linkFault p d).txi = s.txi ∧ (s.linkFault p d).rgt = s.rgt ∧ (s.linkFault p d).msq = s.msq ∧
    (s.linkFault p d).ret = s.ret ∧ (s.linkFault p d).srm = s.srm ∧ (s.linkFault p d).dgu = s.dgu ∧
    (s.linkFault p d).ptl = s.ptl ∧ (s.linkFault p d).lkc = s.lkc ∧ (s.linkFault p d).vtu = s.vtu ∧
    (s.linkFault p d).mdc = s.mdc ∧ (s.linkFault p d).rse = s.rse ∧ (s.linkFault p d).cmi = s.cmi ∧
    (s.linkFault p d).mem = s.mem ∧ (s.linkFault p d).pending = s.pending := by
  unfold State.linkFault; (try dsimp only); repeat' (first | (simp; done) | split)

@[simp] theorem State.markSuspect_frame (s : State) (rs : List (ℕ × RegionResult)) (p : Port) :
    (s.markSuspect rs p).chanId = s.chanId ∧ (s.markSuspect rs p).msize = s.msize ∧
    (s.markSuspect rs p).txi = s.txi ∧ (s.markSuspect rs p).rgt = s.rgt ∧ (s.markSuspect rs p).msq = s.msq ∧
    (s.markSuspect rs p).ret = s.ret ∧ (s.markSuspect rs p).srm = s.srm ∧ (s.markSuspect rs p).dgu = s.dgu ∧
    (s.markSuspect rs p).ptl = s.ptl ∧ (s.markSuspect rs p).vtu = s.vtu ∧ (s.markSuspect rs p).mdc = s.mdc ∧
    (s.markSuspect rs p).rse = s.rse ∧ (s.markSuspect rs p).evu = s.evu ∧ (s.markSuspect rs p).cmi = s.cmi ∧
    (s.markSuspect rs p).mem = s.mem ∧ (s.markSuspect rs p).pending = s.pending := by
  unfold State.markSuspect; (try dsimp only); repeat' (first | (simp; done) | split)

@[simp] theorem State.offerFrame_frame (s : State) (p : Port) (f : Frame) :
    (s.offerFrame p f).chanId = s.chanId ∧ (s.offerFrame p f).msize = s.msize ∧
    (s.offerFrame p f).txi = s.txi ∧ (s.offerFrame p f).rgt = s.rgt ∧ (s.offerFrame p f).msq = s.msq ∧
    (s.offerFrame p f).ret = s.ret ∧ (s.offerFrame p f).srm = s.srm ∧ (s.offerFrame p f).dgu = s.dgu ∧
    (s.offerFrame p f).ptl = s.ptl ∧ (s.offerFrame p f).vtu = s.vtu ∧ (s.offerFrame p f).mdc = s.mdc ∧
    (s.offerFrame p f).rse = s.rse ∧ (s.offerFrame p f).cmi = s.cmi ∧ (s.offerFrame p f).mem = s.mem ∧
    (s.offerFrame p f).pending = s.pending := by
  unfold State.offerFrame; (try dsimp only); repeat' (first | (simp; done) | split)

@[simp] theorem State.reportDigest_frame (s : State) (g : Group) (o : ReadOutcome) (old : Word) (new : Word) :
    (s.reportDigest g o old new).chanId = s.chanId ∧ (s.reportDigest g o old new).msize = s.msize ∧
    (s.reportDigest g o old new).txi = s.txi ∧ (s.reportDigest g o old new).rgt = s.rgt ∧
    (s.reportDigest g o old new).msq = s.msq ∧ (s.reportDigest g o old new).ret = s.ret ∧
    (s.reportDigest g o old new).srm = s.srm ∧
    (s.reportDigest g o old new).dgu.tableDigest = s.dgu.tableDigest ∧
    (s.reportDigest g o old new).ptl = s.ptl ∧ (s.reportDigest g o old new).lkc = s.lkc ∧
    (s.reportDigest g o old new).vtu = s.vtu ∧ (s.reportDigest g o old new).mdc = s.mdc ∧
    (s.reportDigest g o old new).rse = s.rse ∧ (s.reportDigest g o old new).evu = s.evu ∧
    (s.reportDigest g o old new).cmi = s.cmi ∧ (s.reportDigest g o old new).mem = s.mem ∧
    (s.reportDigest g o old new).pending = s.pending := by
  unfold State.reportDigest; (try dsimp only); repeat' (first | (simp; done) | split)

@[simp] theorem State.orphanGroup_frame (s : State) :
    s.orphanGroup.chanId = s.chanId ∧ s.orphanGroup.msize = s.msize ∧ s.orphanGroup.txi = s.txi ∧
    s.orphanGroup.rgt = s.rgt ∧ s.orphanGroup.ret = s.ret ∧ s.orphanGroup.srm = s.srm ∧
    s.orphanGroup.dgu = s.dgu ∧ s.orphanGroup.ptl = s.ptl ∧ s.orphanGroup.lkc = s.lkc ∧
    s.orphanGroup.vtu = s.vtu ∧ s.orphanGroup.mdc = s.mdc ∧ s.orphanGroup.rse = s.rse ∧
    s.orphanGroup.evu = s.evu ∧ s.orphanGroup.cmi = s.cmi ∧ s.orphanGroup.mem = s.mem ∧
    s.orphanGroup.pending = s.pending := by
  unfold State.orphanGroup; (try dsimp only); repeat' (first | (simp; done) | split)

@[simp] theorem State.restartMove_frame (s : State) :
    s.restartMove.chanId = s.chanId ∧ s.restartMove.msize = s.msize ∧ s.restartMove.txi = s.txi ∧
    s.restartMove.rgt = s.rgt ∧ s.restartMove.msq = s.msq ∧ s.restartMove.dgu = s.dgu ∧
    s.restartMove.ptl = s.ptl ∧ s.restartMove.lkc = s.lkc ∧ s.restartMove.vtu = s.vtu ∧
    s.restartMove.mdc = s.mdc ∧ s.restartMove.rse = s.rse ∧ s.restartMove.evu = s.evu ∧
    s.restartMove.cmi = s.cmi ∧ s.restartMove.mem = s.mem ∧ s.restartMove.pending = s.pending := by
  unfold State.restartMove; (try dsimp only); repeat' (first | (simp; done) | split)

@[simp] theorem State.segmentWritten_frame (s : State) (first : ℕ) :
    (s.segmentWritten first).chanId = s.chanId ∧ (s.segmentWritten first).msize = s.msize ∧
    (s.segmentWritten first).txi = s.txi ∧ (s.segmentWritten first).rgt = s.rgt ∧
    (s.segmentWritten first).msq = s.msq ∧ (s.segmentWritten first).ret = s.ret ∧
    (s.segmentWritten first).srm = s.srm ∧ (s.segmentWritten first).dgu = s.dgu ∧
    (s.segmentWritten first).ptl = s.ptl ∧ (s.segmentWritten first).lkc = s.lkc ∧
    (s.segmentWritten first).vtu = s.vtu ∧ (s.segmentWritten first).mdc = s.mdc ∧
    (s.segmentWritten first).rse.service = s.rse.service ∧
    (s.segmentWritten first).rse.reentry = s.rse.reentry ∧
    (s.segmentWritten first).rse.repairList = s.rse.repairList ∧ (s.segmentWritten first).evu = s.evu ∧
    (s.segmentWritten first).cmi = s.cmi ∧ (s.segmentWritten first).mem = s.mem ∧
    (s.segmentWritten first).pending = s.pending := by
  unfold State.segmentWritten; (try dsimp only); repeat' (first | (simp; done) | split)

@[simp] theorem State.startCopy_frame (s : State) (op : WordOp) :
    (s.startCopy op).chanId = s.chanId ∧ (s.startCopy op).msize = s.msize ∧ (s.startCopy op).txi = s.txi ∧
    (s.startCopy op).rgt = s.rgt ∧ (s.startCopy op).msq = s.msq ∧ (s.startCopy op).ret = s.ret ∧
    (s.startCopy op).srm = s.srm ∧ (s.startCopy op).dgu = s.dgu ∧ (s.startCopy op).ptl = s.ptl ∧
    (s.startCopy op).lkc = s.lkc ∧ (s.startCopy op).vtu = s.vtu ∧ (s.startCopy op).mdc = s.mdc ∧
    (s.startCopy op).rse.reentry = s.rse.reentry ∧ (s.startCopy op).rse.repair = s.rse.repair ∧
    (s.startCopy op).rse.repairList = s.rse.repairList ∧ (s.startCopy op).evu = s.evu ∧
    (s.startCopy op).cmi = s.cmi ∧ (s.startCopy op).mem = s.mem ∧ (s.startCopy op).pending = s.pending := by
  unfold State.startCopy; (try dsimp only); repeat' (first | (simp; done) | split)

@[simp] theorem State.startMove_frame (s : State) (i : Fin 16) (row : ℕ) :
    (s.startMove i row).chanId = s.chanId ∧ (s.startMove i row).msize = s.msize ∧
    (s.startMove i row).txi = s.txi ∧ (s.startMove i row).rgt = s.rgt ∧ (s.startMove i row).msq = s.msq ∧
    (s.startMove i row).dgu = s.dgu ∧ (s.startMove i row).ptl = s.ptl ∧ (s.startMove i row).lkc = s.lkc ∧
    (s.startMove i row).vtu = s.vtu ∧ (s.startMove i row).mdc = s.mdc ∧ (s.startMove i row).rse = s.rse ∧
    (s.startMove i row).evu = s.evu ∧ (s.startMove i row).cmi = s.cmi ∧ (s.startMove i row).mem = s.mem ∧
    (s.startMove i row).pending = s.pending := by
  unfold State.startMove; (try dsimp only); repeat' (first | (simp; done) | split)

@[simp] theorem State.stopRiding_frame (s : State) (i : Fin 32) :
    (s.stopRiding i).chanId = s.chanId ∧ (s.stopRiding i).msize = s.msize ∧ (s.stopRiding i).txi = s.txi ∧
    (s.stopRiding i).rgt = s.rgt ∧ (s.stopRiding i).msq = s.msq ∧ (s.stopRiding i).ret = s.ret ∧
    (s.stopRiding i).srm = s.srm ∧ (s.stopRiding i).dgu.tableDigest = s.dgu.tableDigest ∧
    (s.stopRiding i).lkc = s.lkc ∧ (s.stopRiding i).vtu = s.vtu ∧ (s.stopRiding i).mdc = s.mdc ∧
    (s.stopRiding i).rse = s.rse ∧ (s.stopRiding i).evu = s.evu ∧ (s.stopRiding i).cmi = s.cmi ∧
    (s.stopRiding i).mem = s.mem ∧ (s.stopRiding i).pending = s.pending := by
  unfold State.stopRiding; (try dsimp only); repeat' (first | (simp; done) | split)

@[simp] theorem State.storeSet_frame (s : State) (cycle : Word) (p : Port) (x : PartnerSet) :
    (s.storeSet cycle p x).chanId = s.chanId ∧ (s.storeSet cycle p x).msize = s.msize ∧
    (s.storeSet cycle p x).txi = s.txi ∧ (s.storeSet cycle p x).rgt = s.rgt ∧
    (s.storeSet cycle p x).msq = s.msq ∧ (s.storeSet cycle p x).ret = s.ret ∧
    (s.storeSet cycle p x).srm = s.srm ∧ (s.storeSet cycle p x).dgu = s.dgu ∧
    (s.storeSet cycle p x).ptl = s.ptl ∧ (s.storeSet cycle p x).lkc = s.lkc ∧
    (s.storeSet cycle p x).vtu.last = s.vtu.last ∧ (s.storeSet cycle p x).mdc = s.mdc ∧
    (s.storeSet cycle p x).rse = s.rse ∧ (s.storeSet cycle p x).evu = s.evu ∧
    (s.storeSet cycle p x).cmi = s.cmi ∧ (s.storeSet cycle p x).mem = s.mem ∧
    (s.storeSet cycle p x).pending = s.pending := by
  unfold State.storeSet; (try dsimp only); repeat' (first | (simp; done) | split)

@[simp] theorem State.strayAudit_frame (s : State) (g : Group) (i : Fin 32) (w : ℕ) (o : ReadOutcome) (v : Word) :
    (s.strayAudit g i w o v).chanId = s.chanId ∧ (s.strayAudit g i w o v).msize = s.msize ∧
    (s.strayAudit g i w o v).txi = s.txi ∧ (s.strayAudit g i w o v).rgt = s.rgt ∧
    (s.strayAudit g i w o v).msq = s.msq ∧ (s.strayAudit g i w o v).ret = s.ret ∧
    (s.strayAudit g i w o v).srm = s.srm ∧ (s.strayAudit g i w o v).dgu.tableDigest = s.dgu.tableDigest ∧
    (s.strayAudit g i w o v).ptl = s.ptl ∧ (s.strayAudit g i w o v).lkc = s.lkc ∧
    (s.strayAudit g i w o v).vtu = s.vtu ∧ (s.strayAudit g i w o v).mdc = s.mdc ∧
    (s.strayAudit g i w o v).rse = s.rse ∧ (s.strayAudit g i w o v).evu = s.evu ∧
    (s.strayAudit g i w o v).cmi = s.cmi ∧ (s.strayAudit g i w o v).mem = s.mem ∧
    (s.strayAudit g i w o v).pending = s.pending := by
  unfold State.strayAudit; (try dsimp only); repeat' (first | (simp; done) | split)

@[simp] theorem State.writeBack_frame (s : State) (g : Group) (o : ReadOutcome) (v : Word) :
    (s.writeBack g o v).chanId = s.chanId ∧ (s.writeBack g o v).msize = s.msize ∧
    (s.writeBack g o v).txi = s.txi ∧ (s.writeBack g o v).rgt = s.rgt ∧ (s.writeBack g o v).msq = s.msq ∧
    (s.writeBack g o v).ret = s.ret ∧ (s.writeBack g o v).srm = s.srm ∧ (s.writeBack g o v).dgu = s.dgu ∧
    (s.writeBack g o v).ptl = s.ptl ∧ (s.writeBack g o v).lkc = s.lkc ∧ (s.writeBack g o v).vtu = s.vtu ∧
    (s.writeBack g o v).mdc = s.mdc ∧ (s.writeBack g o v).rse = s.rse ∧ (s.writeBack g o v).evu = s.evu ∧
    (s.writeBack g o v).cmi = s.cmi ∧ (s.writeBack g o v).pending = s.pending := by
  unfold State.writeBack; (try dsimp only); repeat' (first | (simp; done) | split)

@[simp] theorem State.abandonRiding_frame (s : State) (i : Fin 32) :
    (s.abandonRiding i).chanId = s.chanId ∧ (s.abandonRiding i).msize = s.msize ∧
    (s.abandonRiding i).txi = s.txi ∧ (s.abandonRiding i).rgt = s.rgt ∧ (s.abandonRiding i).msq = s.msq ∧
    (s.abandonRiding i).ret = s.ret ∧ (s.abandonRiding i).srm = s.srm ∧
    (s.abandonRiding i).dgu.tableDigest = s.dgu.tableDigest ∧ (s.abandonRiding i).lkc = s.lkc ∧
    (s.abandonRiding i).vtu = s.vtu ∧ (s.abandonRiding i).mdc = s.mdc ∧ (s.abandonRiding i).rse = s.rse ∧
    (s.abandonRiding i).evu = s.evu ∧ (s.abandonRiding i).cmi = s.cmi ∧ (s.abandonRiding i).mem = s.mem ∧
    (s.abandonRiding i).pending = s.pending := by
  unfold State.abandonRiding; (try dsimp only); repeat' (first | (simp; done) | split)

@[simp] theorem State.beginPass_frame (s : State) :
    s.beginPass.chanId = s.chanId ∧ s.beginPass.msize = s.msize ∧ s.beginPass.txi = s.txi ∧
    s.beginPass.rgt = s.rgt ∧ s.beginPass.msq = s.msq ∧ s.beginPass.ret = s.ret ∧ s.beginPass.srm = s.srm ∧
    s.beginPass.dgu.tableDigest = s.dgu.tableDigest ∧ s.beginPass.lkc = s.lkc ∧ s.beginPass.vtu = s.vtu ∧
    s.beginPass.mdc = s.mdc ∧ s.beginPass.rse = s.rse ∧ s.beginPass.evu = s.evu ∧ s.beginPass.cmi = s.cmi ∧
    s.beginPass.mem = s.mem ∧ s.beginPass.pending = s.pending := by
  unfold State.beginPass; (try dsimp only); repeat' (first | (simp; done) | split)

@[simp] theorem State.coverageLate_frame (s : State) :
    s.coverageLate.chanId = s.chanId ∧ s.coverageLate.msize = s.msize ∧ s.coverageLate.txi = s.txi ∧
    s.coverageLate.rgt = s.rgt ∧ s.coverageLate.msq = s.msq ∧ s.coverageLate.ret = s.ret ∧
    s.coverageLate.srm = s.srm ∧ s.coverageLate.dgu = s.dgu ∧ s.coverageLate.lkc = s.lkc ∧
    s.coverageLate.vtu = s.vtu ∧ s.coverageLate.mdc = s.mdc ∧ s.coverageLate.rse = s.rse ∧
    s.coverageLate.cmi = s.cmi ∧ s.coverageLate.mem = s.mem ∧ s.coverageLate.pending = s.pending := by
  unfold State.coverageLate; (try dsimp only); repeat' (first | (simp; done) | split)

@[simp] theorem State.grantBackground_frame (s : State) (op : WordOp) :
    (s.grantBackground op).chanId = s.chanId ∧ (s.grantBackground op).msize = s.msize ∧
    (s.grantBackground op).txi = s.txi ∧ (s.grantBackground op).rgt = s.rgt ∧
    (s.grantBackground op).ret = s.ret ∧ (s.grantBackground op).srm = s.srm ∧
    (s.grantBackground op).dgu = s.dgu ∧ (s.grantBackground op).ptl = s.ptl ∧
    (s.grantBackground op).lkc = s.lkc ∧ (s.grantBackground op).vtu = s.vtu ∧
    (s.grantBackground op).mdc = s.mdc ∧ (s.grantBackground op).rse.reentry = s.rse.reentry ∧
    (s.grantBackground op).rse.repair = s.rse.repair ∧
    (s.grantBackground op).rse.repairList = s.rse.repairList ∧ (s.grantBackground op).evu = s.evu ∧
    (s.grantBackground op).cmi = s.cmi ∧ (s.grantBackground op).mem = s.mem ∧
    (s.grantBackground op).pending = s.pending := by
  unfold State.grantBackground; (try dsimp only); repeat' (first | (simp; done) | split)

@[simp] theorem State.joinMissed_frame (s : State) (v : Reentry) :
    (s.joinMissed v).chanId = s.chanId ∧ (s.joinMissed v).msize = s.msize ∧ (s.joinMissed v).txi = s.txi ∧
    (s.joinMissed v).rgt = s.rgt ∧ (s.joinMissed v).msq = s.msq ∧ (s.joinMissed v).ret = s.ret ∧
    (s.joinMissed v).srm = s.srm ∧ (s.joinMissed v).dgu = s.dgu ∧ (s.joinMissed v).ptl = s.ptl ∧
    (s.joinMissed v).lkc = s.lkc ∧ (s.joinMissed v).vtu = s.vtu ∧ (s.joinMissed v).mdc = s.mdc ∧
    (s.joinMissed v).rse.service = s.rse.service ∧ (s.joinMissed v).rse.repair = s.rse.repair ∧
    (s.joinMissed v).rse.repairList = s.rse.repairList ∧ (s.joinMissed v).cmi = s.cmi ∧
    (s.joinMissed v).mem = s.mem ∧ (s.joinMissed v).pending = s.pending := by
  unfold State.joinMissed; (try dsimp only); repeat' (first | (simp; done) | split)

@[simp] theorem State.markLost_frame (s : State) (p : Port) :
    (s.markLost p).chanId = s.chanId ∧ (s.markLost p).msize = s.msize ∧ (s.markLost p).txi = s.txi ∧
    (s.markLost p).rgt = s.rgt ∧ (s.markLost p).msq = s.msq ∧ (s.markLost p).ret = s.ret ∧
    (s.markLost p).srm = s.srm ∧ (s.markLost p).dgu = s.dgu ∧ (s.markLost p).ptl = s.ptl ∧
    (s.markLost p).vtu = s.vtu ∧ (s.markLost p).mdc = s.mdc ∧ (s.markLost p).rse = s.rse ∧
    (s.markLost p).cmi = s.cmi ∧ (s.markLost p).mem = s.mem ∧ (s.markLost p).pending = s.pending := by
  unfold State.markLost; (try dsimp only); repeat' (first | (simp; done) | split)

@[simp] theorem State.newRow_frame (s : State) (row : ℕ) (word : ℕ) :
    (s.newRow row word).chanId = s.chanId ∧ (s.newRow row word).msize = s.msize ∧
    (s.newRow row word).txi = s.txi ∧ (s.newRow row word).rgt = s.rgt ∧ (s.newRow row word).msq = s.msq ∧
    (s.newRow row word).srm = s.srm ∧ (s.newRow row word).dgu = s.dgu ∧ (s.newRow row word).ptl = s.ptl ∧
    (s.newRow row word).lkc = s.lkc ∧ (s.newRow row word).vtu = s.vtu ∧ (s.newRow row word).mdc = s.mdc ∧
    (s.newRow row word).rse = s.rse ∧ (s.newRow row word).cmi = s.cmi ∧ (s.newRow row word).mem = s.mem ∧
    (s.newRow row word).pending = s.pending := by
  unfold State.newRow; (try dsimp only); repeat' (first | (simp; done) | split)

@[simp] theorem State.offerMark_frame (s : State) (v : Service) (f : Frame) :
    (s.offerMark v f).chanId = s.chanId ∧ (s.offerMark v f).msize = s.msize ∧
    (s.offerMark v f).txi = s.txi ∧ (s.offerMark v f).rgt = s.rgt ∧ (s.offerMark v f).msq = s.msq ∧
    (s.offerMark v f).ret = s.ret ∧ (s.offerMark v f).srm = s.srm ∧ (s.offerMark v f).dgu = s.dgu ∧
    (s.offerMark v f).ptl = s.ptl ∧ (s.offerMark v f).lkc = s.lkc ∧ (s.offerMark v f).vtu = s.vtu ∧
    (s.offerMark v f).mdc = s.mdc ∧ (s.offerMark v f).rse.reentry = s.rse.reentry ∧
    (s.offerMark v f).rse.repair = s.rse.repair ∧ (s.offerMark v f).rse.repairList = s.rse.repairList ∧
    (s.offerMark v f).cmi = s.cmi ∧ (s.offerMark v f).mem = s.mem ∧
    (s.offerMark v f).pending = s.pending := by
  unfold State.offerMark; (try dsimp only); repeat' (first | (simp; done) | split)

@[simp] theorem State.openRecord_frame (s : State) (n : Word) :
    (s.openRecord n).chanId = s.chanId ∧ (s.openRecord n).msize = s.msize ∧ (s.openRecord n).txi = s.txi ∧
    (s.openRecord n).rgt = s.rgt ∧ (s.openRecord n).msq = s.msq ∧ (s.openRecord n).ret = s.ret ∧
    (s.openRecord n).srm = s.srm ∧ (s.openRecord n).dgu = s.dgu ∧ (s.openRecord n).ptl = s.ptl ∧
    (s.openRecord n).lkc = s.lkc ∧ (s.openRecord n).vtu.last = s.vtu.last ∧ (s.openRecord n).mdc = s.mdc ∧
    (s.openRecord n).rse = s.rse ∧ (s.openRecord n).evu = s.evu ∧ (s.openRecord n).cmi = s.cmi ∧
    (s.openRecord n).mem = s.mem ∧ (s.openRecord n).pending = s.pending := by
  unfold State.openRecord; (try dsimp only); repeat' (first | (simp; done) | split)

@[simp] theorem State.refuseCopy_frame (s : State) (p : Port) (r : RefuseReason) :
    (s.refuseCopy p r).chanId = s.chanId ∧ (s.refuseCopy p r).msize = s.msize ∧
    (s.refuseCopy p r).txi = s.txi ∧ (s.refuseCopy p r).rgt = s.rgt ∧ (s.refuseCopy p r).msq = s.msq ∧
    (s.refuseCopy p r).ret = s.ret ∧ (s.refuseCopy p r).srm = s.srm ∧ (s.refuseCopy p r).dgu = s.dgu ∧
    (s.refuseCopy p r).ptl = s.ptl ∧ (s.refuseCopy p r).vtu = s.vtu ∧ (s.refuseCopy p r).mdc = s.mdc ∧
    (s.refuseCopy p r).rse = s.rse ∧ (s.refuseCopy p r).cmi = s.cmi ∧ (s.refuseCopy p r).mem = s.mem ∧
    (s.refuseCopy p r).pending = s.pending := by
  unfold State.refuseCopy; (try dsimp only); repeat' (first | (simp; done) | split)

@[simp] theorem State.release_frame (s : State) (p : Port) :
    (s.release p).chanId = s.chanId ∧ (s.release p).msize = s.msize ∧ (s.release p).txi = s.txi ∧
    (s.release p).rgt = s.rgt ∧ (s.release p).msq = s.msq ∧ (s.release p).ret = s.ret ∧
    (s.release p).srm = s.srm ∧ (s.release p).dgu = s.dgu ∧ (s.release p).ptl = s.ptl ∧
    (s.release p).vtu = s.vtu ∧ (s.release p).mdc = s.mdc ∧ (s.release p).rse = s.rse ∧
    (s.release p).cmi = s.cmi ∧ (s.release p).mem = s.mem ∧ (s.release p).pending = s.pending := by
  unfold State.release; (try dsimp only); repeat' (first | (simp; done) | split)

@[simp] theorem State.startService_frame (s : State) (v : Service) :
    (s.startService v).chanId = s.chanId ∧ (s.startService v).msize = s.msize ∧
    (s.startService v).txi = s.txi ∧ (s.startService v).rgt = s.rgt ∧ (s.startService v).msq = s.msq ∧
    (s.startService v).ret = s.ret ∧ (s.startService v).srm = s.srm ∧ (s.startService v).dgu = s.dgu ∧
    (s.startService v).ptl = s.ptl ∧ (s.startService v).lkc = s.lkc ∧ (s.startService v).vtu = s.vtu ∧
    (s.startService v).mdc = s.mdc ∧ (s.startService v).rse.reentry = s.rse.reentry ∧
    (s.startService v).rse.repair = s.rse.repair ∧ (s.startService v).rse.repairList = s.rse.repairList ∧
    (s.startService v).cmi = s.cmi ∧ (s.startService v).mem = s.mem ∧
    (s.startService v).pending = s.pending := by
  unfold State.startService; (try dsimp only); repeat' (first | (simp; done) | split)

@[simp] theorem State.startVerify_frame (s : State) :
    s.startVerify.chanId = s.chanId ∧ s.startVerify.msize = s.msize ∧ s.startVerify.txi = s.txi ∧
    s.startVerify.rgt = s.rgt ∧ s.startVerify.msq = s.msq ∧ s.startVerify.ret = s.ret ∧
    s.startVerify.srm = s.srm ∧ s.startVerify.dgu.tableDigest = s.dgu.tableDigest ∧
    s.startVerify.lkc = s.lkc ∧ s.startVerify.vtu = s.vtu ∧ s.startVerify.mdc = s.mdc ∧
    s.startVerify.rse = s.rse ∧ s.startVerify.evu = s.evu ∧ s.startVerify.cmi = s.cmi ∧
    s.startVerify.mem = s.mem ∧ s.startVerify.pending = s.pending := by
  unfold State.startVerify; (try dsimp only); repeat' (first | (simp; done) | split)

@[simp] theorem State.startChosen_frame (s : State) (row : ℕ) :
    (s.startChosen row).chanId = s.chanId ∧ (s.startChosen row).msize = s.msize ∧
    (s.startChosen row).txi = s.txi ∧ (s.startChosen row).rgt = s.rgt ∧ (s.startChosen row).msq = s.msq ∧
    (s.startChosen row).dgu = s.dgu ∧ (s.startChosen row).ptl = s.ptl ∧ (s.startChosen row).lkc = s.lkc ∧
    (s.startChosen row).vtu = s.vtu ∧ (s.startChosen row).mdc = s.mdc ∧ (s.startChosen row).rse = s.rse ∧
    (s.startChosen row).evu = s.evu ∧ (s.startChosen row).cmi = s.cmi ∧ (s.startChosen row).mem = s.mem ∧
    (s.startChosen row).pending = s.pending := by
  unfold State.startChosen; (try dsimp only); repeat' (first | (simp; done) | split)

@[simp] theorem State.chooseMove_frame (s : State) :
    s.chooseMove.chanId = s.chanId ∧ s.chooseMove.msize = s.msize ∧ s.chooseMove.txi = s.txi ∧
    s.chooseMove.rgt = s.rgt ∧ s.chooseMove.msq = s.msq ∧ s.chooseMove.dgu = s.dgu ∧
    s.chooseMove.ptl = s.ptl ∧ s.chooseMove.lkc = s.lkc ∧ s.chooseMove.vtu = s.vtu ∧
    s.chooseMove.mdc = s.mdc ∧ s.chooseMove.rse = s.rse ∧ s.chooseMove.cmi = s.cmi ∧
    s.chooseMove.mem = s.mem ∧ s.chooseMove.pending = s.pending := by
  unfold State.chooseMove; (try dsimp only); repeat' (first | (simp; done) | split)

@[simp] theorem State.countAbsence_frame (s : State) (r : VoteRecord) (p : Port) :
    (s.countAbsence r p).chanId = s.chanId ∧ (s.countAbsence r p).msize = s.msize ∧
    (s.countAbsence r p).txi = s.txi ∧ (s.countAbsence r p).rgt = s.rgt ∧ (s.countAbsence r p).msq = s.msq ∧
    (s.countAbsence r p).ret = s.ret ∧ (s.countAbsence r p).srm = s.srm ∧ (s.countAbsence r p).dgu = s.dgu ∧
    (s.countAbsence r p).ptl = s.ptl ∧ (s.countAbsence r p).vtu = s.vtu ∧ (s.countAbsence r p).mdc = s.mdc ∧
    (s.countAbsence r p).rse = s.rse ∧ (s.countAbsence r p).cmi = s.cmi ∧ (s.countAbsence r p).mem = s.mem ∧
    (s.countAbsence r p).pending = s.pending := by
  unfold State.countAbsence; (try dsimp only); repeat' (first | (simp; done) | split)

@[simp] theorem State.refuse_frame (s : State) (t : Transaction) (d : AccessDetail) :
    (s.refuse t d).chanId = s.chanId ∧ (s.refuse t d).msize = s.msize ∧
    (s.refuse t d).txi.held = s.txi.held ∧ (s.refuse t d).txi.waiting = s.txi.waiting ∧
    (s.refuse t d).rgt = s.rgt ∧ (s.refuse t d).msq = s.msq ∧ (s.refuse t d).ret = s.ret ∧
    (s.refuse t d).srm = s.srm ∧ (s.refuse t d).dgu = s.dgu ∧ (s.refuse t d).ptl = s.ptl ∧
    (s.refuse t d).lkc = s.lkc ∧ (s.refuse t d).vtu = s.vtu ∧ (s.refuse t d).mdc = s.mdc ∧
    (s.refuse t d).rse = s.rse ∧ (s.refuse t d).cmi = s.cmi ∧ (s.refuse t d).mem = s.mem ∧
    (s.refuse t d).pending = s.pending := by
  unfold State.refuse; (try dsimp only); repeat' (first | (simp; done) | split)

@[simp] theorem State.workDone_frame (s : State) (p : Port) :
    (s.workDone p).chanId = s.chanId ∧ (s.workDone p).msize = s.msize ∧ (s.workDone p).txi = s.txi ∧
    (s.workDone p).rgt = s.rgt ∧ (s.workDone p).msq = s.msq ∧ (s.workDone p).ret = s.ret ∧
    (s.workDone p).srm = s.srm ∧ (s.workDone p).dgu = s.dgu ∧ (s.workDone p).ptl = s.ptl ∧
    (s.workDone p).vtu = s.vtu ∧ (s.workDone p).mdc = s.mdc ∧ (s.workDone p).rse.service = s.rse.service ∧
    (s.workDone p).rse.reentry = s.rse.reentry ∧ (s.workDone p).rse.repairList = s.rse.repairList ∧
    (s.workDone p).evu = s.evu ∧ (s.workDone p).cmi = s.cmi ∧ (s.workDone p).mem = s.mem ∧
    (s.workDone p).pending = s.pending := by
  unfold State.workDone; (try dsimp only); repeat' (first | (simp; done) | split)

@[simp] theorem State.applyWeakLimit_frame (s : State) :
    s.applyWeakLimit.chanId = s.chanId ∧ s.applyWeakLimit.msize = s.msize ∧ s.applyWeakLimit.txi = s.txi ∧
    s.applyWeakLimit.rgt = s.rgt ∧ s.applyWeakLimit.msq = s.msq ∧ s.applyWeakLimit.dgu = s.dgu ∧
    s.applyWeakLimit.ptl = s.ptl ∧ s.applyWeakLimit.lkc = s.lkc ∧ s.applyWeakLimit.vtu = s.vtu ∧
    s.applyWeakLimit.mdc = s.mdc ∧ s.applyWeakLimit.rse = s.rse ∧ s.applyWeakLimit.cmi = s.cmi ∧
    s.applyWeakLimit.mem = s.mem ∧ s.applyWeakLimit.pending = s.pending := by
  unfold State.applyWeakLimit; (try dsimp only); repeat' (first | (simp; done) | split)

@[simp] theorem State.arbitrate_frame (s : State) :
    s.arbitrate.chanId = s.chanId ∧ s.arbitrate.msize = s.msize ∧ s.arbitrate.txi = s.txi ∧
    s.arbitrate.rgt = s.rgt ∧ s.arbitrate.ret = s.ret ∧ s.arbitrate.srm = s.srm ∧ s.arbitrate.dgu = s.dgu ∧
    s.arbitrate.ptl = s.ptl ∧ s.arbitrate.lkc = s.lkc ∧ s.arbitrate.vtu = s.vtu ∧ s.arbitrate.mdc = s.mdc ∧
    s.arbitrate.rse.reentry = s.rse.reentry ∧ s.arbitrate.rse.repair = s.rse.repair ∧
    s.arbitrate.rse.repairList = s.rse.repairList ∧ s.arbitrate.evu = s.evu ∧ s.arbitrate.cmi = s.cmi ∧
    s.arbitrate.mem = s.mem ∧ s.arbitrate.pending = s.pending := by
  unfold State.arbitrate; (try dsimp only); repeat' (first | (simp; done) | split)

@[simp] theorem State.askBlock_frame (s : State) (v : Repair) (p : Port) :
    (s.askBlock v p).chanId = s.chanId ∧ (s.askBlock v p).msize = s.msize ∧ (s.askBlock v p).txi = s.txi ∧
    (s.askBlock v p).rgt = s.rgt ∧ (s.askBlock v p).msq = s.msq ∧ (s.askBlock v p).ret = s.ret ∧
    (s.askBlock v p).srm = s.srm ∧ (s.askBlock v p).dgu = s.dgu ∧ (s.askBlock v p).ptl = s.ptl ∧
    (s.askBlock v p).vtu = s.vtu ∧ (s.askBlock v p).mdc = s.mdc ∧
    (s.askBlock v p).rse.service = s.rse.service ∧ (s.askBlock v p).rse.reentry = s.rse.reentry ∧
    (s.askBlock v p).rse.repairList = s.rse.repairList ∧ (s.askBlock v p).cmi = s.cmi ∧
    (s.askBlock v p).mem = s.mem ∧ (s.askBlock v p).pending = s.pending := by
  unfold State.askBlock; (try dsimp only); repeat' (first | (simp; done) | split)

@[simp] theorem State.completeMove_frame (s : State) (i : Fin 16) (row : ℕ) :
    (s.completeMove i row).chanId = s.chanId ∧ (s.completeMove i row).msize = s.msize ∧
    (s.completeMove i row).txi = s.txi ∧ (s.completeMove i row).rgt = s.rgt ∧
    (s.completeMove i row).msq = s.msq ∧ (s.completeMove i row).dgu = s.dgu ∧
    (s.completeMove i row).ptl = s.ptl ∧ (s.completeMove i row).lkc = s.lkc ∧
    (s.completeMove i row).vtu = s.vtu ∧ (s.completeMove i row).mdc = s.mdc ∧
    (s.completeMove i row).rse = s.rse ∧ (s.completeMove i row).cmi = s.cmi ∧
    (s.completeMove i row).mem = s.mem ∧ (s.completeMove i row).pending = s.pending := by
  unfold State.completeMove; (try dsimp only); repeat' (first | (simp; done) | split)

@[simp] theorem State.completePass_frame (s : State) :
    s.completePass.chanId = s.chanId ∧ s.completePass.msize = s.msize ∧ s.completePass.txi = s.txi ∧
    s.completePass.rgt = s.rgt ∧ s.completePass.msq = s.msq ∧ s.completePass.ret = s.ret ∧
    s.completePass.srm = s.srm ∧ s.completePass.dgu.tableDigest = s.dgu.tableDigest ∧
    s.completePass.lkc = s.lkc ∧ s.completePass.vtu = s.vtu ∧ s.completePass.mdc = s.mdc ∧
    s.completePass.rse = s.rse ∧ s.completePass.cmi = s.cmi ∧ s.completePass.mem = s.mem ∧
    s.completePass.pending = s.pending := by
  unfold State.completePass; (try dsimp only); repeat' (first | (simp; done) | split)

@[simp] theorem State.endGroup_frame (s : State) :
    s.endGroup.chanId = s.chanId ∧ s.endGroup.msize = s.msize ∧ s.endGroup.txi = s.txi ∧
    s.endGroup.rgt = s.rgt ∧ s.endGroup.dgu = s.dgu ∧ s.endGroup.ptl = s.ptl ∧ s.endGroup.lkc = s.lkc ∧
    s.endGroup.vtu = s.vtu ∧ s.endGroup.mdc = s.mdc ∧ s.endGroup.rse = s.rse ∧ s.endGroup.evu = s.evu ∧ s.endGroup.cmi = s.cmi ∧
    s.endGroup.mem = s.mem ∧ s.endGroup.pending = s.pending := by
  unfold State.endGroup; (try dsimp only); repeat' (first | (simp; done) | split)

@[simp] theorem State.failMove_frame (s : State) :
    s.failMove.chanId = s.chanId ∧ s.failMove.msize = s.msize ∧ s.failMove.txi = s.txi ∧
    s.failMove.rgt = s.rgt ∧ s.failMove.msq = s.msq ∧ s.failMove.dgu = s.dgu ∧ s.failMove.ptl = s.ptl ∧
    s.failMove.lkc = s.lkc ∧ s.failMove.vtu = s.vtu ∧ s.failMove.mdc = s.mdc ∧ s.failMove.rse = s.rse ∧
    s.failMove.cmi = s.cmi ∧ s.failMove.mem = s.mem ∧ s.failMove.pending = s.pending := by
  unfold State.failMove; (try dsimp only); repeat' (first | (simp; done) | split)

@[simp] theorem State.hitRow_frame (s : State) (e : RowEntry) (word : ℕ) :
    (s.hitRow e word).chanId = s.chanId ∧ (s.hitRow e word).msize = s.msize ∧
    (s.hitRow e word).txi = s.txi ∧ (s.hitRow e word).rgt = s.rgt ∧ (s.hitRow e word).msq = s.msq ∧
    (s.hitRow e word).dgu = s.dgu ∧ (s.hitRow e word).ptl = s.ptl ∧ (s.hitRow e word).lkc = s.lkc ∧
    (s.hitRow e word).vtu = s.vtu ∧ (s.hitRow e word).mdc = s.mdc ∧ (s.hitRow e word).rse = s.rse ∧
    (s.hitRow e word).cmi = s.cmi ∧ (s.hitRow e word).mem = s.mem ∧
    (s.hitRow e word).pending = s.pending := by
  unfold State.hitRow; (try dsimp only); repeat' (first | (simp; done) | split)

@[simp] theorem State.moveOccasion_frame (s : State) (m : Mode) :
    (s.moveOccasion m).chanId = s.chanId ∧ (s.moveOccasion m).msize = s.msize ∧
    (s.moveOccasion m).txi = s.txi ∧ (s.moveOccasion m).rgt = s.rgt ∧ (s.moveOccasion m).msq = s.msq ∧
    (s.moveOccasion m).dgu = s.dgu ∧ (s.moveOccasion m).ptl = s.ptl ∧ (s.moveOccasion m).lkc = s.lkc ∧
    (s.moveOccasion m).vtu = s.vtu ∧ (s.moveOccasion m).mdc = s.mdc ∧ (s.moveOccasion m).rse = s.rse ∧
    (s.moveOccasion m).cmi = s.cmi ∧ (s.moveOccasion m).mem = s.mem ∧
    (s.moveOccasion m).pending = s.pending := by
  unfold State.moveOccasion; (try dsimp only); repeat' (first | (simp; done) | split)

@[simp] theorem State.nextVerify_frame (s : State) (i : Fin 32) :
    (s.nextVerify i).chanId = s.chanId ∧ (s.nextVerify i).msize = s.msize ∧ (s.nextVerify i).txi = s.txi ∧
    (s.nextVerify i).rgt = s.rgt ∧ (s.nextVerify i).msq = s.msq ∧ (s.nextVerify i).ret = s.ret ∧
    (s.nextVerify i).srm = s.srm ∧ (s.nextVerify i).dgu.tableDigest = s.dgu.tableDigest ∧
    (s.nextVerify i).lkc = s.lkc ∧ (s.nextVerify i).vtu = s.vtu ∧ (s.nextVerify i).mdc = s.mdc ∧
    (s.nextVerify i).rse.service = s.rse.service ∧ (s.nextVerify i).rse.repair = s.rse.repair ∧
    (s.nextVerify i).rse.repairList = s.rse.repairList ∧ (s.nextVerify i).evu = s.evu ∧
    (s.nextVerify i).cmi = s.cmi ∧ (s.nextVerify i).mem = s.mem ∧ (s.nextVerify i).pending = s.pending := by
  unfold State.nextVerify; (try dsimp only); repeat' (first | (simp; done) | split)

@[simp] theorem State.sweep_frame (s : State) :
    s.sweep.chanId = s.chanId ∧ s.sweep.msize = s.msize ∧ s.sweep.txi = s.txi ∧ s.sweep.rgt = s.rgt ∧
    s.sweep.msq = s.msq ∧ s.sweep.dgu = s.dgu ∧ s.sweep.ptl = s.ptl ∧ s.sweep.lkc = s.lkc ∧
    s.sweep.vtu = s.vtu ∧ s.sweep.mdc = s.mdc ∧ s.sweep.rse = s.rse ∧ s.sweep.cmi = s.cmi ∧
    s.sweep.mem = s.mem ∧ s.sweep.pending = s.pending := by
  unfold State.sweep; (try dsimp only); repeat' (first | (simp; done) | split)

@[simp] theorem State.wrongArrival_frame (s : State) (p : Port) :
    (s.wrongArrival p).chanId = s.chanId ∧ (s.wrongArrival p).msize = s.msize ∧
    (s.wrongArrival p).txi = s.txi ∧ (s.wrongArrival p).rgt = s.rgt ∧ (s.wrongArrival p).msq = s.msq ∧
    (s.wrongArrival p).ret = s.ret ∧ (s.wrongArrival p).srm = s.srm ∧ (s.wrongArrival p).dgu = s.dgu ∧
    (s.wrongArrival p).ptl = s.ptl ∧ (s.wrongArrival p).vtu = s.vtu ∧ (s.wrongArrival p).mdc = s.mdc ∧
    (s.wrongArrival p).rse = s.rse ∧ (s.wrongArrival p).cmi = s.cmi ∧ (s.wrongArrival p).mem = s.mem ∧
    (s.wrongArrival p).pending = s.pending := by
  unfold State.wrongArrival; (try dsimp only); repeat' (first | (simp; done) | split)

@[simp] theorem State.advanceMove_frame (s : State) :
    s.advanceMove.chanId = s.chanId ∧ s.advanceMove.msize = s.msize ∧ s.advanceMove.txi = s.txi ∧
    s.advanceMove.rgt = s.rgt ∧ s.advanceMove.msq = s.msq ∧ s.advanceMove.dgu = s.dgu ∧
    s.advanceMove.ptl = s.ptl ∧ s.advanceMove.lkc = s.lkc ∧ s.advanceMove.vtu = s.vtu ∧
    s.advanceMove.mdc = s.mdc ∧ s.advanceMove.rse = s.rse ∧ s.advanceMove.cmi = s.cmi ∧
    s.advanceMove.mem = s.mem ∧ s.advanceMove.pending = s.pending := by
  unfold State.advanceMove; (try dsimp only); repeat' (first | (simp; done) | split)

@[simp] theorem State.endReentry_frame (s : State) (reason : Word) :
    (s.endReentry reason).chanId = s.chanId ∧ (s.endReentry reason).msize = s.msize ∧
    (s.endReentry reason).txi = s.txi ∧ (s.endReentry reason).rgt = s.rgt ∧
    (s.endReentry reason).msq = s.msq ∧ (s.endReentry reason).ret = s.ret ∧
    (s.endReentry reason).srm = s.srm ∧ (s.endReentry reason).dgu = s.dgu ∧
    (s.endReentry reason).ptl = s.ptl ∧ (s.endReentry reason).vtu = s.vtu ∧
    (s.endReentry reason).mdc = s.mdc ∧ (s.endReentry reason).rse.service = s.rse.service ∧
    (s.endReentry reason).rse.repair = s.rse.repair ∧
    (s.endReentry reason).rse.repairList = s.rse.repairList ∧ (s.endReentry reason).cmi = s.cmi ∧
    (s.endReentry reason).mem = s.mem ∧ (s.endReentry reason).pending = s.pending := by
  unfold State.endReentry; (try dsimp only); repeat' (first | (simp; done) | split)

@[simp] theorem State.endRepair_frame (s : State) (reason : Word) (iso : Bool) :
    (s.endRepair reason iso).chanId = s.chanId ∧ (s.endRepair reason iso).msize = s.msize ∧
    (s.endRepair reason iso).txi = s.txi ∧ (s.endRepair reason iso).rgt = s.rgt ∧
    (s.endRepair reason iso).msq = s.msq ∧ (s.endRepair reason iso).ret = s.ret ∧
    (s.endRepair reason iso).srm = s.srm ∧ (s.endRepair reason iso).dgu = s.dgu ∧
    (s.endRepair reason iso).ptl = s.ptl ∧ (s.endRepair reason iso).vtu = s.vtu ∧
    (s.endRepair reason iso).mdc = s.mdc ∧ (s.endRepair reason iso).rse.service = s.rse.service ∧
    (s.endRepair reason iso).rse.reentry = s.rse.reentry ∧
    (s.endRepair reason iso).rse.repairList = s.rse.repairList ∧ (s.endRepair reason iso).cmi = s.cmi ∧
    (s.endRepair reason iso).mem = s.mem ∧ (s.endRepair reason iso).pending = s.pending := by
  unfold State.endRepair; (try dsimp only); repeat' (first | (simp; done) | split)

@[simp] theorem State.nextScrubRegion_frame (s : State) (i : Fin 32) :
    (s.nextScrubRegion i).chanId = s.chanId ∧ (s.nextScrubRegion i).msize = s.msize ∧
    (s.nextScrubRegion i).txi = s.txi ∧ (s.nextScrubRegion i).rgt = s.rgt ∧
    (s.nextScrubRegion i).msq = s.msq ∧ (s.nextScrubRegion i).ret = s.ret ∧
    (s.nextScrubRegion i).srm = s.srm ∧ (s.nextScrubRegion i).dgu.tableDigest = s.dgu.tableDigest ∧
    (s.nextScrubRegion i).lkc = s.lkc ∧ (s.nextScrubRegion i).vtu = s.vtu ∧
    (s.nextScrubRegion i).mdc = s.mdc ∧ (s.nextScrubRegion i).rse = s.rse ∧
    (s.nextScrubRegion i).cmi = s.cmi ∧ (s.nextScrubRegion i).mem = s.mem ∧
    (s.nextScrubRegion i).pending = s.pending := by
  unfold State.nextScrubRegion; (try dsimp only); repeat' (first | (simp; done) | split)

@[simp] theorem State.offerDigest_frame (s : State) (p : Port) (f : Frame) :
    (s.offerDigest p f).chanId = s.chanId ∧ (s.offerDigest p f).msize = s.msize ∧
    (s.offerDigest p f).txi = s.txi ∧ (s.offerDigest p f).rgt = s.rgt ∧ (s.offerDigest p f).msq = s.msq ∧
    (s.offerDigest p f).ret = s.ret ∧ (s.offerDigest p f).srm = s.srm ∧ (s.offerDigest p f).dgu = s.dgu ∧
    (s.offerDigest p f).ptl = s.ptl ∧ (s.offerDigest p f).vtu = s.vtu ∧ (s.offerDigest p f).mdc = s.mdc ∧
    (s.offerDigest p f).rse.reentry = s.rse.reentry ∧ (s.offerDigest p f).rse.repair = s.rse.repair ∧
    (s.offerDigest p f).rse.repairList = s.rse.repairList ∧ (s.offerDigest p f).cmi = s.cmi ∧
    (s.offerDigest p f).mem = s.mem ∧ (s.offerDigest p f).pending = s.pending := by
  unfold State.offerDigest; (try dsimp only); repeat' (first | (simp; done) | split)

@[simp] theorem State.acceptCopy_frame (s : State) (p : Port) :
    (s.acceptCopy p).chanId = s.chanId ∧ (s.acceptCopy p).msize = s.msize ∧ (s.acceptCopy p).txi = s.txi ∧
    (s.acceptCopy p).rgt = s.rgt ∧ (s.acceptCopy p).msq = s.msq ∧ (s.acceptCopy p).ret = s.ret ∧
    (s.acceptCopy p).srm = s.srm ∧ (s.acceptCopy p).dgu = s.dgu ∧ (s.acceptCopy p).ptl = s.ptl ∧
    (s.acceptCopy p).vtu = s.vtu ∧ (s.acceptCopy p).mdc = s.mdc ∧
    (s.acceptCopy p).rse.reentry = s.rse.reentry ∧ (s.acceptCopy p).rse.repair = s.rse.repair ∧
    (s.acceptCopy p).rse.repairList = s.rse.repairList ∧ (s.acceptCopy p).cmi = s.cmi ∧
    (s.acceptCopy p).mem = s.mem ∧ (s.acceptCopy p).pending = s.pending := by
  unfold State.acceptCopy; (try dsimp only); repeat' (first | (simp; done) | split)

@[simp] theorem State.endService_frame (s : State) (reason : Option Word) :
    (s.endService reason).chanId = s.chanId ∧ (s.endService reason).msize = s.msize ∧
    (s.endService reason).txi = s.txi ∧ (s.endService reason).rgt = s.rgt ∧
    (s.endService reason).ret = s.ret ∧ (s.endService reason).srm = s.srm ∧
    (s.endService reason).dgu = s.dgu ∧ (s.endService reason).ptl = s.ptl ∧
    (s.endService reason).vtu = s.vtu ∧ (s.endService reason).mdc = s.mdc ∧
    (s.endService reason).rse.reentry = s.rse.reentry ∧ (s.endService reason).rse.repair = s.rse.repair ∧
    (s.endService reason).rse.repairList = s.rse.repairList ∧ (s.endService reason).cmi = s.cmi ∧
    (s.endService reason).mem = s.mem ∧ (s.endService reason).pending = s.pending := by
  unfold State.endService; (try dsimp only); repeat' (first | (simp; done) | split)

@[simp] theorem State.scrubTo_frame (s : State) (i : Fin 32) (w : ℕ) :
    (s.scrubTo i w).chanId = s.chanId ∧ (s.scrubTo i w).msize = s.msize ∧ (s.scrubTo i w).txi = s.txi ∧
    (s.scrubTo i w).rgt = s.rgt ∧ (s.scrubTo i w).msq = s.msq ∧ (s.scrubTo i w).ret = s.ret ∧
    (s.scrubTo i w).srm = s.srm ∧ (s.scrubTo i w).dgu.tableDigest = s.dgu.tableDigest ∧
    (s.scrubTo i w).lkc = s.lkc ∧ (s.scrubTo i w).vtu = s.vtu ∧ (s.scrubTo i w).mdc = s.mdc ∧
    (s.scrubTo i w).rse = s.rse ∧ (s.scrubTo i w).cmi = s.cmi ∧ (s.scrubTo i w).mem = s.mem ∧
    (s.scrubTo i w).pending = s.pending := by
  unfold State.scrubTo; (try dsimp only); repeat' (first | (simp; done) | split)

@[simp] theorem State.settingActs_frame (s : State) (st : Setting) :
    (s.settingActs st).chanId = s.chanId ∧ (s.settingActs st).msize = s.msize ∧
    (s.settingActs st).txi = s.txi ∧ (s.settingActs st).rgt = s.rgt ∧ (s.settingActs st).msq = s.msq ∧
    (s.settingActs st).dgu = s.dgu ∧ (s.settingActs st).ptl = s.ptl ∧ (s.settingActs st).lkc = s.lkc ∧
    (s.settingActs st).vtu = s.vtu ∧ (s.settingActs st).mdc = s.mdc ∧ (s.settingActs st).rse = s.rse ∧
    (s.settingActs st).cmi = s.cmi ∧ (s.settingActs st).mem = s.mem ∧
    (s.settingActs st).pending = s.pending := by
  unfold State.settingActs; (try dsimp only); repeat' (first | (simp; done) | split)

@[simp] theorem State.isolatedMark_frame (s : State) (n : Word) :
    (s.isolatedMark n).chanId = s.chanId ∧ (s.isolatedMark n).msize = s.msize ∧
    (s.isolatedMark n).txi = s.txi ∧ (s.isolatedMark n).rgt = s.rgt ∧ (s.isolatedMark n).msq = s.msq ∧
    (s.isolatedMark n).ret = s.ret ∧ (s.isolatedMark n).srm = s.srm ∧ (s.isolatedMark n).dgu = s.dgu ∧
    (s.isolatedMark n).ptl = s.ptl ∧ (s.isolatedMark n).vtu = s.vtu ∧ (s.isolatedMark n).mdc = s.mdc ∧
    (s.isolatedMark n).rse = s.rse ∧ (s.isolatedMark n).cmi = s.cmi ∧ (s.isolatedMark n).mem = s.mem ∧
    (s.isolatedMark n).pending = s.pending := by
  unfold State.isolatedMark; (try dsimp only); repeat' (first | (simp; done) | split)

@[simp] theorem State.strayAccept_frame (s : State) (p : Port) :
    (s.strayAccept p).chanId = s.chanId ∧ (s.strayAccept p).msize = s.msize ∧
    (s.strayAccept p).txi = s.txi ∧ (s.strayAccept p).rgt = s.rgt ∧ (s.strayAccept p).msq = s.msq ∧
    (s.strayAccept p).ret = s.ret ∧ (s.strayAccept p).srm = s.srm ∧ (s.strayAccept p).dgu = s.dgu ∧
    (s.strayAccept p).ptl = s.ptl ∧ (s.strayAccept p).vtu = s.vtu ∧ (s.strayAccept p).mdc = s.mdc ∧
    (s.strayAccept p).rse = s.rse ∧ (s.strayAccept p).cmi = s.cmi ∧ (s.strayAccept p).mem = s.mem ∧
    (s.strayAccept p).pending = s.pending := by
  unfold State.strayAccept; (try dsimp only); repeat' (first | (simp; done) | split)

@[simp] theorem State.takeCopyAccept_frame (s : State) (p : Port) :
    (s.takeCopyAccept p).chanId = s.chanId ∧ (s.takeCopyAccept p).msize = s.msize ∧
    (s.takeCopyAccept p).txi = s.txi ∧ (s.takeCopyAccept p).rgt = s.rgt ∧ (s.takeCopyAccept p).msq = s.msq ∧
    (s.takeCopyAccept p).ret = s.ret ∧ (s.takeCopyAccept p).srm = s.srm ∧ (s.takeCopyAccept p).dgu = s.dgu ∧
    (s.takeCopyAccept p).ptl = s.ptl ∧ (s.takeCopyAccept p).vtu = s.vtu ∧ (s.takeCopyAccept p).mdc = s.mdc ∧
    (s.takeCopyAccept p).rse.service = s.rse.service ∧ (s.takeCopyAccept p).rse.repair = s.rse.repair ∧
    (s.takeCopyAccept p).rse.repairList = s.rse.repairList ∧ (s.takeCopyAccept p).cmi = s.cmi ∧
    (s.takeCopyAccept p).mem = s.mem ∧ (s.takeCopyAccept p).pending = s.pending := by
  unfold State.takeCopyAccept; (try dsimp only); repeat' (first | (simp; done) | split)

@[simp] theorem State.verifyAnswer_frame (s : State) (i : Fin 32) (w : ℕ) (a : AuditAnswer) :
    (s.verifyAnswer i w a).chanId = s.chanId ∧ (s.verifyAnswer i w a).msize = s.msize ∧
    (s.verifyAnswer i w a).txi = s.txi ∧ (s.verifyAnswer i w a).rgt = s.rgt ∧
    (s.verifyAnswer i w a).msq = s.msq ∧ (s.verifyAnswer i w a).ret = s.ret ∧
    (s.verifyAnswer i w a).srm = s.srm ∧ (s.verifyAnswer i w a).dgu.tableDigest = s.dgu.tableDigest ∧
    (s.verifyAnswer i w a).lkc = s.lkc ∧ (s.verifyAnswer i w a).vtu = s.vtu ∧
    (s.verifyAnswer i w a).mdc = s.mdc ∧ (s.verifyAnswer i w a).rse.service = s.rse.service ∧
    (s.verifyAnswer i w a).rse.repair = s.rse.repair ∧
    (s.verifyAnswer i w a).rse.repairList = s.rse.repairList ∧ (s.verifyAnswer i w a).evu = s.evu ∧
    (s.verifyAnswer i w a).cmi = s.cmi ∧ (s.verifyAnswer i w a).mem = s.mem ∧
    (s.verifyAnswer i w a).pending = s.pending := by
  unfold State.verifyAnswer; (try dsimp only); repeat' (first | (simp; done) | split)

@[simp] theorem State.moveEntry_frame (s : State) (v : Service) (f : Frame) (rest : List Frame) :
    (s.moveEntry v f rest).chanId = s.chanId ∧ (s.moveEntry v f rest).msize = s.msize ∧
    (s.moveEntry v f rest).txi = s.txi ∧ (s.moveEntry v f rest).rgt = s.rgt ∧
    (s.moveEntry v f rest).ret = s.ret ∧ (s.moveEntry v f rest).srm = s.srm ∧
    (s.moveEntry v f rest).dgu = s.dgu ∧ (s.moveEntry v f rest).ptl = s.ptl ∧
    (s.moveEntry v f rest).vtu = s.vtu ∧ (s.moveEntry v f rest).mdc = s.mdc ∧
    (s.moveEntry v f rest).rse.reentry = s.rse.reentry ∧ (s.moveEntry v f rest).rse.repair = s.rse.repair ∧
    (s.moveEntry v f rest).rse.repairList = s.rse.repairList ∧ (s.moveEntry v f rest).cmi = s.cmi ∧
    (s.moveEntry v f rest).mem = s.mem ∧ (s.moveEntry v f rest).pending = s.pending := by
  unfold State.moveEntry; (try dsimp only); repeat' (first | (simp; done) | split)

@[simp] theorem State.queueForward_frame (s : State) (v : Service) (addr : ℕ) (w : Word) :
    (s.queueForward v addr w).chanId = s.chanId ∧ (s.queueForward v addr w).msize = s.msize ∧
    (s.queueForward v addr w).txi = s.txi ∧ (s.queueForward v addr w).rgt = s.rgt ∧
    (s.queueForward v addr w).ret = s.ret ∧ (s.queueForward v addr w).srm = s.srm ∧
    (s.queueForward v addr w).dgu = s.dgu ∧ (s.queueForward v addr w).ptl = s.ptl ∧
    (s.queueForward v addr w).vtu = s.vtu ∧ (s.queueForward v addr w).mdc = s.mdc ∧
    (s.queueForward v addr w).rse.reentry = s.rse.reentry ∧
    (s.queueForward v addr w).rse.repair = s.rse.repair ∧
    (s.queueForward v addr w).rse.repairList = s.rse.repairList ∧ (s.queueForward v addr w).cmi = s.cmi ∧
    (s.queueForward v addr w).mem = s.mem ∧ (s.queueForward v addr w).pending = s.pending := by
  unfold State.queueForward; (try dsimp only); repeat' (first | (simp; done) | split)

@[simp] theorem State.reportRow_frame (s : State) (row : ℕ) (word : ℕ) :
    (s.reportRow row word).chanId = s.chanId ∧ (s.reportRow row word).msize = s.msize ∧
    (s.reportRow row word).txi = s.txi ∧ (s.reportRow row word).rgt = s.rgt ∧
    (s.reportRow row word).msq = s.msq ∧ (s.reportRow row word).dgu = s.dgu ∧
    (s.reportRow row word).ptl = s.ptl ∧ (s.reportRow row word).lkc = s.lkc ∧
    (s.reportRow row word).vtu = s.vtu ∧ (s.reportRow row word).mdc = s.mdc ∧
    (s.reportRow row word).rse = s.rse ∧ (s.reportRow row word).cmi = s.cmi ∧
    (s.reportRow row word).mem = s.mem ∧ (s.reportRow row word).pending = s.pending := by
  unfold State.reportRow; (try dsimp only); repeat' (first | (simp; done) | split)

@[simp] theorem State.requestAgain_frame (s : State) (p : Port) (ends : ServiceKind → Bool) :
    (s.requestAgain p ends).chanId = s.chanId ∧ (s.requestAgain p ends).msize = s.msize ∧
    (s.requestAgain p ends).txi = s.txi ∧ (s.requestAgain p ends).rgt = s.rgt ∧
    (s.requestAgain p ends).ret = s.ret ∧ (s.requestAgain p ends).srm = s.srm ∧
    (s.requestAgain p ends).dgu = s.dgu ∧ (s.requestAgain p ends).ptl = s.ptl ∧
    (s.requestAgain p ends).vtu = s.vtu ∧ (s.requestAgain p ends).mdc = s.mdc ∧
    (s.requestAgain p ends).rse.reentry = s.rse.reentry ∧
    (s.requestAgain p ends).rse.repair = s.rse.repair ∧
    (s.requestAgain p ends).rse.repairList = s.rse.repairList ∧ (s.requestAgain p ends).cmi = s.cmi ∧
    (s.requestAgain p ends).mem = s.mem ∧ (s.requestAgain p ends).pending = s.pending := by
  unfold State.requestAgain; (try dsimp only); repeat' (first | (simp; done) | split)

@[simp] theorem State.serviceAbandoned_frame (s : State) (p : Port) :
    (s.serviceAbandoned p).chanId = s.chanId ∧ (s.serviceAbandoned p).msize = s.msize ∧
    (s.serviceAbandoned p).txi = s.txi ∧ (s.serviceAbandoned p).rgt = s.rgt ∧
    (s.serviceAbandoned p).ret = s.ret ∧ (s.serviceAbandoned p).srm = s.srm ∧
    (s.serviceAbandoned p).dgu = s.dgu ∧ (s.serviceAbandoned p).ptl = s.ptl ∧
    (s.serviceAbandoned p).vtu = s.vtu ∧ (s.serviceAbandoned p).mdc = s.mdc ∧
    (s.serviceAbandoned p).rse.reentry = s.rse.reentry ∧ (s.serviceAbandoned p).rse.repair = s.rse.repair ∧
    (s.serviceAbandoned p).rse.repairList = s.rse.repairList ∧ (s.serviceAbandoned p).cmi = s.cmi ∧
    (s.serviceAbandoned p).mem = s.mem ∧ (s.serviceAbandoned p).pending = s.pending := by
  unfold State.serviceAbandoned; (try dsimp only); repeat' (first | (simp; done) | split)

@[simp] theorem State.serviceHears_frame (s : State) (p : Port) (m : Option Mode) :
    (s.serviceHears p m).chanId = s.chanId ∧ (s.serviceHears p m).msize = s.msize ∧
    (s.serviceHears p m).txi = s.txi ∧ (s.serviceHears p m).rgt = s.rgt ∧ (s.serviceHears p m).ret = s.ret ∧
    (s.serviceHears p m).srm = s.srm ∧ (s.serviceHears p m).dgu = s.dgu ∧ (s.serviceHears p m).ptl = s.ptl ∧
    (s.serviceHears p m).vtu = s.vtu ∧ (s.serviceHears p m).mdc = s.mdc ∧
    (s.serviceHears p m).rse.reentry = s.rse.reentry ∧ (s.serviceHears p m).rse.repair = s.rse.repair ∧
    (s.serviceHears p m).rse.repairList = s.rse.repairList ∧ (s.serviceHears p m).cmi = s.cmi ∧
    (s.serviceHears p m).mem = s.mem ∧ (s.serviceHears p m).pending = s.pending := by
  unfold State.serviceHears; (try dsimp only); repeat' (first | (simp; done) | split)

@[simp] theorem State.serviceLinkDown_frame (s : State) (p : Port) :
    (s.serviceLinkDown p).chanId = s.chanId ∧ (s.serviceLinkDown p).msize = s.msize ∧
    (s.serviceLinkDown p).txi = s.txi ∧ (s.serviceLinkDown p).rgt = s.rgt ∧
    (s.serviceLinkDown p).ret = s.ret ∧ (s.serviceLinkDown p).srm = s.srm ∧
    (s.serviceLinkDown p).dgu = s.dgu ∧ (s.serviceLinkDown p).ptl = s.ptl ∧
    (s.serviceLinkDown p).vtu = s.vtu ∧ (s.serviceLinkDown p).mdc = s.mdc ∧
    (s.serviceLinkDown p).rse.reentry = s.rse.reentry ∧ (s.serviceLinkDown p).rse.repair = s.rse.repair ∧
    (s.serviceLinkDown p).rse.repairList = s.rse.repairList ∧ (s.serviceLinkDown p).cmi = s.cmi ∧
    (s.serviceLinkDown p).mem = s.mem ∧ (s.serviceLinkDown p).pending = s.pending := by
  unfold State.serviceLinkDown; (try dsimp only); repeat' (first | (simp; done) | split)

@[simp] theorem State.storeSetting_frame (s : State) (st : Setting) (v : ℕ) :
    (s.storeSetting st v).chanId = s.chanId ∧ (s.storeSetting st v).msize = s.msize ∧
    (s.storeSetting st v).txi = s.txi ∧ (s.storeSetting st v).rgt = s.rgt ∧
    (s.storeSetting st v).msq = s.msq ∧ (s.storeSetting st v).dgu = s.dgu ∧
    (s.storeSetting st v).ptl = s.ptl ∧ (s.storeSetting st v).lkc = s.lkc ∧
    (s.storeSetting st v).vtu = s.vtu ∧ (s.storeSetting st v).mdc = s.mdc ∧
    (s.storeSetting st v).rse = s.rse ∧ (s.storeSetting st v).cmi.words = s.cmi.words ∧
    (s.storeSetting st v).mem = s.mem ∧ (s.storeSetting st v).pending = s.pending := by
  unfold State.storeSetting; (try dsimp only); repeat' (first | (simp; done) | split)

@[simp] theorem State.takeJoined_frame (s : State) (p : Port) :
    (s.takeJoined p).chanId = s.chanId ∧ (s.takeJoined p).msize = s.msize ∧ (s.takeJoined p).txi = s.txi ∧
    (s.takeJoined p).rgt = s.rgt ∧ (s.takeJoined p).ret = s.ret ∧ (s.takeJoined p).srm = s.srm ∧
    (s.takeJoined p).dgu = s.dgu ∧ (s.takeJoined p).ptl = s.ptl ∧ (s.takeJoined p).vtu = s.vtu ∧
    (s.takeJoined p).mdc = s.mdc ∧ (s.takeJoined p).rse.reentry = s.rse.reentry ∧
    (s.takeJoined p).rse.repair = s.rse.repair ∧ (s.takeJoined p).rse.repairList = s.rse.repairList ∧
    (s.takeJoined p).cmi = s.cmi ∧ (s.takeJoined p).mem = s.mem ∧ (s.takeJoined p).pending = s.pending := by
  unfold State.takeJoined; (try dsimp only); repeat' (first | (simp; done) | split)

@[simp] theorem State.reportCorrected_frame (s : State) (g : Group) :
    (s.reportCorrected g).chanId = s.chanId ∧ (s.reportCorrected g).msize = s.msize ∧
    (s.reportCorrected g).txi = s.txi ∧ (s.reportCorrected g).rgt = s.rgt ∧
    (s.reportCorrected g).msq = s.msq ∧ (s.reportCorrected g).dgu = s.dgu ∧
    (s.reportCorrected g).ptl = s.ptl ∧ (s.reportCorrected g).lkc = s.lkc ∧
    (s.reportCorrected g).vtu = s.vtu ∧ (s.reportCorrected g).mdc = s.mdc ∧
    (s.reportCorrected g).rse = s.rse ∧ (s.reportCorrected g).cmi = s.cmi ∧
    (s.reportCorrected g).mem = s.mem ∧ (s.reportCorrected g).pending = s.pending := by
  unfold State.reportCorrected; (try dsimp only); repeat' (first | (simp; done) | split)

@[simp] theorem State.sourceWrite_frame (s : State) (addr : ℕ) (w : Word) :
    (s.sourceWrite addr w).chanId = s.chanId ∧ (s.sourceWrite addr w).msize = s.msize ∧
    (s.sourceWrite addr w).txi = s.txi ∧ (s.sourceWrite addr w).rgt = s.rgt ∧
    (s.sourceWrite addr w).ret = s.ret ∧ (s.sourceWrite addr w).srm = s.srm ∧
    (s.sourceWrite addr w).dgu = s.dgu ∧ (s.sourceWrite addr w).ptl = s.ptl ∧
    (s.sourceWrite addr w).vtu = s.vtu ∧ (s.sourceWrite addr w).mdc = s.mdc ∧
    (s.sourceWrite addr w).rse.reentry = s.rse.reentry ∧ (s.sourceWrite addr w).rse.repair = s.rse.repair ∧
    (s.sourceWrite addr w).rse.repairList = s.rse.repairList ∧ (s.sourceWrite addr w).cmi = s.cmi ∧
    (s.sourceWrite addr w).mem = s.mem ∧ (s.sourceWrite addr w).pending = s.pending := by
  unfold State.sourceWrite; (try dsimp only); repeat' (first | (simp; done) | split)

@[simp] theorem State.reportSource_frame (s : State) (g : Group) (changed : Bool) (new : Word) :
    (s.reportSource g changed new).chanId = s.chanId ∧ (s.reportSource g changed new).msize = s.msize ∧
    (s.reportSource g changed new).txi = s.txi ∧ (s.reportSource g changed new).rgt = s.rgt ∧
    (s.reportSource g changed new).ret = s.ret ∧ (s.reportSource g changed new).srm = s.srm ∧
    (s.reportSource g changed new).dgu = s.dgu ∧ (s.reportSource g changed new).ptl = s.ptl ∧
    (s.reportSource g changed new).vtu = s.vtu ∧ (s.reportSource g changed new).mdc = s.mdc ∧
    (s.reportSource g changed new).rse.reentry = s.rse.reentry ∧
    (s.reportSource g changed new).rse.repair = s.rse.repair ∧
    (s.reportSource g changed new).rse.repairList = s.rse.repairList ∧
    (s.reportSource g changed new).cmi = s.cmi ∧ (s.reportSource g changed new).mem = s.mem ∧
    (s.reportSource g changed new).pending = s.pending := by
  unfold State.reportSource; (try dsimp only); repeat' (first | (simp; done) | split)

@[simp] theorem State.takeRepairRequest_frame (s : State) (p : Port) (td : ℕ) (block : ℕ) :
    (s.takeRepairRequest p td block).chanId = s.chanId ∧ (s.takeRepairRequest p td block).msize = s.msize ∧
    (s.takeRepairRequest p td block).txi = s.txi ∧ (s.takeRepairRequest p td block).rgt = s.rgt ∧
    (s.takeRepairRequest p td block).ret = s.ret ∧ (s.takeRepairRequest p td block).srm = s.srm ∧
    (s.takeRepairRequest p td block).dgu = s.dgu ∧ (s.takeRepairRequest p td block).ptl = s.ptl ∧
    (s.takeRepairRequest p td block).vtu = s.vtu ∧ (s.takeRepairRequest p td block).mdc = s.mdc ∧
    (s.takeRepairRequest p td block).rse.reentry = s.rse.reentry ∧
    (s.takeRepairRequest p td block).rse.repair = s.rse.repair ∧
    (s.takeRepairRequest p td block).rse.repairList = s.rse.repairList ∧
    (s.takeRepairRequest p td block).cmi = s.cmi ∧ (s.takeRepairRequest p td block).mem = s.mem ∧
    (s.takeRepairRequest p td block).pending = s.pending := by
  unfold State.takeRepairRequest; (try dsimp only); repeat' (first | (simp; done) | split)

@[simp] theorem State.takeCopyRequest_frame (s : State) (p : Port) (td : ℕ) :
    (s.takeCopyRequest p td).chanId = s.chanId ∧ (s.takeCopyRequest p td).msize = s.msize ∧
    (s.takeCopyRequest p td).txi = s.txi ∧ (s.takeCopyRequest p td).rgt = s.rgt ∧
    (s.takeCopyRequest p td).ret = s.ret ∧ (s.takeCopyRequest p td).srm = s.srm ∧
    (s.takeCopyRequest p td).dgu = s.dgu ∧ (s.takeCopyRequest p td).ptl = s.ptl ∧
    (s.takeCopyRequest p td).vtu = s.vtu ∧ (s.takeCopyRequest p td).mdc = s.mdc ∧
    (s.takeCopyRequest p td).rse.reentry = s.rse.reentry ∧
    (s.takeCopyRequest p td).rse.repair = s.rse.repair ∧
    (s.takeCopyRequest p td).rse.repairList = s.rse.repairList ∧ (s.takeCopyRequest p td).cmi = s.cmi ∧
    (s.takeCopyRequest p td).mem = s.mem ∧ (s.takeCopyRequest p td).pending = s.pending := by
  unfold State.takeCopyRequest; (try dsimp only); repeat' (first | (simp; done) | split)

@[simp] theorem State.endServices_frame (s : State) (reason : Word) (iso : Bool) :
    (s.endServices reason iso).chanId = s.chanId ∧ (s.endServices reason iso).msize = s.msize ∧
    (s.endServices reason iso).txi = s.txi ∧ (s.endServices reason iso).rgt = s.rgt ∧
    (s.endServices reason iso).ret = s.ret ∧ (s.endServices reason iso).srm = s.srm ∧
    (s.endServices reason iso).dgu = s.dgu ∧ (s.endServices reason iso).ptl = s.ptl ∧
    (s.endServices reason iso).vtu = s.vtu ∧ (s.endServices reason iso).mdc = s.mdc ∧
    (s.endServices reason iso).cmi = s.cmi ∧ (s.endServices reason iso).mem = s.mem ∧
    (s.endServices reason iso).pending = s.pending := by
  unfold State.endServices; (try dsimp only); repeat' (first | (simp; done) | split)

@[simp] theorem State.restoringWriteEnd_frame (s : State) (g : Group) (p : Port) (v : Word) :
    (s.restoringWriteEnd g p v).chanId = s.chanId ∧ (s.restoringWriteEnd g p v).msize = s.msize ∧
    (s.restoringWriteEnd g p v).txi = s.txi ∧ (s.restoringWriteEnd g p v).rgt = s.rgt ∧
    (s.restoringWriteEnd g p v).dgu = s.dgu ∧ (s.restoringWriteEnd g p v).ptl = s.ptl ∧
    (s.restoringWriteEnd g p v).vtu = s.vtu ∧ (s.restoringWriteEnd g p v).mdc = s.mdc ∧
    (s.restoringWriteEnd g p v).rse.service = s.rse.service ∧
    (s.restoringWriteEnd g p v).rse.reentry = s.rse.reentry ∧
    (s.restoringWriteEnd g p v).rse.repairList = s.rse.repairList ∧
    (s.restoringWriteEnd g p v).cmi = s.cmi ∧ (s.restoringWriteEnd g p v).pending = s.pending := by
  unfold State.restoringWriteEnd; (try dsimp only); repeat' (first | (simp; done) | split)

@[simp] theorem State.restartBlocks_frame (s : State) :
    s.restartBlocks.chanId = s.chanId ∧ s.restartBlocks.msize = s.msize ∧ s.restartBlocks.txi = s.txi ∧
    s.restartBlocks.mdc = s.mdc ∧ s.restartBlocks.cmi = s.cmi ∧ s.restartBlocks.mem = s.mem ∧
    s.restartBlocks.pending = s.pending := by
  unfold State.restartBlocks; (try dsimp only); repeat' (first | (simp; done) | split)

@[simp] theorem State.restart_frame (s : State) :
    s.restart.chanId = s.chanId ∧ s.restart.msize = s.msize ∧ s.restart.txi = s.txi ∧
    s.restart.cmi = s.cmi ∧ s.restart.mem = s.mem ∧ s.restart.pending = s.pending := by
  unfold State.restart; (try dsimp only); repeat' (first | (simp; done) | split)

@[simp] theorem State.cmdRestart_frame (s : State) :
    s.cmdRestart.chanId = s.chanId ∧ s.cmdRestart.msize = s.msize ∧ s.cmdRestart.txi = s.txi ∧
    s.cmdRestart.cmi.settings = s.cmi.settings ∧ s.cmdRestart.mem = s.mem ∧
    s.cmdRestart.pending = s.pending := by
  unfold State.cmdRestart; (try dsimp only); repeat' (first | (simp; done) | split)

end Sys2Proof.Machine
end

