-- ==== Sys2Proof/Laws/Frame.lean ====
section
/-! SUPPORT. The same for the compound operations: what a decision, a change of mode, a walk, a service or a whole
command leaves unchanged. -/

set_option linter.unusedTactic false
set_option linter.unreachableTactic false

namespace Sys2Proof.Machine

@[simp] theorem State.cmdJoinAt_frame (s : State) :
    s.cmdJoinAt.chanId = s.chanId ∧ s.cmdJoinAt.msize = s.msize ∧ s.cmdJoinAt.txi = s.txi ∧
    s.cmdJoinAt.rgt = s.rgt ∧ s.cmdJoinAt.msq = s.msq ∧ s.cmdJoinAt.ret = s.ret ∧ s.cmdJoinAt.srm = s.srm ∧
    s.cmdJoinAt.dgu = s.dgu ∧ s.cmdJoinAt.ptl = s.ptl ∧ s.cmdJoinAt.lkc = s.lkc ∧ s.cmdJoinAt.vtu = s.vtu ∧
    s.cmdJoinAt.mdc = s.mdc ∧ s.cmdJoinAt.rse.service = s.rse.service ∧
    s.cmdJoinAt.rse.repair = s.rse.repair ∧ s.cmdJoinAt.rse.repairList = s.rse.repairList ∧
    s.cmdJoinAt.evu = s.evu ∧ s.cmdJoinAt.cmi.settings = s.cmi.settings ∧ s.cmdJoinAt.mem = s.mem ∧
    s.cmdJoinAt.pending = s.pending := by
  and_intros
  all_goals
    unfold State.cmdJoinAt; (try unfold State.acceptedIn); (try dsimp only)
    repeat' (first | (simp; done) | split)

@[simp] theorem State.cmdTableWrite_frame (s : State) :
    s.cmdTableWrite.chanId = s.chanId ∧ s.cmdTableWrite.msize = s.msize ∧ s.cmdTableWrite.txi = s.txi ∧
    s.cmdTableWrite.rgt.closed = s.rgt.closed ∧ s.cmdTableWrite.msq = s.msq ∧ s.cmdTableWrite.ret = s.ret ∧
    s.cmdTableWrite.srm = s.srm ∧ s.cmdTableWrite.dgu = s.dgu ∧ s.cmdTableWrite.ptl = s.ptl ∧
    s.cmdTableWrite.lkc = s.lkc ∧ s.cmdTableWrite.vtu = s.vtu ∧ s.cmdTableWrite.mdc = s.mdc ∧
    s.cmdTableWrite.rse = s.rse ∧ s.cmdTableWrite.evu = s.evu ∧
    s.cmdTableWrite.cmi.settings = s.cmi.settings ∧ s.cmdTableWrite.mem = s.mem ∧
    s.cmdTableWrite.pending = s.pending := by
  and_intros
  all_goals
    unfold State.cmdTableWrite; (try unfold State.acceptedIn); (try dsimp only)
    repeat' (first | (simp; done) | split)

@[simp] theorem State.skipListed_frame (k : Nat) (s : State) :
    (State.skipListed k s).chanId = s.chanId ∧ (State.skipListed k s).msize = s.msize ∧
    (State.skipListed k s).txi = s.txi ∧ (State.skipListed k s).rgt = s.rgt ∧
    (State.skipListed k s).msq = s.msq ∧ (State.skipListed k s).ret = s.ret ∧
    (State.skipListed k s).srm = s.srm ∧ (State.skipListed k s).dgu.tableDigest = s.dgu.tableDigest ∧
    (State.skipListed k s).lkc = s.lkc ∧ (State.skipListed k s).vtu = s.vtu ∧
    (State.skipListed k s).mdc = s.mdc ∧ (State.skipListed k s).rse = s.rse ∧
    (State.skipListed k s).cmi = s.cmi ∧ (State.skipListed k s).mem = s.mem ∧
    (State.skipListed k s).pending = s.pending := by
  induction k generalizing s with
  | zero => simp [State.skipListed]
  | succ k ih =>
    unfold State.skipListed
    repeat' (first | (simp [ih]; done) | split)

@[simp] theorem State.skip_frame (s : State) :
    s.skip.chanId = s.chanId ∧ s.skip.msize = s.msize ∧ s.skip.txi = s.txi ∧ s.skip.rgt = s.rgt ∧
    s.skip.msq = s.msq ∧ s.skip.ret = s.ret ∧ s.skip.srm = s.srm ∧
    s.skip.dgu.tableDigest = s.dgu.tableDigest ∧ s.skip.lkc = s.lkc ∧ s.skip.vtu = s.vtu ∧
    s.skip.mdc = s.mdc ∧ s.skip.rse = s.rse ∧ s.skip.cmi = s.cmi ∧ s.skip.mem = s.mem ∧
    s.skip.pending = s.pending := by
  and_intros
  all_goals
    unfold State.skip; (try unfold State.acceptedIn); (try dsimp only)
    repeat' (first | (simp; done) | split)

@[simp] theorem State.resumeScrub_frame (s : State) :
    s.resumeScrub.chanId = s.chanId ∧ s.resumeScrub.msize = s.msize ∧ s.resumeScrub.txi = s.txi ∧
    s.resumeScrub.rgt = s.rgt ∧ s.resumeScrub.msq = s.msq ∧ s.resumeScrub.ret = s.ret ∧
    s.resumeScrub.srm = s.srm ∧ s.resumeScrub.dgu.tableDigest = s.dgu.tableDigest ∧
    s.resumeScrub.lkc = s.lkc ∧ s.resumeScrub.vtu = s.vtu ∧ s.resumeScrub.mdc = s.mdc ∧
    s.resumeScrub.rse = s.rse ∧ s.resumeScrub.cmi = s.cmi ∧ s.resumeScrub.mem = s.mem ∧
    s.resumeScrub.pending = s.pending := by
  and_intros
  all_goals
    unfold State.resumeScrub; (try unfold State.acceptedIn); (try dsimp only)
    repeat' (first | (simp; done) | split)

@[simp] theorem State.scrubOn_frame (s : State) (i : Fin 32) (w : ℕ) :
    (s.scrubOn i w).chanId = s.chanId ∧ (s.scrubOn i w).msize = s.msize ∧ (s.scrubOn i w).txi = s.txi ∧
    (s.scrubOn i w).rgt = s.rgt ∧ (s.scrubOn i w).msq = s.msq ∧ (s.scrubOn i w).ret = s.ret ∧
    (s.scrubOn i w).srm = s.srm ∧ (s.scrubOn i w).dgu.tableDigest = s.dgu.tableDigest ∧
    (s.scrubOn i w).lkc = s.lkc ∧ (s.scrubOn i w).vtu = s.vtu ∧ (s.scrubOn i w).mdc = s.mdc ∧
    (s.scrubOn i w).rse = s.rse ∧ (s.scrubOn i w).cmi = s.cmi ∧ (s.scrubOn i w).mem = s.mem ∧
    (s.scrubOn i w).pending = s.pending := by
  and_intros
  all_goals
    unfold State.scrubOn; (try unfold State.acceptedIn); (try dsimp only)
    repeat' (first | (simp; done) | split)

@[simp] theorem State.startScrub_frame (s : State) :
    s.startScrub.chanId = s.chanId ∧ s.startScrub.msize = s.msize ∧ s.startScrub.txi = s.txi ∧
    s.startScrub.rgt = s.rgt ∧ s.startScrub.msq = s.msq ∧ s.startScrub.ret = s.ret ∧
    s.startScrub.srm = s.srm ∧ s.startScrub.dgu.tableDigest = s.dgu.tableDigest ∧ s.startScrub.lkc = s.lkc ∧
    s.startScrub.vtu = s.vtu ∧ s.startScrub.mdc = s.mdc ∧ s.startScrub.rse = s.rse ∧
    s.startScrub.cmi = s.cmi ∧ s.startScrub.mem = s.mem ∧ s.startScrub.pending = s.pending := by
  and_intros
  all_goals
    unfold State.startScrub; (try unfold State.acceptedIn); (try dsimp only)
    repeat' (first | (simp; done) | split)

@[simp] theorem State.cmdSettingsWrite_frame (s : State) :
    s.cmdSettingsWrite.chanId = s.chanId ∧ s.cmdSettingsWrite.msize = s.msize ∧
    s.cmdSettingsWrite.txi = s.txi ∧ s.cmdSettingsWrite.rgt = s.rgt ∧ s.cmdSettingsWrite.msq = s.msq ∧
    s.cmdSettingsWrite.dgu = s.dgu ∧ s.cmdSettingsWrite.ptl = s.ptl ∧ s.cmdSettingsWrite.lkc = s.lkc ∧
    s.cmdSettingsWrite.vtu = s.vtu ∧ s.cmdSettingsWrite.mdc = s.mdc ∧ s.cmdSettingsWrite.rse = s.rse ∧
    s.cmdSettingsWrite.mem = s.mem ∧ s.cmdSettingsWrite.pending = s.pending := by
  and_intros
  all_goals
    unfold State.cmdSettingsWrite; (try unfold State.acceptedIn); (try dsimp only)
    repeat' (first | (simp; done) | split)

@[simp] theorem State.patrolIsolated_frame (s : State) (old : Mode) :
    (s.patrolIsolated old).chanId = s.chanId ∧ (s.patrolIsolated old).msize = s.msize ∧
    (s.patrolIsolated old).txi = s.txi ∧ (s.patrolIsolated old).rgt = s.rgt ∧
    (s.patrolIsolated old).ret = s.ret ∧ (s.patrolIsolated old).srm = s.srm ∧
    (s.patrolIsolated old).dgu.tableDigest = s.dgu.tableDigest ∧ (s.patrolIsolated old).lkc = s.lkc ∧
    (s.patrolIsolated old).vtu = s.vtu ∧ (s.patrolIsolated old).mdc = s.mdc ∧
    (s.patrolIsolated old).rse = s.rse ∧ (s.patrolIsolated old).cmi = s.cmi ∧
    (s.patrolIsolated old).mem = s.mem ∧ (s.patrolIsolated old).pending = s.pending := by
  and_intros
  all_goals
    unfold State.patrolIsolated; (try unfold State.acceptedIn); (try dsimp only)
    repeat' (first | (simp; done) | split)

@[simp] theorem State.patrolFollows_frame (s : State) (old : Mode) (new : Mode) :
    (s.patrolFollows old new).chanId = s.chanId ∧ (s.patrolFollows old new).msize = s.msize ∧
    (s.patrolFollows old new).txi = s.txi ∧ (s.patrolFollows old new).rgt = s.rgt ∧
    (s.patrolFollows old new).ret = s.ret ∧ (s.patrolFollows old new).srm = s.srm ∧
    (s.patrolFollows old new).dgu.tableDigest = s.dgu.tableDigest ∧ (s.patrolFollows old new).lkc = s.lkc ∧
    (s.patrolFollows old new).vtu = s.vtu ∧ (s.patrolFollows old new).mdc = s.mdc ∧
    (s.patrolFollows old new).rse = s.rse ∧ (s.patrolFollows old new).cmi = s.cmi ∧
    (s.patrolFollows old new).mem = s.mem ∧ (s.patrolFollows old new).pending = s.pending := by
  and_intros
  all_goals
    unfold State.patrolFollows; (try unfold State.acceptedIn); (try dsimp only)
    repeat' (first | (simp; done) | split)

@[simp] theorem State.enterMode_frame (s : State) (m : Mode) :
    (s.enterMode m).chanId = s.chanId ∧ (s.enterMode m).msize = s.msize ∧ (s.enterMode m).txi = s.txi ∧
    (s.enterMode m).rgt = s.rgt ∧ (s.enterMode m).dgu.tableDigest = s.dgu.tableDigest ∧
    (s.enterMode m).lkc = s.lkc ∧ (s.enterMode m).vtu.last = s.vtu.last ∧
    (s.enterMode m).vtu.records = s.vtu.records ∧ (s.enterMode m).rse = s.rse ∧
    (s.enterMode m).cmi = s.cmi ∧ (s.enterMode m).mem = s.mem ∧ (s.enterMode m).pending = s.pending := by
  and_intros
  all_goals
    unfold State.enterMode; (try unfold State.acceptedIn); (try dsimp only)
    repeat' (first | (simp; done) | split)

@[simp] theorem State.requestMode_frame (s : State) (m : Mode) :
    (s.requestMode m).chanId = s.chanId ∧ (s.requestMode m).msize = s.msize ∧
    (s.requestMode m).txi = s.txi ∧ (s.requestMode m).rgt = s.rgt ∧
    (s.requestMode m).dgu.tableDigest = s.dgu.tableDigest ∧ (s.requestMode m).lkc = s.lkc ∧
    (s.requestMode m).vtu.last = s.vtu.last ∧ (s.requestMode m).vtu.records = s.vtu.records ∧
    (s.requestMode m).rse = s.rse ∧ (s.requestMode m).cmi = s.cmi ∧ (s.requestMode m).mem = s.mem ∧
    (s.requestMode m).pending = s.pending := by
  and_intros
  all_goals
    unfold State.requestMode; (try unfold State.acceptedIn); (try dsimp only)
    repeat' (first | (simp; done) | split)

@[simp] theorem State.closeTable_frame (s : State) :
    s.closeTable.chanId = s.chanId ∧ s.closeTable.msize = s.msize ∧ s.closeTable.txi = s.txi ∧
    s.closeTable.rgt.table = s.rgt.table ∧ s.closeTable.lkc = s.lkc ∧ s.closeTable.vtu.last = s.vtu.last ∧
    s.closeTable.vtu.records = s.vtu.records ∧ s.closeTable.rse = s.rse ∧ s.closeTable.cmi = s.cmi ∧
    s.closeTable.mem = s.mem ∧ s.closeTable.pending = s.pending := by
  and_intros
  all_goals
    unfold State.closeTable; (try unfold State.acceptedIn); (try dsimp only)
    repeat' (first | (simp; done) | split)

@[simp] theorem State.clearEnd_frame (s : State) (i : Fin 32) (w : ℕ) :
    (s.clearEnd i w).chanId = s.chanId ∧ (s.clearEnd i w).msize = s.msize ∧ (s.clearEnd i w).txi = s.txi ∧
    (s.clearEnd i w).rgt = s.rgt ∧ (s.clearEnd i w).dgu.tableDigest = s.dgu.tableDigest ∧
    (s.clearEnd i w).lkc = s.lkc ∧ (s.clearEnd i w).vtu.last = s.vtu.last ∧
    (s.clearEnd i w).vtu.records = s.vtu.records ∧ (s.clearEnd i w).rse = s.rse ∧
    (s.clearEnd i w).cmi = s.cmi ∧ (s.clearEnd i w).mem = s.mem ∧ (s.clearEnd i w).pending = s.pending := by
  and_intros
  all_goals
    unfold State.clearEnd; (try unfold State.acceptedIn); (try dsimp only)
    repeat' (first | (simp; done) | split)

@[simp] theorem State.repairSucceeded_frame (s : State) :
    s.repairSucceeded.chanId = s.chanId ∧ s.repairSucceeded.msize = s.msize ∧
    s.repairSucceeded.txi = s.txi ∧ s.repairSucceeded.rgt = s.rgt ∧
    s.repairSucceeded.dgu.tableDigest = s.dgu.tableDigest ∧ s.repairSucceeded.lkc = s.lkc ∧
    s.repairSucceeded.vtu.last = s.vtu.last ∧ s.repairSucceeded.vtu.records = s.vtu.records ∧
    s.repairSucceeded.rse.service = s.rse.service ∧ s.repairSucceeded.rse.reentry = s.rse.reentry ∧
    s.repairSucceeded.rse.repairList = s.rse.repairList ∧ s.repairSucceeded.cmi = s.cmi ∧
    s.repairSucceeded.mem = s.mem ∧ s.repairSucceeded.pending = s.pending := by
  and_intros
  all_goals
    unfold State.repairSucceeded; (try unfold State.acceptedIn); (try dsimp only)
    repeat' (first | (simp; done) | split)

@[simp] theorem State.takeCopyEnd_frame (s : State) (p : Port) :
    (s.takeCopyEnd p).chanId = s.chanId ∧ (s.takeCopyEnd p).msize = s.msize ∧
    (s.takeCopyEnd p).txi = s.txi ∧ (s.takeCopyEnd p).rgt = s.rgt ∧
    (s.takeCopyEnd p).dgu.tableDigest = s.dgu.tableDigest ∧ (s.takeCopyEnd p).lkc = s.lkc ∧
    (s.takeCopyEnd p).vtu.last = s.vtu.last ∧ (s.takeCopyEnd p).vtu.records = s.vtu.records ∧
    (s.takeCopyEnd p).rse.service = s.rse.service ∧ (s.takeCopyEnd p).rse.repair = s.rse.repair ∧
    (s.takeCopyEnd p).rse.repairList = s.rse.repairList ∧ (s.takeCopyEnd p).cmi = s.cmi ∧
    (s.takeCopyEnd p).mem = s.mem ∧ (s.takeCopyEnd p).pending = s.pending := by
  and_intros
  all_goals
    unfold State.takeCopyEnd; (try unfold State.acceptedIn); (try dsimp only)
    repeat' (first | (simp; done) | split)

@[simp] theorem State.cmdColdStart_frame (s : State) :
    s.cmdColdStart.chanId = s.chanId ∧ s.cmdColdStart.msize = s.msize ∧ s.cmdColdStart.txi = s.txi ∧
    s.cmdColdStart.rgt = s.rgt ∧ s.cmdColdStart.dgu.tableDigest = s.dgu.tableDigest ∧
    s.cmdColdStart.lkc = s.lkc ∧ s.cmdColdStart.vtu.last = s.vtu.last ∧
    s.cmdColdStart.vtu.records = s.vtu.records ∧ s.cmdColdStart.rse = s.rse ∧
    s.cmdColdStart.cmi.settings = s.cmi.settings ∧ s.cmdColdStart.mem = s.mem ∧
    s.cmdColdStart.pending = s.pending := by
  and_intros
  all_goals
    unfold State.cmdColdStart; (try unfold State.acceptedIn); (try dsimp only)
    repeat' (first | (simp; done) | split)

@[simp] theorem State.cmdTableOpen_frame (s : State) :
    s.cmdTableOpen.chanId = s.chanId ∧ s.cmdTableOpen.msize = s.msize ∧ s.cmdTableOpen.txi = s.txi ∧
    s.cmdTableOpen.dgu.tableDigest = s.dgu.tableDigest ∧ s.cmdTableOpen.lkc = s.lkc ∧
    s.cmdTableOpen.vtu.last = s.vtu.last ∧ s.cmdTableOpen.vtu.records = s.vtu.records ∧
    s.cmdTableOpen.rse = s.rse ∧ s.cmdTableOpen.cmi.settings = s.cmi.settings ∧ s.cmdTableOpen.mem = s.mem ∧
    s.cmdTableOpen.pending = s.pending := by
  and_intros
  all_goals
    unfold State.cmdTableOpen; (try unfold State.acceptedIn); (try dsimp only)
    repeat' (first | (simp; done) | split)

@[simp] theorem State.cmdTableClose_frame (s : State) :
    s.cmdTableClose.chanId = s.chanId ∧ s.cmdTableClose.msize = s.msize ∧ s.cmdTableClose.txi = s.txi ∧
    s.cmdTableClose.rgt.table = s.rgt.table ∧ s.cmdTableClose.lkc = s.lkc ∧
    s.cmdTableClose.vtu.last = s.vtu.last ∧ s.cmdTableClose.vtu.records = s.vtu.records ∧
    s.cmdTableClose.rse = s.rse ∧ s.cmdTableClose.cmi.settings = s.cmi.settings ∧
    s.cmdTableClose.mem = s.mem ∧ s.cmdTableClose.pending = s.pending := by
  and_intros
  all_goals
    unfold State.cmdTableClose; (try unfold State.acceptedIn); (try dsimp only)
    repeat' (first | (simp; done) | split)

@[simp] theorem State.clearWriteEnd_frame (s : State) (g : Group) (i : Fin 32) (w : ℕ) :
    (s.clearWriteEnd g i w).chanId = s.chanId ∧ (s.clearWriteEnd g i w).msize = s.msize ∧
    (s.clearWriteEnd g i w).txi = s.txi ∧ (s.clearWriteEnd g i w).rgt = s.rgt ∧
    (s.clearWriteEnd g i w).dgu.tableDigest = s.dgu.tableDigest ∧ (s.clearWriteEnd g i w).lkc = s.lkc ∧
    (s.clearWriteEnd g i w).vtu.last = s.vtu.last ∧ (s.clearWriteEnd g i w).vtu.records = s.vtu.records ∧
    (s.clearWriteEnd g i w).rse = s.rse ∧ (s.clearWriteEnd g i w).cmi = s.cmi ∧
    (s.clearWriteEnd g i w).pending = s.pending := by
  and_intros
  all_goals
    unfold State.clearWriteEnd; (try unfold State.acceptedIn); (try dsimp only)
    repeat' (first | (simp; done) | split)

@[simp] theorem State.joinNow_frame (s : State) (p : Port) (n : Word) :
    (s.joinNow p n).chanId = s.chanId ∧ (s.joinNow p n).msize = s.msize ∧ (s.joinNow p n).txi = s.txi ∧
    (s.joinNow p n).rgt = s.rgt ∧ (s.joinNow p n).dgu.tableDigest = s.dgu.tableDigest ∧
    (s.joinNow p n).vtu.records = s.vtu.records ∧ (s.joinNow p n).rse.service = s.rse.service ∧
    (s.joinNow p n).rse.repair = s.rse.repair ∧ (s.joinNow p n).rse.repairList = s.rse.repairList ∧
    (s.joinNow p n).cmi = s.cmi ∧ (s.joinNow p n).mem = s.mem ∧ (s.joinNow p n).pending = s.pending := by
  and_intros
  all_goals
    unfold State.joinNow; (try unfold State.acceptedIn); (try dsimp only)
    repeat' (first | (simp; done) | split)

@[simp] theorem State.enterIsolated_frame (s : State) (c : Cause) :
    (s.enterIsolated c).chanId = s.chanId ∧ (s.enterIsolated c).msize = s.msize ∧
    (s.enterIsolated c).txi = s.txi ∧ (s.enterIsolated c).rgt = s.rgt ∧
    (s.enterIsolated c).dgu.tableDigest = s.dgu.tableDigest ∧ (s.enterIsolated c).vtu.last = s.vtu.last ∧
    (s.enterIsolated c).cmi = s.cmi ∧ (s.enterIsolated c).mem = s.mem ∧
    (s.enterIsolated c).pending = s.pending := by
  and_intros
  all_goals
    unfold State.enterIsolated; (try unfold State.acceptedIn); (try dsimp only)
    repeat' (first | (simp; done) | split)

@[simp] theorem State.tryJoin_frame (s : State) (p : Port) (v : Reentry) (m : Word) :
    (s.tryJoin p v m).chanId = s.chanId ∧ (s.tryJoin p v m).msize = s.msize ∧
    (s.tryJoin p v m).txi = s.txi ∧ (s.tryJoin p v m).rgt = s.rgt ∧
    (s.tryJoin p v m).dgu.tableDigest = s.dgu.tableDigest ∧ (s.tryJoin p v m).vtu.records = s.vtu.records ∧
    (s.tryJoin p v m).rse.service = s.rse.service ∧ (s.tryJoin p v m).rse.repair = s.rse.repair ∧
    (s.tryJoin p v m).rse.repairList = s.rse.repairList ∧ (s.tryJoin p v m).cmi = s.cmi ∧
    (s.tryJoin p v m).mem = s.mem ∧ (s.tryJoin p v m).pending = s.pending := by
  and_intros
  all_goals
    unfold State.tryJoin; (try unfold State.acceptedIn); (try dsimp only)
    repeat' (first | (simp; done) | split)

@[simp] theorem State.isolateFor_frame (s : State) (c : Cause) :
    (s.isolateFor c).chanId = s.chanId ∧ (s.isolateFor c).msize = s.msize ∧ (s.isolateFor c).txi = s.txi ∧
    (s.isolateFor c).rgt = s.rgt ∧ (s.isolateFor c).dgu.tableDigest = s.dgu.tableDigest ∧
    (s.isolateFor c).vtu.last = s.vtu.last ∧ (s.isolateFor c).cmi = s.cmi ∧ (s.isolateFor c).mem = s.mem ∧
    (s.isolateFor c).pending = s.pending := by
  and_intros
  all_goals
    unfold State.isolateFor; (try unfold State.acceptedIn); (try dsimp only)
    repeat' (first | (simp; done) | split)

@[simp] theorem State.mirrorAgrees_frame (s : State) (p : Port) (v : Reentry) (m : Word) :
    (s.mirrorAgrees p v m).chanId = s.chanId ∧ (s.mirrorAgrees p v m).msize = s.msize ∧
    (s.mirrorAgrees p v m).txi = s.txi ∧ (s.mirrorAgrees p v m).rgt = s.rgt ∧
    (s.mirrorAgrees p v m).dgu.tableDigest = s.dgu.tableDigest ∧
    (s.mirrorAgrees p v m).vtu.records = s.vtu.records ∧
    (s.mirrorAgrees p v m).rse.service = s.rse.service ∧ (s.mirrorAgrees p v m).rse.repair = s.rse.repair ∧
    (s.mirrorAgrees p v m).rse.repairList = s.rse.repairList ∧ (s.mirrorAgrees p v m).cmi = s.cmi ∧
    (s.mirrorAgrees p v m).mem = s.mem ∧ (s.mirrorAgrees p v m).pending = s.pending := by
  and_intros
  all_goals
    unfold State.mirrorAgrees; (try unfold State.acceptedIn); (try dsimp only)
    repeat' (first | (simp; done) | split)

@[simp] theorem State.mirrorDiffers_frame (s : State) :
    s.mirrorDiffers.chanId = s.chanId ∧ s.mirrorDiffers.msize = s.msize ∧ s.mirrorDiffers.txi = s.txi ∧
    s.mirrorDiffers.rgt = s.rgt ∧ s.mirrorDiffers.dgu.tableDigest = s.dgu.tableDigest ∧
    s.mirrorDiffers.vtu.last = s.vtu.last ∧ s.mirrorDiffers.cmi = s.cmi ∧ s.mirrorDiffers.mem = s.mem ∧
    s.mirrorDiffers.pending = s.pending := by
  and_intros
  all_goals
    unfold State.mirrorDiffers; (try unfold State.acceptedIn); (try dsimp only)
    repeat' (first | (simp; done) | split)

@[simp] theorem State.reentryHears_frame (s : State) (p : Port) (stays : Bool) :
    (s.reentryHears p stays).chanId = s.chanId ∧ (s.reentryHears p stays).msize = s.msize ∧
    (s.reentryHears p stays).txi = s.txi ∧ (s.reentryHears p stays).rgt = s.rgt ∧
    (s.reentryHears p stays).dgu.tableDigest = s.dgu.tableDigest ∧
    (s.reentryHears p stays).vtu.last = s.vtu.last ∧ (s.reentryHears p stays).cmi = s.cmi ∧
    (s.reentryHears p stays).mem = s.mem ∧ (s.reentryHears p stays).pending = s.pending := by
  and_intros
  all_goals
    unfold State.reentryHears; (try unfold State.acceptedIn); (try dsimp only)
    repeat' (first | (simp; done) | split)

@[simp] theorem State.repairFailed_frame (s : State) :
    s.repairFailed.chanId = s.chanId ∧ s.repairFailed.msize = s.msize ∧ s.repairFailed.txi = s.txi ∧
    s.repairFailed.rgt = s.rgt ∧ s.repairFailed.dgu.tableDigest = s.dgu.tableDigest ∧
    s.repairFailed.vtu.last = s.vtu.last ∧ s.repairFailed.cmi = s.cmi ∧ s.repairFailed.mem = s.mem ∧
    s.repairFailed.pending = s.pending := by
  and_intros
  all_goals
    unfold State.repairFailed; (try unfold State.acceptedIn); (try dsimp only)
    repeat' (first | (simp; done) | split)

@[simp] theorem State.ridingDrift_frame (s : State) :
    s.ridingDrift.chanId = s.chanId ∧ s.ridingDrift.msize = s.msize ∧ s.ridingDrift.txi = s.txi ∧
    s.ridingDrift.rgt = s.rgt ∧ s.ridingDrift.dgu.tableDigest = s.dgu.tableDigest ∧
    s.ridingDrift.vtu.last = s.vtu.last ∧ s.ridingDrift.cmi = s.cmi ∧ s.ridingDrift.mem = s.mem ∧
    s.ridingDrift.pending = s.pending := by
  and_intros
  all_goals
    unfold State.ridingDrift; (try unfold State.acceptedIn); (try dsimp only)
    repeat' (first | (simp; done) | split)

@[simp] theorem State.seekCopy_frame (k : Nat) (s : State) :
    (State.seekCopy k s).chanId = s.chanId ∧ (State.seekCopy k s).msize = s.msize ∧
    (State.seekCopy k s).txi = s.txi ∧ (State.seekCopy k s).rgt = s.rgt ∧ (State.seekCopy k s).cmi = s.cmi ∧
    (State.seekCopy k s).mem = s.mem ∧ (State.seekCopy k s).pending = s.pending := by
  induction k generalizing s with
  | zero => simp [State.seekCopy]
  | succ k ih =>
    unfold State.seekCopy
    dsimp only
    repeat' (first | (simp [ih]; done) | split)

@[simp] theorem State.syncLimit_frame (s : State) :
    s.syncLimit.chanId = s.chanId ∧ s.syncLimit.msize = s.msize ∧ s.syncLimit.txi = s.txi ∧
    s.syncLimit.rgt = s.rgt ∧ s.syncLimit.dgu.tableDigest = s.dgu.tableDigest ∧
    s.syncLimit.vtu.last = s.vtu.last ∧ s.syncLimit.cmi = s.cmi ∧ s.syncLimit.mem = s.mem ∧
    s.syncLimit.pending = s.pending := by
  and_intros
  all_goals
    unfold State.syncLimit; (try unfold State.acceptedIn); (try dsimp only)
    repeat' (first | (simp; done) | split)

@[simp] theorem State.uncheckedLimit_frame (s : State) :
    s.uncheckedLimit.chanId = s.chanId ∧ s.uncheckedLimit.msize = s.msize ∧ s.uncheckedLimit.txi = s.txi ∧
    s.uncheckedLimit.rgt = s.rgt ∧ s.uncheckedLimit.dgu.tableDigest = s.dgu.tableDigest ∧
    s.uncheckedLimit.vtu.last = s.vtu.last ∧ s.uncheckedLimit.cmi = s.cmi ∧ s.uncheckedLimit.mem = s.mem ∧
    s.uncheckedLimit.pending = s.pending := by
  and_intros
  all_goals
    unfold State.uncheckedLimit; (try unfold State.acceptedIn); (try dsimp only)
    repeat' (first | (simp; done) | split)

@[simp] theorem State.copyRefused_frame (s : State) :
    s.copyRefused.chanId = s.chanId ∧ s.copyRefused.msize = s.msize ∧ s.copyRefused.txi = s.txi ∧
    s.copyRefused.rgt = s.rgt ∧ s.copyRefused.cmi = s.cmi ∧ s.copyRefused.mem = s.mem ∧
    s.copyRefused.pending = s.pending := by
  and_intros
  all_goals
    unfold State.copyRefused; (try unfold State.acceptedIn); (try dsimp only)
    repeat' (first | (simp; done) | split)

@[simp] theorem State.enterRepairAudit_frame (s : State) (i : Fin 32) :
    (s.enterRepairAudit i).chanId = s.chanId ∧ (s.enterRepairAudit i).msize = s.msize ∧
    (s.enterRepairAudit i).txi = s.txi ∧ (s.enterRepairAudit i).rgt = s.rgt ∧
    (s.enterRepairAudit i).dgu.tableDigest = s.dgu.tableDigest ∧
    (s.enterRepairAudit i).vtu.last = s.vtu.last ∧ (s.enterRepairAudit i).cmi = s.cmi ∧
    (s.enterRepairAudit i).mem = s.mem ∧ (s.enterRepairAudit i).pending = s.pending := by
  and_intros
  all_goals
    unfold State.enterRepairAudit; (try unfold State.acceptedIn); (try dsimp only)
    repeat' (first | (simp; done) | split)

@[simp] theorem State.ridingAnswer_frame (s : State) (a : AuditAnswer) :
    (s.ridingAnswer a).chanId = s.chanId ∧ (s.ridingAnswer a).msize = s.msize ∧
    (s.ridingAnswer a).txi = s.txi ∧ (s.ridingAnswer a).rgt = s.rgt ∧
    (s.ridingAnswer a).dgu.tableDigest = s.dgu.tableDigest ∧ (s.ridingAnswer a).vtu.last = s.vtu.last ∧
    (s.ridingAnswer a).cmi = s.cmi ∧ (s.ridingAnswer a).mem = s.mem ∧
    (s.ridingAnswer a).pending = s.pending := by
  and_intros
  all_goals
    unfold State.ridingAnswer; (try unfold State.acceptedIn); (try dsimp only)
    repeat' (first | (simp; done) | split)

@[simp] theorem State.seekBlock_frame (k : Nat) (s : State) :
    (State.seekBlock k s).chanId = s.chanId ∧ (State.seekBlock k s).msize = s.msize ∧
    (State.seekBlock k s).txi = s.txi ∧ (State.seekBlock k s).rgt = s.rgt ∧
    (State.seekBlock k s).cmi = s.cmi ∧ (State.seekBlock k s).mem = s.mem ∧
    (State.seekBlock k s).pending = s.pending := by
  induction k generalizing s with
  | zero => simp [State.seekBlock]
  | succ k ih =>
    unfold State.seekBlock
    repeat' (first | (simp [ih]; done) | split)

@[simp] theorem State.blockRefused_frame (s : State) :
    s.blockRefused.chanId = s.chanId ∧ s.blockRefused.msize = s.msize ∧ s.blockRefused.txi = s.txi ∧
    s.blockRefused.rgt = s.rgt ∧ s.blockRefused.cmi = s.cmi ∧ s.blockRefused.mem = s.mem ∧
    s.blockRefused.pending = s.pending := by
  and_intros
  all_goals
    unfold State.blockRefused; (try unfold State.acceptedIn); (try dsimp only)
    repeat' (first | (simp; done) | split)

@[simp] theorem State.overrun_frame (s : State) (p : Port) (kind : ℕ) :
    (s.overrun p kind).chanId = s.chanId ∧ (s.overrun p kind).msize = s.msize ∧
    (s.overrun p kind).txi = s.txi ∧ (s.overrun p kind).rgt = s.rgt ∧
    (s.overrun p kind).dgu.tableDigest = s.dgu.tableDigest ∧ (s.overrun p kind).vtu.last = s.vtu.last ∧
    (s.overrun p kind).cmi = s.cmi ∧ (s.overrun p kind).mem = s.mem ∧
    (s.overrun p kind).pending = s.pending := by
  and_intros
  all_goals
    unfold State.overrun; (try unfold State.acceptedIn); (try dsimp only)
    repeat' (first | (simp; done) | split)

@[simp] theorem State.reentryAbandoned_frame (s : State) (p : Port) (reason : Word) :
    (s.reentryAbandoned p reason).chanId = s.chanId ∧ (s.reentryAbandoned p reason).msize = s.msize ∧
    (s.reentryAbandoned p reason).txi = s.txi ∧ (s.reentryAbandoned p reason).rgt = s.rgt ∧
    (s.reentryAbandoned p reason).cmi = s.cmi ∧ (s.reentryAbandoned p reason).mem = s.mem ∧
    (s.reentryAbandoned p reason).pending = s.pending := by
  and_intros
  all_goals
    unfold State.reentryAbandoned; (try unfold State.acceptedIn); (try dsimp only)
    repeat' (first | (simp; done) | split)

@[simp] theorem State.reentryLinkDown_frame (s : State) (p : Port) :
    (s.reentryLinkDown p).chanId = s.chanId ∧ (s.reentryLinkDown p).msize = s.msize ∧
    (s.reentryLinkDown p).txi = s.txi ∧ (s.reentryLinkDown p).rgt = s.rgt ∧
    (s.reentryLinkDown p).cmi = s.cmi ∧ (s.reentryLinkDown p).mem = s.mem ∧
    (s.reentryLinkDown p).pending = s.pending := by
  and_intros
  all_goals
    unfold State.reentryLinkDown; (try unfold State.acceptedIn); (try dsimp only)
    repeat' (first | (simp; done) | split)

@[simp] theorem State.repairSegment_frame (s : State) (p : Port) (v : Repair) (addr : ℕ) (words : List Word) :
    (s.repairSegment p v addr words).chanId = s.chanId ∧ (s.repairSegment p v addr words).msize = s.msize ∧
    (s.repairSegment p v addr words).txi = s.txi ∧ (s.repairSegment p v addr words).rgt = s.rgt ∧
    (s.repairSegment p v addr words).dgu.tableDigest = s.dgu.tableDigest ∧
    (s.repairSegment p v addr words).vtu.last = s.vtu.last ∧ (s.repairSegment p v addr words).cmi = s.cmi ∧
    (s.repairSegment p v addr words).mem = s.mem ∧
    (s.repairSegment p v addr words).pending = s.pending := by
  and_intros
  all_goals
    unfold State.repairSegment; (try unfold State.acceptedIn); (try dsimp only)
    repeat' (first | (simp; done) | split)

@[simp] theorem State.runOutcome_frame (s : State) (o : VoteOutcome) :
    (s.runOutcome o).chanId = s.chanId ∧ (s.runOutcome o).msize = s.msize ∧ (s.runOutcome o).txi = s.txi ∧
    (s.runOutcome o).rgt = s.rgt ∧ (s.runOutcome o).dgu.tableDigest = s.dgu.tableDigest ∧
    (s.runOutcome o).cmi = s.cmi ∧ (s.runOutcome o).mem = s.mem ∧ (s.runOutcome o).pending = s.pending := by
  and_intros
  all_goals
    unfold State.runOutcome; (try unfold State.acceptedIn); (try dsimp only)
    repeat' (first | (simp; done) | split)

@[simp] theorem State.takeForward_frame (s : State) (p : Port) (addr : ℕ) (value : Word) :
    (s.takeForward p addr value).chanId = s.chanId ∧ (s.takeForward p addr value).msize = s.msize ∧
    (s.takeForward p addr value).txi = s.txi ∧ (s.takeForward p addr value).rgt = s.rgt ∧
    (s.takeForward p addr value).dgu.tableDigest = s.dgu.tableDigest ∧
    (s.takeForward p addr value).vtu.last = s.vtu.last ∧ (s.takeForward p addr value).cmi = s.cmi ∧
    (s.takeForward p addr value).mem = s.mem ∧ (s.takeForward p addr value).pending = s.pending := by
  and_intros
  all_goals
    unfold State.takeForward; (try unfold State.acceptedIn); (try dsimp only)
    repeat' (first | (simp; done) | split)

@[simp] theorem State.askFirst_frame (s : State) :
    s.askFirst.chanId = s.chanId ∧ s.askFirst.msize = s.msize ∧ s.askFirst.txi = s.txi ∧
    s.askFirst.rgt = s.rgt ∧ s.askFirst.cmi = s.cmi ∧ s.askFirst.mem = s.mem ∧
    s.askFirst.pending = s.pending := by
  and_intros
  all_goals
    unfold State.askFirst; (try unfold State.acceptedIn); (try dsimp only)
    repeat' (first | (simp; done) | split)

@[simp] theorem State.askFrom_frame (s : State) (p : Port) :
    (s.askFrom p).chanId = s.chanId ∧ (s.askFrom p).msize = s.msize ∧ (s.askFrom p).txi = s.txi ∧
    (s.askFrom p).rgt = s.rgt ∧ (s.askFrom p).cmi = s.cmi ∧ (s.askFrom p).mem = s.mem ∧
    (s.askFrom p).pending = s.pending := by
  and_intros
  all_goals
    unfold State.askFrom; (try unfold State.acceptedIn); (try dsimp only)
    repeat' (first | (simp; done) | split)

@[simp] theorem State.cmdIsolate_frame (s : State) :
    s.cmdIsolate.chanId = s.chanId ∧ s.cmdIsolate.msize = s.msize ∧ s.cmdIsolate.txi = s.txi ∧
    s.cmdIsolate.rgt = s.rgt ∧ s.cmdIsolate.dgu.tableDigest = s.dgu.tableDigest ∧
    s.cmdIsolate.vtu.last = s.vtu.last ∧ s.cmdIsolate.cmi.settings = s.cmi.settings ∧
    s.cmdIsolate.mem = s.mem ∧ s.cmdIsolate.pending = s.pending := by
  and_intros
  all_goals
    unfold State.cmdIsolate; (try unfold State.acceptedIn); (try dsimp only)
    repeat' (first | (simp; done) | split)

@[simp] theorem State.offerRx_frame (s : State) (p : Port) (f : Frame) :
    (s.offerRx p f).chanId = s.chanId ∧ (s.offerRx p f).msize = s.msize ∧ (s.offerRx p f).txi = s.txi ∧
    (s.offerRx p f).rgt = s.rgt ∧ (s.offerRx p f).dgu.tableDigest = s.dgu.tableDigest ∧
    (s.offerRx p f).vtu.last = s.vtu.last ∧ (s.offerRx p f).cmi = s.cmi ∧ (s.offerRx p f).mem = s.mem ∧
    (s.offerRx p f).pending = s.pending := by
  and_intros
  all_goals
    unfold State.offerRx; (try unfold State.acceptedIn); (try dsimp only)
    repeat' (first | (simp; done) | split)

@[simp] theorem State.repairAbandoned_frame (s : State) (p : Port) (reason : Word) :
    (s.repairAbandoned p reason).chanId = s.chanId ∧ (s.repairAbandoned p reason).msize = s.msize ∧
    (s.repairAbandoned p reason).txi = s.txi ∧ (s.repairAbandoned p reason).rgt = s.rgt ∧
    (s.repairAbandoned p reason).cmi = s.cmi ∧ (s.repairAbandoned p reason).mem = s.mem ∧
    (s.repairAbandoned p reason).pending = s.pending := by
  and_intros
  all_goals
    unfold State.repairAbandoned; (try unfold State.acceptedIn); (try dsimp only)
    repeat' (first | (simp; done) | split)

@[simp] theorem State.repairLinkDown_frame (s : State) (p : Port) :
    (s.repairLinkDown p).chanId = s.chanId ∧ (s.repairLinkDown p).msize = s.msize ∧
    (s.repairLinkDown p).txi = s.txi ∧ (s.repairLinkDown p).rgt = s.rgt ∧ (s.repairLinkDown p).cmi = s.cmi ∧
    (s.repairLinkDown p).mem = s.mem ∧ (s.repairLinkDown p).pending = s.pending := by
  and_intros
  all_goals
    unfold State.repairLinkDown; (try unfold State.acceptedIn); (try dsimp only)
    repeat' (first | (simp; done) | split)

@[simp] theorem State.takeSegment_frame (s : State) (p : Port) (addr : ℕ) (words : List Word) :
    (s.takeSegment p addr words).chanId = s.chanId ∧ (s.takeSegment p addr words).msize = s.msize ∧
    (s.takeSegment p addr words).txi = s.txi ∧ (s.takeSegment p addr words).rgt = s.rgt ∧
    (s.takeSegment p addr words).dgu.tableDigest = s.dgu.tableDigest ∧
    (s.takeSegment p addr words).vtu.last = s.vtu.last ∧ (s.takeSegment p addr words).cmi = s.cmi ∧
    (s.takeSegment p addr words).mem = s.mem ∧ (s.takeSegment p addr words).pending = s.pending := by
  and_intros
  all_goals
    unfold State.takeSegment; (try unfold State.acceptedIn); (try dsimp only)
    repeat' (first | (simp; done) | split)

@[simp] theorem State.goodArrival_frame (s : State) (p : Port) (f : Frame) :
    (s.goodArrival p f).chanId = s.chanId ∧ (s.goodArrival p f).msize = s.msize ∧
    (s.goodArrival p f).txi = s.txi ∧ (s.goodArrival p f).rgt = s.rgt ∧
    (s.goodArrival p f).dgu.tableDigest = s.dgu.tableDigest ∧ (s.goodArrival p f).vtu.last = s.vtu.last ∧
    (s.goodArrival p f).cmi = s.cmi ∧ (s.goodArrival p f).mem = s.mem ∧
    (s.goodArrival p f).pending = s.pending := by
  and_intros
  all_goals
    unfold State.goodArrival; (try unfold State.acceptedIn); (try dsimp only)
    repeat' (first | (simp; done) | split)

@[simp] theorem State.repairHears_frame (s : State) (p : Port) (m : Option Mode) :
    (s.repairHears p m).chanId = s.chanId ∧ (s.repairHears p m).msize = s.msize ∧
    (s.repairHears p m).txi = s.txi ∧ (s.repairHears p m).rgt = s.rgt ∧ (s.repairHears p m).cmi = s.cmi ∧
    (s.repairHears p m).mem = s.mem ∧ (s.repairHears p m).pending = s.pending := by
  and_intros
  all_goals
    unfold State.repairHears; (try unfold State.acceptedIn); (try dsimp only)
    repeat' (first | (simp; done) | split)

@[simp] theorem State.repairStopped_frame (s : State) :
    s.repairStopped.chanId = s.chanId ∧ s.repairStopped.msize = s.msize ∧ s.repairStopped.txi = s.txi ∧
    s.repairStopped.rgt = s.rgt ∧ s.repairStopped.cmi = s.cmi ∧ s.repairStopped.mem = s.mem ∧
    s.repairStopped.pending = s.pending := by
  and_intros
  all_goals
    unfold State.repairStopped; (try unfold State.acceptedIn); (try dsimp only)
    repeat' (first | (simp; done) | split)

@[simp] theorem State.scrubWord_frame (s : State) (i : Fin 32) (w : ℕ) (o : ReadOutcome) (v : Word) :
    (s.scrubWord i w o v).chanId = s.chanId ∧ (s.scrubWord i w o v).msize = s.msize ∧
    (s.scrubWord i w o v).txi = s.txi ∧ (s.scrubWord i w o v).rgt = s.rgt ∧
    (s.scrubWord i w o v).dgu.tableDigest = s.dgu.tableDigest ∧
    (s.scrubWord i w o v).vtu.last = s.vtu.last ∧ (s.scrubWord i w o v).cmi = s.cmi ∧
    (s.scrubWord i w o v).mem = s.mem ∧ (s.scrubWord i w o v).pending = s.pending := by
  and_intros
  all_goals
    unfold State.scrubWord; (try unfold State.acceptedIn); (try dsimp only)
    repeat' (first | (simp; done) | split)

@[simp] theorem State.syncOutcome_frame (s : State) (o : VoteOutcome) :
    (s.syncOutcome o).chanId = s.chanId ∧ (s.syncOutcome o).msize = s.msize ∧
    (s.syncOutcome o).txi = s.txi ∧ (s.syncOutcome o).rgt = s.rgt ∧
    (s.syncOutcome o).dgu.tableDigest = s.dgu.tableDigest ∧ (s.syncOutcome o).cmi = s.cmi ∧
    (s.syncOutcome o).mem = s.mem ∧ (s.syncOutcome o).pending = s.pending := by
  and_intros
  all_goals
    unfold State.syncOutcome; (try unfold State.acceptedIn); (try dsimp only)
    repeat' (first | (simp; done) | split)

@[simp] theorem State.takeCopyRefuse_frame (s : State) (p : Port) :
    (s.takeCopyRefuse p).chanId = s.chanId ∧ (s.takeCopyRefuse p).msize = s.msize ∧
    (s.takeCopyRefuse p).txi = s.txi ∧ (s.takeCopyRefuse p).rgt = s.rgt ∧ (s.takeCopyRefuse p).cmi = s.cmi ∧
    (s.takeCopyRefuse p).mem = s.mem ∧ (s.takeCopyRefuse p).pending = s.pending := by
  and_intros
  all_goals
    unfold State.takeCopyRefuse; (try unfold State.acceptedIn); (try dsimp only)
    repeat' (first | (simp; done) | split)

@[simp] theorem State.beginRepairAudit_frame (s : State) (regions : List (Fin 32)) :
    (s.beginRepairAudit regions).chanId = s.chanId ∧ (s.beginRepairAudit regions).msize = s.msize ∧
    (s.beginRepairAudit regions).txi = s.txi ∧ (s.beginRepairAudit regions).rgt = s.rgt ∧
    (s.beginRepairAudit regions).dgu.tableDigest = s.dgu.tableDigest ∧
    (s.beginRepairAudit regions).vtu.last = s.vtu.last ∧ (s.beginRepairAudit regions).cmi = s.cmi ∧
    (s.beginRepairAudit regions).mem = s.mem ∧ (s.beginRepairAudit regions).pending = s.pending := by
  and_intros
  all_goals
    unfold State.beginRepairAudit; (try unfold State.acceptedIn); (try dsimp only)
    repeat' (first | (simp; done) | split)

@[simp] theorem State.nextRepairAudit_frame (s : State) (i : Fin 32) :
    (s.nextRepairAudit i).chanId = s.chanId ∧ (s.nextRepairAudit i).msize = s.msize ∧
    (s.nextRepairAudit i).txi = s.txi ∧ (s.nextRepairAudit i).rgt = s.rgt ∧
    (s.nextRepairAudit i).dgu.tableDigest = s.dgu.tableDigest ∧
    (s.nextRepairAudit i).vtu.last = s.vtu.last ∧ (s.nextRepairAudit i).cmi = s.cmi ∧
    (s.nextRepairAudit i).mem = s.mem ∧ (s.nextRepairAudit i).pending = s.pending := by
  and_intros
  all_goals
    unfold State.nextRepairAudit; (try unfold State.acceptedIn); (try dsimp only)
    repeat' (first | (simp; done) | split)

@[simp] theorem State.reenter_frame (s : State) :
    s.reenter.chanId = s.chanId ∧ s.reenter.msize = s.msize ∧ s.reenter.txi = s.txi ∧
    s.reenter.rgt = s.rgt ∧ s.reenter.cmi = s.cmi ∧ s.reenter.mem = s.mem ∧
    s.reenter.pending = s.pending := by
  and_intros
  all_goals
    unfold State.reenter; (try unfold State.acceptedIn); (try dsimp only)
    repeat' (first | (simp; done) | split)

@[simp] theorem State.askRepairAudit_frame (s : State) (regions : List (Fin 32)) :
    (s.askRepairAudit regions).chanId = s.chanId ∧ (s.askRepairAudit regions).msize = s.msize ∧
    (s.askRepairAudit regions).txi = s.txi ∧ (s.askRepairAudit regions).rgt = s.rgt ∧
    (s.askRepairAudit regions).dgu.tableDigest = s.dgu.tableDigest ∧
    (s.askRepairAudit regions).vtu.last = s.vtu.last ∧ (s.askRepairAudit regions).cmi = s.cmi ∧
    (s.askRepairAudit regions).mem = s.mem ∧ (s.askRepairAudit regions).pending = s.pending := by
  and_intros
  all_goals
    unfold State.askRepairAudit; (try unfold State.acceptedIn); (try dsimp only)
    repeat' (first | (simp; done) | split)

@[simp] theorem State.beginAsked_frame (s : State) :
    s.beginAsked.chanId = s.chanId ∧ s.beginAsked.msize = s.msize ∧ s.beginAsked.txi = s.txi ∧
    s.beginAsked.rgt = s.rgt ∧ s.beginAsked.dgu.tableDigest = s.dgu.tableDigest ∧
    s.beginAsked.vtu.last = s.vtu.last ∧ s.beginAsked.cmi = s.cmi ∧ s.beginAsked.mem = s.mem ∧
    s.beginAsked.pending = s.pending := by
  and_intros
  all_goals
    unfold State.beginAsked; (try unfold State.acceptedIn); (try dsimp only)
    repeat' (first | (simp; done) | split)

@[simp] theorem State.blockJoined_frame (s : State) (i : Fin 32) :
    (s.blockJoined i).chanId = s.chanId ∧ (s.blockJoined i).msize = s.msize ∧
    (s.blockJoined i).txi = s.txi ∧ (s.blockJoined i).rgt = s.rgt ∧ (s.blockJoined i).cmi = s.cmi ∧
    (s.blockJoined i).mem = s.mem ∧ (s.blockJoined i).pending = s.pending := by
  and_intros
  all_goals
    unfold State.blockJoined; (try unfold State.acceptedIn); (try dsimp only)
    repeat' (first | (simp; done) | split)

@[simp] theorem State.repairAnswer_frame (s : State) (i : Fin 32) (w : ℕ) (a : AuditAnswer) :
    (s.repairAnswer i w a).chanId = s.chanId ∧ (s.repairAnswer i w a).msize = s.msize ∧
    (s.repairAnswer i w a).txi = s.txi ∧ (s.repairAnswer i w a).rgt = s.rgt ∧
    (s.repairAnswer i w a).dgu.tableDigest = s.dgu.tableDigest ∧
    (s.repairAnswer i w a).vtu.last = s.vtu.last ∧ (s.repairAnswer i w a).cmi = s.cmi ∧
    (s.repairAnswer i w a).mem = s.mem ∧ (s.repairAnswer i w a).pending = s.pending := by
  and_intros
  all_goals
    unfold State.repairAnswer; (try unfold State.acceptedIn); (try dsimp only)
    repeat' (first | (simp; done) | split)

@[simp] theorem State.takeAbandon_frame (s : State) (p : Port) (reason : Word) :
    (s.takeAbandon p reason).chanId = s.chanId ∧ (s.takeAbandon p reason).msize = s.msize ∧
    (s.takeAbandon p reason).txi = s.txi ∧ (s.takeAbandon p reason).rgt = s.rgt ∧
    (s.takeAbandon p reason).cmi = s.cmi ∧ (s.takeAbandon p reason).mem = s.mem ∧
    (s.takeAbandon p reason).pending = s.pending := by
  and_intros
  all_goals
    unfold State.takeAbandon; (try unfold State.acceptedIn); (try dsimp only)
    repeat' (first | (simp; done) | split)

@[simp] theorem State.voteConsequence_frame (s : State) (o : VoteOutcome) (table : RegionResult) :
    (s.voteConsequence o table).chanId = s.chanId ∧ (s.voteConsequence o table).msize = s.msize ∧
    (s.voteConsequence o table).txi = s.txi ∧ (s.voteConsequence o table).rgt = s.rgt ∧
    (s.voteConsequence o table).dgu.tableDigest = s.dgu.tableDigest ∧
    (s.voteConsequence o table).cmi = s.cmi ∧ (s.voteConsequence o table).mem = s.mem ∧
    (s.voteConsequence o table).pending = s.pending := by
  and_intros
  all_goals
    unfold State.voteConsequence; (try unfold State.acceptedIn); (try dsimp only)
    repeat' (first | (simp; done) | split)

@[simp] theorem State.joinRepair_frame (s : State) (i : Fin 32) (b : ℕ) :
    (s.joinRepair i b).chanId = s.chanId ∧ (s.joinRepair i b).msize = s.msize ∧
    (s.joinRepair i b).txi = s.txi ∧ (s.joinRepair i b).rgt = s.rgt ∧ (s.joinRepair i b).cmi = s.cmi ∧
    (s.joinRepair i b).mem = s.mem ∧ (s.joinRepair i b).pending = s.pending := by
  and_intros
  all_goals
    unfold State.joinRepair; (try unfold State.acceptedIn); (try dsimp only)
    repeat' (first | (simp; done) | split)

@[simp] theorem State.takeIdle_frame (s : State) (p : Port) (m : Option Mode) (c : Option Word) (r : Role) :
    (s.takeIdle p m c r).chanId = s.chanId ∧ (s.takeIdle p m c r).msize = s.msize ∧
    (s.takeIdle p m c r).txi = s.txi ∧ (s.takeIdle p m c r).rgt = s.rgt ∧ (s.takeIdle p m c r).cmi = s.cmi ∧
    (s.takeIdle p m c r).mem = s.mem ∧ (s.takeIdle p m c r).pending = s.pending := by
  and_intros
  all_goals
    unfold State.takeIdle; (try unfold State.acceptedIn); (try dsimp only)
    repeat' (first | (simp; done) | split)

@[simp] theorem State.cmdReenter_frame (s : State) :
    s.cmdReenter.chanId = s.chanId ∧ s.cmdReenter.msize = s.msize ∧ s.cmdReenter.txi = s.txi ∧
    s.cmdReenter.rgt = s.rgt ∧ s.cmdReenter.cmi.settings = s.cmi.settings ∧ s.cmdReenter.mem = s.mem ∧
    s.cmdReenter.pending = s.pending := by
  and_intros
  all_goals
    unfold State.cmdReenter; (try unfold State.acceptedIn); (try dsimp only)
    repeat' (first | (simp; done) | split)

@[simp] theorem State.targetDigest_frame (s : State) (p : Port) (m : Word) (x : PartnerSet) :
    (s.targetDigest p m x).chanId = s.chanId ∧ (s.targetDigest p m x).msize = s.msize ∧
    (s.targetDigest p m x).txi = s.txi ∧ (s.targetDigest p m x).rgt = s.rgt ∧
    (s.targetDigest p m x).dgu.tableDigest = s.dgu.tableDigest ∧ (s.targetDigest p m x).cmi = s.cmi ∧
    (s.targetDigest p m x).mem = s.mem ∧ (s.targetDigest p m x).pending = s.pending := by
  and_intros
  all_goals
    unfold State.targetDigest; (try unfold State.acceptedIn); (try dsimp only)
    repeat' (first | (simp; done) | split)

@[simp] theorem State.auditEnd_frame (s : State) (i : Fin 32) (w : ℕ) (o : ReadOutcome) (v : Word) :
    (s.auditEnd i w o v).chanId = s.chanId ∧ (s.auditEnd i w o v).msize = s.msize ∧
    (s.auditEnd i w o v).txi = s.txi ∧ (s.auditEnd i w o v).rgt = s.rgt ∧
    (s.auditEnd i w o v).dgu.tableDigest = s.dgu.tableDigest ∧ (s.auditEnd i w o v).vtu.last = s.vtu.last ∧
    (s.auditEnd i w o v).cmi = s.cmi ∧ (s.auditEnd i w o v).mem = s.mem ∧
    (s.auditEnd i w o v).pending = s.pending := by
  and_intros
  all_goals
    unfold State.auditEnd; (try unfold State.acceptedIn); (try dsimp only)
    repeat' (first | (simp; done) | split)

@[simp] theorem State.blockRestored_frame (s : State) (p : Port) (v : Repair) (block : ℕ) :
    (s.blockRestored p v block).chanId = s.chanId ∧ (s.blockRestored p v block).msize = s.msize ∧
    (s.blockRestored p v block).txi = s.txi ∧ (s.blockRestored p v block).rgt = s.rgt ∧
    (s.blockRestored p v block).cmi = s.cmi ∧ (s.blockRestored p v block).mem = s.mem ∧
    (s.blockRestored p v block).pending = s.pending := by
  and_intros
  all_goals
    unfold State.blockRestored; (try unfold State.acceptedIn); (try dsimp only)
    repeat' (first | (simp; done) | split)

@[simp] theorem State.enterRepair_frame (s : State) (i : Fin 32) (b : ℕ) :
    (s.enterRepair i b).chanId = s.chanId ∧ (s.enterRepair i b).msize = s.msize ∧
    (s.enterRepair i b).txi = s.txi ∧ (s.enterRepair i b).rgt = s.rgt ∧ (s.enterRepair i b).cmi = s.cmi ∧
    (s.enterRepair i b).mem = s.mem ∧ (s.enterRepair i b).pending = s.pending := by
  and_intros
  all_goals
    unfold State.enterRepair; (try unfold State.acceptedIn); (try dsimp only)
    repeat' (first | (simp; done) | split)

@[simp] theorem State.takeRepairEnd_frame (s : State) (p : Port) (block : ℕ) :
    (s.takeRepairEnd p block).chanId = s.chanId ∧ (s.takeRepairEnd p block).msize = s.msize ∧
    (s.takeRepairEnd p block).txi = s.txi ∧ (s.takeRepairEnd p block).rgt = s.rgt ∧
    (s.takeRepairEnd p block).cmi = s.cmi ∧ (s.takeRepairEnd p block).mem = s.mem ∧
    (s.takeRepairEnd p block).pending = s.pending := by
  and_intros
  all_goals
    unfold State.takeRepairEnd; (try unfold State.acceptedIn); (try dsimp only)
    repeat' (first | (simp; done) | split)

@[simp] theorem State.consequence_frame (s : State) (pl : WordPlace) (addr : ℕ) :
    (s.consequence pl addr).chanId = s.chanId ∧ (s.consequence pl addr).msize = s.msize ∧
    (s.consequence pl addr).txi = s.txi ∧ (s.consequence pl addr).rgt = s.rgt ∧
    (s.consequence pl addr).cmi = s.cmi ∧ (s.consequence pl addr).mem = s.mem ∧
    (s.consequence pl addr).pending = s.pending := by
  and_intros
  all_goals
    unfold State.consequence; (try unfold State.acceptedIn); (try dsimp only)
    repeat' (first | (simp; done) | split)

@[simp] theorem State.scrubEnd_frame (s : State) (i : Fin 32) (w : ℕ) (o : ReadOutcome) (v : Word) :
    (s.scrubEnd i w o v).chanId = s.chanId ∧ (s.scrubEnd i w o v).msize = s.msize ∧
    (s.scrubEnd i w o v).txi = s.txi ∧ (s.scrubEnd i w o v).rgt = s.rgt ∧
    (s.scrubEnd i w o v).dgu.tableDigest = s.dgu.tableDigest ∧ (s.scrubEnd i w o v).vtu.last = s.vtu.last ∧
    (s.scrubEnd i w o v).cmi = s.cmi ∧ (s.scrubEnd i w o v).mem = s.mem ∧
    (s.scrubEnd i w o v).pending = s.pending := by
  and_intros
  all_goals
    unfold State.scrubEnd; (try unfold State.acceptedIn); (try dsimp only)
    repeat' (first | (simp; done) | split)

@[simp] theorem State.reportUncorrectable_frame (s : State) (g : Group) :
    (s.reportUncorrectable g).chanId = s.chanId ∧ (s.reportUncorrectable g).msize = s.msize ∧
    (s.reportUncorrectable g).txi = s.txi ∧ (s.reportUncorrectable g).rgt = s.rgt ∧
    (s.reportUncorrectable g).cmi = s.cmi ∧ (s.reportUncorrectable g).mem = s.mem ∧
    (s.reportUncorrectable g).pending = s.pending := by
  and_intros
  all_goals
    unfold State.reportUncorrectable; (try unfold State.acceptedIn); (try dsimp only)
    repeat' (first | (simp; done) | split)

@[simp] theorem State.decideWith_frame (s : State) (r : VoteRecord) (l : Snapshot) :
    (s.decideWith r l).chanId = s.chanId ∧ (s.decideWith r l).msize = s.msize ∧
    (s.decideWith r l).txi = s.txi ∧ (s.decideWith r l).rgt = s.rgt ∧
    (s.decideWith r l).dgu.tableDigest = s.dgu.tableDigest ∧ (s.decideWith r l).cmi = s.cmi ∧
    (s.decideWith r l).mem = s.mem ∧ (s.decideWith r l).pending = s.pending := by
  and_intros
  all_goals
    unfold State.decideWith; (try unfold State.acceptedIn); (try dsimp only)
    repeat' (first | (simp; done) | split)

@[simp] theorem State.decideRecord_frame (s : State) (cycle : Word) :
    (s.decideRecord cycle).chanId = s.chanId ∧ (s.decideRecord cycle).msize = s.msize ∧
    (s.decideRecord cycle).txi = s.txi ∧ (s.decideRecord cycle).rgt = s.rgt ∧
    (s.decideRecord cycle).dgu.tableDigest = s.dgu.tableDigest ∧ (s.decideRecord cycle).cmi = s.cmi ∧
    (s.decideRecord cycle).mem = s.mem ∧ (s.decideRecord cycle).pending = s.pending := by
  and_intros
  all_goals
    unfold State.decideRecord; (try unfold State.acceptedIn); (try dsimp only)
    repeat' (first | (simp; done) | split)

@[simp] theorem State.decideIfComplete_frame (s : State) (cycle : Word) :
    (s.decideIfComplete cycle).chanId = s.chanId ∧ (s.decideIfComplete cycle).msize = s.msize ∧
    (s.decideIfComplete cycle).txi = s.txi ∧ (s.decideIfComplete cycle).rgt = s.rgt ∧
    (s.decideIfComplete cycle).dgu.tableDigest = s.dgu.tableDigest ∧
    (s.decideIfComplete cycle).cmi = s.cmi ∧ (s.decideIfComplete cycle).mem = s.mem ∧
    (s.decideIfComplete cycle).pending = s.pending := by
  and_intros
  all_goals
    unfold State.decideIfComplete; (try unfold State.acceptedIn); (try dsimp only)
    repeat' (first | (simp; done) | split)

theorem foldl_decide_frame (n : Word) (cs : List Word) (s : State) :
    let t := cs.foldl (fun t c => if c = n then t else t.decideRecord c) s
    t.chanId = s.chanId ∧
    t.msize = s.msize ∧ t.txi = s.txi ∧ t.rgt = s.rgt ∧ t.cmi = s.cmi ∧ t.mem = s.mem ∧
    t.pending = s.pending := by
  induction cs generalizing s with
  | nil => simp
  | cons c cs ih =>
    simp only [List.foldl_cons]
    have h := ih (if c = n then s else s.decideRecord c)
    split at h <;> simp_all

@[simp] theorem State.decideOthers_frame (s : State) (n : Word) :
    (State.decideOthers s n).chanId = s.chanId ∧
    (State.decideOthers s n).msize = s.msize ∧
    (State.decideOthers s n).txi = s.txi ∧
    (State.decideOthers s n).rgt = s.rgt ∧
    (State.decideOthers s n).cmi = s.cmi ∧
    (State.decideOthers s n).mem = s.mem ∧
    (State.decideOthers s n).pending = s.pending := foldl_decide_frame n _ s

@[simp] theorem State.reportOutcome_frame (s : State) (g : Group) (o : ReadOutcome) :
    (s.reportOutcome g o).chanId = s.chanId ∧ (s.reportOutcome g o).msize = s.msize ∧
    (s.reportOutcome g o).txi = s.txi ∧ (s.reportOutcome g o).rgt = s.rgt ∧
    (s.reportOutcome g o).cmi = s.cmi ∧ (s.reportOutcome g o).mem = s.mem ∧
    (s.reportOutcome g o).pending = s.pending := by
  and_intros
  all_goals
    unfold State.reportOutcome; (try unfold State.acceptedIn); (try dsimp only)
    repeat' (first | (simp; done) | split)

@[simp] theorem State.voteLinkDown_frame (s : State) (p : Port) :
    (s.voteLinkDown p).chanId = s.chanId ∧ (s.voteLinkDown p).msize = s.msize ∧
    (s.voteLinkDown p).txi = s.txi ∧ (s.voteLinkDown p).rgt = s.rgt ∧
    (s.voteLinkDown p).dgu.tableDigest = s.dgu.tableDigest ∧ (s.voteLinkDown p).cmi = s.cmi ∧
    (s.voteLinkDown p).mem = s.mem ∧ (s.voteLinkDown p).pending = s.pending := by
  and_intros
  all_goals
    unfold State.voteLinkDown; (try unfold State.acceptedIn); (try dsimp only)
    repeat' (first | (simp; done) | split)

@[simp] theorem State.takeSet_frame (s : State) (last : Word) (m : Word) (p : Port) (x : PartnerSet) :
    (s.takeSet last m p x).chanId = s.chanId ∧ (s.takeSet last m p x).msize = s.msize ∧
    (s.takeSet last m p x).txi = s.txi ∧ (s.takeSet last m p x).rgt = s.rgt ∧
    (s.takeSet last m p x).dgu.tableDigest = s.dgu.tableDigest ∧ (s.takeSet last m p x).cmi = s.cmi ∧
    (s.takeSet last m p x).mem = s.mem ∧ (s.takeSet last m p x).pending = s.pending := by
  and_intros
  all_goals
    unfold State.takeSet; (try unfold State.acceptedIn); (try dsimp only)
    repeat' (first | (simp; done) | split)

@[simp] theorem State.voteDigest_frame (s : State) (p : Port) (m : Word) (x : PartnerSet) :
    (s.voteDigest p m x).chanId = s.chanId ∧ (s.voteDigest p m x).msize = s.msize ∧
    (s.voteDigest p m x).txi = s.txi ∧ (s.voteDigest p m x).rgt = s.rgt ∧
    (s.voteDigest p m x).dgu.tableDigest = s.dgu.tableDigest ∧ (s.voteDigest p m x).cmi = s.cmi ∧
    (s.voteDigest p m x).mem = s.mem ∧ (s.voteDigest p m x).pending = s.pending := by
  and_intros
  all_goals
    unfold State.voteDigest; (try unfold State.acceptedIn); (try dsimp only)
    repeat' (first | (simp; done) | split)

@[simp] theorem State.acceptMark_frame (s : State) (n : Word) :
    (s.acceptMark n).chanId = s.chanId ∧ (s.acceptMark n).msize = s.msize ∧ (s.acceptMark n).txi = s.txi ∧
    (s.acceptMark n).rgt = s.rgt ∧ (s.acceptMark n).cmi = s.cmi ∧ (s.acceptMark n).mem = s.mem ∧
    (s.acceptMark n).pending = s.pending := by
  and_intros
  all_goals
    unfold State.acceptMark; (try unfold State.acceptedIn); (try dsimp only)
    repeat' (first | (simp; done) | split)

@[simp] theorem State.copyReadEnd_frame (s : State) (g : Group) (m : CellSample) :
    (s.copyReadEnd g m).chanId = s.chanId ∧ (s.copyReadEnd g m).msize = s.msize ∧
    (s.copyReadEnd g m).txi = s.txi ∧ (s.copyReadEnd g m).rgt = s.rgt ∧ (s.copyReadEnd g m).cmi = s.cmi ∧
    (s.copyReadEnd g m).pending = s.pending := by
  and_intros
  all_goals
    unfold State.copyReadEnd; (try unfold State.acceptedIn); (try dsimp only)
    repeat' (first | (simp; done) | split)

@[simp] theorem State.processorReadEnd_frame (s : State) (g : Group) (m : CellSample) :
    (s.processorReadEnd g m).chanId = s.chanId ∧ (s.processorReadEnd g m).msize = s.msize ∧
    (s.processorReadEnd g m).rgt = s.rgt ∧ (s.processorReadEnd g m).cmi = s.cmi ∧
    (s.processorReadEnd g m).pending = s.pending := by
  and_intros
  all_goals
    unfold State.processorReadEnd; (try unfold State.acceptedIn); (try dsimp only)
    repeat' (first | (simp; done) | split)

@[simp] theorem State.frameWriteEnd_frame (s : State) (g : Group) (p : Port) (v : Word) (m : CellSample) :
    (s.frameWriteEnd g p v m).chanId = s.chanId ∧ (s.frameWriteEnd g p v m).msize = s.msize ∧
    (s.frameWriteEnd g p v m).txi = s.txi ∧ (s.frameWriteEnd g p v m).rgt = s.rgt ∧
    (s.frameWriteEnd g p v m).cmi = s.cmi ∧ (s.frameWriteEnd g p v m).pending = s.pending := by
  and_intros
  all_goals
    unfold State.frameWriteEnd; (try unfold State.acceptedIn); (try dsimp only)
    repeat' (first | (simp; done) | split)

@[simp] theorem State.rowMoveCopyEnd_frame (s : State) (g : Group) (m : CellSample) :
    (s.rowMoveCopyEnd g m).chanId = s.chanId ∧ (s.rowMoveCopyEnd g m).msize = s.msize ∧
    (s.rowMoveCopyEnd g m).txi = s.txi ∧ (s.rowMoveCopyEnd g m).rgt = s.rgt ∧
    (s.rowMoveCopyEnd g m).cmi = s.cmi ∧ (s.rowMoveCopyEnd g m).pending = s.pending := by
  and_intros
  all_goals
    unfold State.rowMoveCopyEnd; (try unfold State.acceptedIn); (try dsimp only)
    repeat' (first | (simp; done) | split)

@[simp] theorem State.goDown_frame (s : State) (p : Port) (d : LinkDetail) :
    (s.goDown p d).chanId = s.chanId ∧ (s.goDown p d).msize = s.msize ∧ (s.goDown p d).txi = s.txi ∧
    (s.goDown p d).rgt = s.rgt ∧ (s.goDown p d).cmi = s.cmi ∧ (s.goDown p d).mem = s.mem ∧
    (s.goDown p d).pending = s.pending := by
  and_intros
  all_goals
    unfold State.goDown; (try unfold State.acceptedIn); (try dsimp only)
    repeat' (first | (simp; done) | split)

@[simp] theorem State.cmdCycleMark_frame (s : State) :
    s.cmdCycleMark.chanId = s.chanId ∧ s.cmdCycleMark.msize = s.msize ∧ s.cmdCycleMark.txi = s.txi ∧
    s.cmdCycleMark.rgt = s.rgt ∧ s.cmdCycleMark.cmi.settings = s.cmi.settings ∧ s.cmdCycleMark.mem = s.mem ∧
    s.cmdCycleMark.pending = s.pending := by
  and_intros
  all_goals
    unfold State.cmdCycleMark; (try unfold State.acceptedIn); (try dsimp only)
    repeat' (first | (simp; done) | split)

@[simp] theorem State.partialWriteEnd_frame (s : State) (g : Group) (v : Word) (mask : BitVec 4) (m : CellSample) :
    (s.partialWriteEnd g v mask m).chanId = s.chanId ∧ (s.partialWriteEnd g v mask m).msize = s.msize ∧
    (s.partialWriteEnd g v mask m).rgt = s.rgt ∧ (s.partialWriteEnd g v mask m).cmi = s.cmi ∧
    (s.partialWriteEnd g v mask m).pending = s.pending := by
  and_intros
  all_goals
    unfold State.partialWriteEnd; (try unfold State.acceptedIn); (try dsimp only)
    repeat' (first | (simp; done) | split)

@[simp] theorem State.processorWriteEnd_frame (s : State) (g : Group) (v : Word) (m : CellSample) :
    (s.processorWriteEnd g v m).chanId = s.chanId ∧ (s.processorWriteEnd g v m).msize = s.msize ∧
    (s.processorWriteEnd g v m).rgt = s.rgt ∧ (s.processorWriteEnd g v m).cmi = s.cmi ∧
    (s.processorWriteEnd g v m).pending = s.pending := by
  and_intros
  all_goals
    unfold State.processorWriteEnd; (try unfold State.acceptedIn); (try dsimp only)
    repeat' (first | (simp; done) | split)

@[simp] theorem State.badArrival_frame (s : State) (p : Port) (d : LinkDetail) :
    (s.badArrival p d).chanId = s.chanId ∧ (s.badArrival p d).msize = s.msize ∧
    (s.badArrival p d).txi = s.txi ∧ (s.badArrival p d).rgt = s.rgt ∧ (s.badArrival p d).cmi = s.cmi ∧
    (s.badArrival p d).mem = s.mem ∧ (s.badArrival p d).pending = s.pending := by
  and_intros
  all_goals
    unfold State.badArrival; (try unfold State.acceptedIn); (try dsimp only)
    repeat' (first | (simp; done) | split)

@[simp] theorem State.arrival_frame (s : State) (p : Port) (w : WireFrame) :
    (s.arrival p w).chanId = s.chanId ∧ (s.arrival p w).msize = s.msize ∧ (s.arrival p w).txi = s.txi ∧
    (s.arrival p w).rgt = s.rgt ∧ (s.arrival p w).cmi = s.cmi ∧ (s.arrival p w).mem = s.mem ∧
    (s.arrival p w).pending = s.pending := by
  and_intros
  all_goals
    unfold State.arrival; (try unfold State.acceptedIn); (try dsimp only)
    repeat' (first | (simp; done) | split)

@[simp] theorem State.auditReadEnd_frame (s : State) (g : Group) (i : Fin 32) (w : ℕ) (m : CellSample) :
    (s.auditReadEnd g i w m).chanId = s.chanId ∧ (s.auditReadEnd g i w m).msize = s.msize ∧
    (s.auditReadEnd g i w m).txi = s.txi ∧ (s.auditReadEnd g i w m).rgt = s.rgt ∧
    (s.auditReadEnd g i w m).cmi = s.cmi ∧ (s.auditReadEnd g i w m).pending = s.pending := by
  and_intros
  all_goals
    unfold State.auditReadEnd; (try unfold State.acceptedIn); (try dsimp only)
    repeat' (first | (simp; done) | split)

@[simp] theorem State.scrubReadEnd_frame (s : State) (g : Group) (i : Fin 32) (w : ℕ) (m : CellSample) :
    (s.scrubReadEnd g i w m).chanId = s.chanId ∧ (s.scrubReadEnd g i w m).msize = s.msize ∧
    (s.scrubReadEnd g i w m).txi = s.txi ∧ (s.scrubReadEnd g i w m).rgt = s.rgt ∧
    (s.scrubReadEnd g i w m).cmi = s.cmi ∧ (s.scrubReadEnd g i w m).pending = s.pending := by
  and_intros
  all_goals
    unfold State.scrubReadEnd; (try unfold State.acceptedIn); (try dsimp only)
    repeat' (first | (simp; done) | split)

@[simp] theorem State.takeDigest_frame (s : State) (p : Port) (m : Word) (x : PartnerSet) :
    (s.takeDigest p m x).chanId = s.chanId ∧ (s.takeDigest p m x).msize = s.msize ∧
    (s.takeDigest p m x).txi = s.txi ∧ (s.takeDigest p m x).rgt = s.rgt ∧ (s.takeDigest p m x).cmi = s.cmi ∧
    (s.takeDigest p m x).mem = s.mem ∧ (s.takeDigest p m x).pending = s.pending := by
  and_intros
  all_goals
    unfold State.takeDigest; (try unfold State.acceptedIn); (try dsimp only)
    repeat' (first | (simp; done) | split)

@[simp] theorem State.carryOut_frame (s : State) :
    s.carryOut.chanId = s.chanId ∧ s.carryOut.msize = s.msize ∧ s.carryOut.txi = s.txi ∧
    s.carryOut.mem = s.mem ∧ s.carryOut.pending = s.pending := by
  and_intros
  all_goals
    unfold State.carryOut; (try unfold State.acceptedIn); (try dsimp only)
    repeat' (first | (simp; done) | split)

@[simp] theorem State.writeWord_frame (s : State) (i : ℕ) (v : Word) :
    (s.writeWord i v).chanId = s.chanId ∧ (s.writeWord i v).msize = s.msize ∧
    (s.writeWord i v).txi = s.txi ∧ (s.writeWord i v).mem = s.mem ∧
    (s.writeWord i v).pending = s.pending := by
  and_intros
  all_goals
    unfold State.writeWord; (try unfold State.acceptedIn); (try dsimp only)
    repeat' (first | (simp; done) | split)

@[simp] theorem State.writeWords_frame (s : State) (i : Nat) (vs : List Word) :
    (s.writeWords i vs).chanId = s.chanId ∧ (s.writeWords i vs).msize = s.msize ∧
    (s.writeWords i vs).txi = s.txi ∧ (s.writeWords i vs).mem = s.mem ∧
    (s.writeWords i vs).pending = s.pending := by
  induction vs generalizing s i with
  | nil => simp [State.writeWords]
  | cons v vs ih => unfold State.writeWords; simp [ih]

@[simp] theorem State.storeParams_frame (s : State) (ps : List Word) :
    (s.storeParams ps).chanId = s.chanId ∧ (s.storeParams ps).msize = s.msize ∧
    (s.storeParams ps).txi = s.txi ∧ (s.storeParams ps).mem = s.mem ∧
    (s.storeParams ps).pending = s.pending := by
  and_intros
  all_goals
    unfold State.storeParams; (try unfold State.acceptedIn); (try dsimp only)
    repeat' (first | (simp; done) | split)

@[simp] theorem State.aperture_frame (s : State) (t : Transaction) :
    (s.aperture t).chanId = s.chanId ∧ (s.aperture t).msize = s.msize ∧
    (s.aperture t).txi.held = s.txi.held ∧ (s.aperture t).txi.waiting = s.txi.waiting ∧
    (s.aperture t).mem = s.mem ∧ (s.aperture t).pending = s.pending := by
  and_intros
  all_goals
    unfold State.aperture; (try unfold State.acceptedIn); (try dsimp only)
    repeat' (first | (simp; done) | split)

@[simp] theorem State.transaction_frame (s : State) (t : Transaction) :
    (s.transaction t).chanId = s.chanId ∧ (s.transaction t).msize = s.msize ∧
    (s.transaction t).txi.waiting = s.txi.waiting ∧ (s.transaction t).mem = s.mem ∧ (s.transaction t).pending = s.pending := by
  and_intros
  all_goals
    unfold State.transaction; (try unfold State.acceptedIn); (try dsimp only)
    repeat' (first | (simp; done) | split)

end Sys2Proof.Machine
end

