-- ==== Sys2Proof/Laws/Effects.lean ====
section
/-! SUPPORT. What each basic operation on the state changes: one lemma for each operation, saying what the changed
field holds afterwards. -/

namespace Sys2Proof.Machine

/-! ### The event unit -/

/-- The bits of the flag set name the events one for one. -/
theorem flagBit_getLsbD (a b : Event) : (flagBit a.index).getLsbD b.index = decide (b = a) := by
  cases a <;> cases b <;> rfl

theorem Evu.setLine_keeps (e : Evu) (l : NoticeName) (n : NoticeLine) :
    (e.setLine l n).flags = e.flags ∧ (e.setLine l n).counters = e.counters ∧
    (e.setLine l n).msTime = e.msTime ∧ ∀ k, (e.setLine l n).capture k = e.capture k := by
  cases l <;> exact ⟨rfl, rfl, rfl, fun k => by cases k <;> rfl⟩

theorem Evu.riseAt_keeps (e : Evu) (c : Settings) (i : Nat) (l : NoticeName) :
    (e.riseAt c i l).flags = e.flags ∧ (e.riseAt c i l).counters = e.counters ∧
    (e.riseAt c i l).msTime = e.msTime ∧ ∀ k, (e.riseAt c i l).capture k = e.capture k := by
  unfold Evu.riseAt; split
  · exact Evu.setLine_keeps _ _ _
  · exact ⟨rfl, rfl, rfl, fun _ => rfl⟩

/-- A report changes the flags and the lines, and nothing else of the event unit. -/
theorem Evu.report_keeps (e : Evu) (c : Settings) (i : Nat) :
    (e.report c i).counters = e.counters ∧ (e.report c i).msTime = e.msTime ∧
    ∀ k, (e.report c i).capture k = e.capture k := by
  unfold Evu.report; split
  · exact ⟨rfl, rfl, fun _ => rfl⟩
  · have h1 := Evu.riseAt_keeps { e with flags := e.flags ||| flagBit i } c i .na
    have h2 := Evu.riseAt_keeps (({ e with flags := e.flags ||| flagBit i } : Evu).riseAt c i .na) c i .nb
    refine ⟨h2.2.1.trans h1.2.1, h2.2.2.1.trans h1.2.2.1, fun k => ?_⟩
    rw [h2.2.2.2, h1.2.2.2]; cases k <;> rfl

/-- Firing an event sets its flag and no other. -/
@[simp] theorem State.fire_flag (s : State) (ev x : Event) :
    (s.fire ev).evu.flags.getLsbD x.index = (s.evu.flags.getLsbD x.index || decide (x = ev)) := by
  unfold State.fire Evu.report
  dsimp only
  split
  · rename_i h
    by_cases e : x = ev
    · subst e; simp [h]
    · simp [e]
  · rw [(Evu.riseAt_keeps _ _ _ _).1, (Evu.riseAt_keeps _ _ _ _).1]
    simp [flagBit_getLsbD]

@[simp] theorem State.fire_evu (s : State) (ev : Event) :
    (s.fire ev).evu.counters = s.evu.counters ∧ (s.fire ev).evu.msTime = s.evu.msTime ∧
    ∀ k, (s.fire ev).evu.capture k = s.evu.capture k := Evu.report_keeps _ _ _

theorem Counter.index_inj (a b : Counter) : a.index = b.index ↔ a = b := by
  constructor
  · cases a <;> cases b <;> simp [Counter.index]
  · rintro rfl; rfl

/-- A counter report adds 1 below 65535. -/
theorem State.count_counter (s : State) (c d : Counter) :
    (s.count c).evu.counters[d.index] =
      if d = c ∧ s.evu.counters[d.index] < 65535 then s.evu.counters[d.index] + 1
      else s.evu.counters[d.index] := by
  unfold State.count Evu.increment Config.counterTop
  dsimp only
  by_cases e : d = c
  · subst e; split
    · rename_i h; simp at h; simp [h]
    · rename_i h; simp at h; simp [Nat.not_lt.2 h]
  · have : ¬ (c.index.val = d.index.val) := fun h => e ((Counter.index_inj _ _).1 (Fin.ext h)).symm
    split <;> simp [e, this]

/-- The same, as `simp` writes an index. -/
@[simp] theorem State.count_counter' (s : State) (c d : Counter) :
    (s.count c).evu.counters[(d.index : Nat)] =
      if d = c ∧ s.evu.counters[(d.index : Nat)] < 65535 then s.evu.counters[(d.index : Nat)] + 1
      else s.evu.counters[(d.index : Nat)] := State.count_counter s c d

@[simp] theorem State.count_evu (s : State) (c : Counter) :
    (s.count c).evu.flags = s.evu.flags ∧ (s.count c).evu.msTime = s.evu.msTime ∧
    (s.count c).evu.na = s.evu.na ∧ (s.count c).evu.nb = s.evu.nb ∧
    ∀ k, (s.count c).evu.capture k = s.evu.capture k := by
  unfold State.count Evu.increment
  dsimp only
  split <;> exact ⟨rfl, rfl, rfl, rfl, fun k => by cases k <;> rfl⟩

@[simp] theorem Evu.setCapture_capture (e : Evu) (k k' : CaptureClass) (c : Capture) :
    (e.setCapture k c).capture k' = if k' = k then c else e.capture k' := by
  cases k <;> cases k' <;> rfl

@[simp] theorem Evu.setCapture_keeps (e : Evu) (k : CaptureClass) (c : Capture) :
    (e.setCapture k c).flags = e.flags ∧ (e.setCapture k c).counters = e.counters ∧
    (e.setCapture k c).msTime = e.msTime ∧ (e.setCapture k c).na = e.na ∧ (e.setCapture k c).nb = e.nb := by
  cases k <;> exact ⟨rfl, rfl, rfl, rfl, rfl⟩

/-- An offer changes the record of its class. -/
@[simp] theorem State.offerCapture_capture (s : State) (k k' : CaptureClass) (r : Requester)
    (a : Option Nat) (d : Detail) :
    (s.offerCapture k r a d).evu.capture k' =
      if k' = k then (s.evu.capture k).offered s.cmi.settings.captureMode[k.index]
        { cycle := s.vtu.last, time := s.evu.msTime, address := a, requester := r, detail := d }
      else s.evu.capture k' := by
  unfold State.offerCapture; simp

@[simp] theorem State.offerCapture_evu (s : State) (k : CaptureClass) (r : Requester) (a : Option Nat)
    (d : Detail) :
    (s.offerCapture k r a d).evu.flags = s.evu.flags ∧
    (s.offerCapture k r a d).evu.counters = s.evu.counters ∧
    (s.offerCapture k r a d).evu.msTime = s.evu.msTime := by
  unfold State.offerCapture; simp

/-! ### The aperture -/

@[simp] theorem State.storeWord_word (s : State) (i j : Nat) (v : Word) :
    (s.storeWord i v).apertureWord j = if j = i ∧ i < 16 then v else s.apertureWord j := by
  unfold State.storeWord State.apertureWord
  by_cases h : i < 16 <;> by_cases e : j = i
  · subst e; simp [h]
  · simp [e, Ne.symm e]
  · subst e; simp [h]
  · simp [e, Ne.symm e]

@[simp] theorem State.answer_word (s : State) (st : CommandStatus) (rs : List Word) (i : Nat) (h : i < 16) :
    (s.answer st rs).apertureWord i = if i < 8 then s.apertureWord i else responseWord st rs i := by
  unfold State.answer Cmi.respond State.apertureWord
  simp [h]

/-! ### Ports, digest records, spares, the region table -/

@[simp] theorem State.setLink_link (s : State) (p q : Port) (x : LinkPort) :
    (s.setLink p x).link q = if q = p then x else s.link q := by
  cases p <;> cases q <;> rfl

@[simp] theorem State.updateRecord_record (s : State) (i j : Fin 32) (f : DigestRecord → DigestRecord) :
    (s.updateRecord i f).record j = if j = i then f (s.record i) else s.record j := by
  unfold State.updateRecord State.record
  by_cases e : j = i
  · subst e; simp
  · have : ¬ (i.val = j.val) := fun h => e (Fin.ext h).symm
    simp [e, this]

theorem State.setSpare_spare (s : State) (i j : Fin 16) (x : Spare) :
    (s.setSpare i x).srm.spares[j] = if j = i then x else s.srm.spares[j] := by
  unfold State.setSpare
  by_cases e : j = i
  · subst e; simp
  · have : ¬ (i.val = j.val) := fun h => e (Fin.ext h).symm
    simp [e, this]

@[simp] theorem State.setRegion_region (s : State) (i j : Fin 32) (e : Option Region) :
    (s.setRegion i e).region j = if j = i then e else s.region j := by
  unfold State.setRegion State.region
  by_cases h : j = i
  · subst h; simp
  · have : ¬ (i.val = j.val) := fun x => h (Fin.ext x).symm
    simp [h, this]

/-! ### Frames offered, and the two points that are left open -/

/-- All that offering a frame can do (Table 6.5): it joins the queue of an UP port that has room, and TX_DROP is counted
where an UP port has none. -/
theorem State.offerFrame_offered (s : State) (p : Port) (f : Frame) :
    Offered s (s.offerFrame p f) p f ∧ Fired s (s.offerFrame p f) [] ∧ CapturesKept s (s.offerFrame p f) ∧
      Counted s (s.offerFrame p f) (dropped (s.link p)) := by
  unfold State.offerFrame State.offerResult Config.txQueueSize
  cases hu : (s.link p).up
  · have hd : dropped (s.link p) = [] := by unfold dropped; rw [hu]; rfl
    have hq : queued (s.link p) f = (s.link p).tx := by unfold queued; rw [hu]; rfl
    rw [hd]
    exact ⟨⟨by rw [hq]; rfl, fun _ _ => rfl⟩, fun _ => by simp, fun _ => rfl, fun _ => by simp⟩
  · by_cases h : (s.link p).tx.length < 16
    · have hd : dropped (s.link p) = [] := by unfold dropped; rw [if_neg (by omega)]
      have hq : queued (s.link p) f = (s.link p).tx ++ [f] := by unfold queued; rw [if_pos ⟨hu, h⟩]
      have he : (s.setLink p { s.link p with tx := (s.link p).tx ++ [f] }).evu = s.evu := by cases p <;> rfl
      rw [hd]
      simp only [Bool.not_true, Bool.false_eq_true, if_false, if_pos h]
      refine ⟨⟨by rw [hq, State.setLink_link, if_pos rfl], fun q hqp => by rw [State.setLink_link, if_neg hqp]⟩,
        fun ev => ?_, fun k => ?_, fun c => ?_⟩
      · unfold FlagSet; rw [he]; simp
      · rw [he]
      · rw [he]; simp
    · have hd : dropped (s.link p) = [.txDrop] := by unfold dropped; rw [if_pos ⟨hu, by omega⟩]
      have hq : queued (s.link p) f = (s.link p).tx := by unfold queued; rw [if_neg (fun x => h x.2)]
      rw [hd]
      simp only [Bool.not_true, Bool.false_eq_true, if_false, if_neg h]
      refine ⟨⟨by rw [hq]; cases p <;> rfl, fun q _ => by cases q <;> rfl⟩, fun ev => ?_, fun k => ?_, fun c => ?_⟩
      · unfold FlagSet; simp
      · simp
      · rw [State.count_counter]; simp

/-- A COPY_ACCEPT at a repair target that is asking or receiving, from another port than the asked one: ABANDON (R131) or
nothing (R151), as the free value has it (log entry 22). -/
theorem State.strayAccept_open (s : State) (p : Port) (v : Repair) (h : s.rse.repair = some v) (hp : v.phase ≠ .auditing)
    (ha : v.asked ≠ p) : s.strayAccept p = if Config.strayAcceptAnswered then s.release p else s := by
  unfold State.strayAccept; rw [h]; simp [hp, ha]

/-- A mark refused in ISOLATED: with the free value true the DIGEST frame joins the queue of each UP port that has room
(R62, R100), with it false the state stays (R98, R124; log entry 57). -/
theorem State.isolatedMark_link (s : State) (n : Word) (p : Port) :
    (s.isolatedMark n).link p = { s.link p with
      tx := if Config.isolatedDigest s.vtu.last n then queued (s.link p) (s.digestFrame n) else (s.link p).tx } := by
  unfold State.isolatedMark
  cases Config.isolatedDigest s.vtu.last n
  · rfl
  · have ha := (State.offerFrame_offered s .a (s.digestFrame n)).1
    have hb := (State.offerFrame_offered (s.offerFrame .a (s.digestFrame n)) .b (s.digestFrame n)).1
    simp only [if_true]
    cases p
    · rw [hb.2 .a (by decide), ha.1]
    · rw [hb.1, ha.2 .b (by decide)]

/-! ### Memory -/

/-- No wrong bit means none of the 39 is. -/
theorem flips_zero (f : BitVec 39) (h : wrongBits f = 0) : f = 0 := by
  apply BitVec.eq_of_getLsbD_eq
  intro i hi
  unfold wrongBits at h
  have := List.countP_eq_zero.1 h i (List.mem_range.2 hi)
  simpa using this

/-- A read slot's result by the number of wrong bits (Table 2.1). -/
theorem readResult_clean (w : Stored) (h : wrongBits w.flips = 0) : readResult w = (.clean, w.data) := by
  have hd : decodeOutcome w = .clean := by unfold decodeOutcome; rw [if_pos h]
  unfold readResult; rw [hd]
  unfold Stored.bits; rw [flips_zero _ h]; simp

theorem readResult_corrected (w : Stored) (h : wrongBits w.flips = 1) :
    readResult w = (.corrected, w.data) := by
  have hd : decodeOutcome w = .corrected := by unfold decodeOutcome; rw [if_neg (by omega), if_pos h]
  unfold readResult; rw [hd]
  unfold correctedData; rw [if_pos h]

theorem readResult_uncorrectable (w : Stored) (h : wrongBits w.flips = 2) :
    readResult w = (.uncorrectable, 0) := by
  have hd : decodeOutcome w = .uncorrectable := by
    unfold decodeOutcome; rw [if_neg (by omega), if_neg (by omega), if_pos h]
  unfold readResult; rw [hd]

/-- Listing a word at a location changes what that location stores, and no other. -/
theorem memLookup_memInsert (k k' : Nat) (w : Stored) (l : List MemoryCell) :
    memLookup (memInsert k w l) k' = if k' = k then some w else memLookup l k' := by
  induction l with
  | nil =>
    unfold memInsert memLookup
    by_cases h : k' = k
    · simp [h]
    · simp [h, Ne.symm h]
  | cons c cs ih =>
    unfold memInsert
    split
    · unfold memLookup
      by_cases h : k' = k
      · subst h; simp
      · simp [h, List.find?_cons]
        have : (k == k') = false := by simpa using fun e => h e.symm
        simp [this]
    · split
      · rename_i h1 h2
        by_cases h : k' = k
        · subst h; simp [memLookup]
        · have : (k == k') = false := by simpa using fun e => h e.symm
          have h3 : (c.1 == k') = false := by rw [← h2]; exact this
          simp [memLookup, h, this, h3]
      · rename_i h1 h2
        by_cases e : c.1 = k'
        · have : k' ≠ k := by omega
          simp [memLookup, e, this]
        · have e' : (c.1 == k') = false := by simpa using e
          have ih' : memLookup (c :: memInsert k w cs) k' = memLookup (memInsert k w cs) k' := by
            simp [memLookup, e']
          rw [ih', ih]
          simp [memLookup, e']

theorem memWf_cons (a : MemoryCell) (l : List MemoryCell) :
    memWf (a :: l) = true ↔ (∀ b ∈ l.head?, a.1 < b.1) ∧ memWf l = true := by
  cases l with
  | nil => simp [memWf]
  | cons b cs => simp [memWf]

theorem memInsert_head (k : Nat) (w : Stored) (l : List MemoryCell) :
    ∀ b ∈ (memInsert k w l).head?, b.1 = k ∨ ∃ c ∈ l.head?, b.1 = c.1 := by
  intro b hb
  cases l with
  | nil => simp [memInsert] at hb; subst hb; exact Or.inl rfl
  | cons c cs =>
    unfold memInsert at hb
    split at hb
    · simp at hb; subst hb; exact Or.inl rfl
    · split at hb
      · simp at hb; subst hb; exact Or.inl rfl
      · simp at hb; subst hb; exact Or.inr ⟨c, by simp, rfl⟩

/-- Listing a word keeps the canonical form. -/
theorem memInsert_wf (k : Nat) (w : Stored) (l : List MemoryCell) (h : memWf l = true) :
    memWf (memInsert k w l) = true := by
  induction l with
  | nil => rfl
  | cons c cs ih =>
    rw [memWf_cons] at h
    unfold memInsert
    split
    · rename_i hk
      rw [memWf_cons]; refine ⟨by intro b hb; simp at hb; subst hb; exact hk, ?_⟩
      rw [memWf_cons]; exact h
    · split
      · rename_i h1 h2
        rw [memWf_cons]; refine ⟨?_, h.2⟩
        intro b hb; have := h.1 b hb; show k < b.1; omega
      · rename_i h1 h2
        rw [memWf_cons]; refine ⟨?_, ih h.2⟩
        intro b hb
        rcases memInsert_head k w cs b hb with h3 | ⟨d, hd, h3⟩
        · omega
        · have := h.1 d hd; omega

/-- Every slot keeps the canonical form. -/
theorem State.readSlot_wf (s : State) (row w : Nat) (m : CellSample) (h : memWf s.mem = true) :
    memWf (s.readSlot row w m).1.mem = true := memInsert_wf _ _ _ h

theorem State.writeSlot_wf (s : State) (row w : Nat) (v : Word) (h : memWf s.mem = true) :
    memWf (s.writeSlot row w v).mem = true := memInsert_wf _ _ _ h

theorem State.writeRows_wf (s : State) (row w : Nat) (x : Option Nat) (v : Word)
    (h : memWf s.mem = true) : memWf (s.writeRows row w x v).mem = true := by
  unfold State.writeRows; split
  · exact State.writeSlot_wf _ _ _ _ h
  · exact State.writeSlot_wf _ _ _ _ (State.writeSlot_wf _ _ _ _ h)

/-- The memory right after reset is in canonical form. -/
theorem State.reset_wf : memWf State.reset.mem = true := rfl

end Sys2Proof.Machine
end

