-- ==== Sys2Proof/Laws/Answer.lean ====
section
/-! SUPPORT. A management command as one step: what its parameters and code leave in the aperture before it is
carried out, and what its answer leaves there afterwards (R172, R173). -/

namespace Sys2Proof.Machine

/-- The words of the aperture in two states are the same but for these blocks. -/
theorem State.storeWord_eq (s : State) (i : Nat) (v : Word) :
    s.storeWord i v = { s with cmi := { s.cmi with words := (s.storeWord i v).cmi.words } } := rfl

/-- Words written from word i on, none of them word 0 and none past word 7, are stored. -/
theorem State.writeWords_word (s : State) (i : Nat) (vs : List Word) (h1 : 1 ≤ i) (h2 : i + vs.length ≤ 8)
    (j : Nat) :
    (s.writeWords i vs).apertureWord j =
      if i ≤ j ∧ j < i + vs.length then (vs[j - i]?).getD 0 else s.apertureWord j := by
  induction vs generalizing s i with
  | nil =>
    rw [if_neg (by simp)]; rfl
  | cons v vs ih =>
    simp only [List.length_cons] at h2
    unfold State.writeWords
    rw [ih _ _ (by omega) (by omega)]
    have hw : s.writeWord i v = s.storeWord i v := by
      unfold State.writeWord; rw [if_neg (by omega), if_pos (by omega)]
    rw [hw, State.storeWord_word]
    by_cases h : j = i
    · subst h
      rw [if_neg (by omega), if_pos ⟨rfl, by omega⟩,
        if_pos (by simp only [List.length_cons]; omega)]
      simp
    · by_cases h' : i + 1 ≤ j ∧ j < i + 1 + vs.length
      · rw [if_pos h', if_pos (by simp only [List.length_cons]; omega)]
        have : j - i = (j - (i + 1)) + 1 := by omega
        rw [this]; simp
      · rw [if_neg h', if_neg (by simp [h])]
        rw [if_neg]; simp only [List.length_cons]; omega

/-- The same touches nothing but those words. -/
theorem State.writeWords_eq (s : State) (i : Nat) (vs : List Word) (h1 : 1 ≤ i) :
    s.writeWords i vs = { s with cmi := { s.cmi with words := (s.writeWords i vs).cmi.words } } := by
  induction vs generalizing s i with
  | nil => rfl
  | cons v vs ih =>
    unfold State.writeWords
    rw [ih _ _ (by omega)]
    unfold State.writeWord
    rw [if_neg (by omega)]
    split <;> rfl

/-- An access presented while TXI holds none is taken at once. -/
theorem State.present_free (s t : State) (a : Access) (h : s.txi.held = none) : s.present a t = t := by
  unfold State.present; rw [h]; rfl

/-- An access presented while TXI holds a transaction waits. -/
theorem State.present_held (s t : State) (a : Access) (h : Held) (hh : s.txi.held = some h) :
    s.present a t = s.setWaiting (s.txi.waiting ++ [a]) := by
  unfold State.present; rw [hh]; rfl

/-- A command as it is carried out on a free bus. -/
theorem State.issue_free (s : State) (code : Word) (ps : List Word) (f : State → State) (h : BusFree s) :
    s.issue code ps f = (f ((s.storeParams ps).storeWord 0 code)).respondTxi .okay [] :=
  State.present_free _ _ _ h.1

/-- The code in word 0 is what the interpreter acts on. -/
theorem State.storeWord_code (s : State) (code : Word) : (s.storeWord 0 code).apertureWord 0 = code := by
  simp

/-- A management command issued while TXI holds no transaction is the taking of its access. -/
theorem State.issue_take (s : State) (code : Word) (ps : List Word) (f : State → State) (a : Access)
    (h : s.txi.held = none) (hf : ∀ t : State, t.apertureWord 0 = code → t.carryOut = f t)
    (ha : some (Access.command code ps) = some a) :
    (.next (s.issue code ps f) : Host.Outcome State Fault Refusal) = .next (s.take a) := by
  cases ha
  unfold State.issue
  rw [State.present_free _ _ _ h]
  unfold State.take State.issued
  dsimp only; rw [hf _ (State.storeWord_code _ _)]

/-- A command whose operands the outside can present is, while TXI holds no transaction, the taking of its access. -/
theorem exec_eq_take (i : Instr) (a : Access) (s : State) (ha : accessOf i = some a) (h : s.txi.held = none) :
    exec i s = .next (s.take a) := by
  cases i
  case processorTransaction t =>
    unfold accessOf at ha; dsimp only at ha; split at ha
    · rename_i hw; cases ha
      simp only [exec, execProcessorTransaction, if_pos hw, State.present_free _ _ _ h]; rfl
    · cases ha
  case apertureWordWrite k v =>
    unfold accessOf at ha; dsimp only at ha; split at ha
    · cases ha
    · rename_i hk; cases ha
      simp only [exec, execApertureWordWrite, ne_eq, hk, not_false_eq_true, if_true,
        State.present_free _ _ _ h]
      rfl
  case unknownCommand code =>
    unfold accessOf at ha; dsimp only at ha; split at ha
    · cases ha
    · rename_i hn; cases ha
      have hc : ∀ t : State, t.apertureWord 0 = code → t.carryOut = t.cmdUnknown := by
        intro t ht
        unfold State.carryOut; rw [ht]
        simp only [namesCommand, decide_eq_true_eq] at hn
        split <;> first | omega | rfl
      simp only [exec, execUnknownCommand, if_neg hn, State.present_free _ _ _ h, State.take, State.issued]
      rw [hc _ (State.storeWord_code _ _)]; rfl
  all_goals first
    | exact State.issue_take _ _ _ _ _ h (fun t ht => by unfold State.carryOut; rw [ht]; rfl) ha
    | cases ha

/-! ### Accesses that wait (R9) -/

@[simp] theorem State.setWaiting_held (s : State) (as : List Access) :
    (s.setWaiting as).txi.held = s.txi.held := rfl
@[simp] theorem State.setWaiting_waiting (s : State) (as : List Access) :
    (s.setWaiting as).txi.waiting = as := rfl

/-- Taking an access leaves the straps, the memory, the queue and the accesses that wait. -/
@[simp] theorem State.take_frame (s : State) (a : Access) :
    (s.take a).chanId = s.chanId ∧ (s.take a).msize = s.msize ∧ (s.take a).txi.waiting = s.txi.waiting ∧
    (s.take a).mem = s.mem ∧ (s.take a).pending = s.pending := by
  cases a <;> simp [State.take, State.issued]

@[simp] theorem State.takeNext_frame (s : State) (a : Access) :
    (s.takeNext a).chanId = s.chanId ∧ (s.takeNext a).msize = s.msize ∧
    (s.takeNext a).txi.waiting = s.txi.waiting ∧ (s.takeNext a).mem = s.mem ∧
    (s.takeNext a).pending = s.pending := by
  unfold State.takeNext; dsimp only; split <;> simp

@[simp] theorem State.takeAll_frame (s : State) (as : List Access) :
    (s.takeAll as).chanId = s.chanId ∧ (s.takeAll as).msize = s.msize ∧ (s.takeAll as).mem = s.mem ∧
    (s.takeAll as).pending = s.pending := by
  induction as generalizing s with
  | nil => simp [State.takeAll]
  | cons a as ih =>
    unfold State.takeAll; split
    · exact ⟨rfl, rfl, rfl, rfl⟩
    · simp [ih]

/-- Taking the accesses that wait leaves none waiting unless one is held. -/
theorem State.takeAll_bus (s : State) (as : List Access) (h : s.txi.waiting = []) :
    (s.takeAll as).txi.held = none → (s.takeAll as).txi.waiting = [] := by
  induction as generalizing s with
  | nil => intro _; exact h
  | cons a as ih =>
    unfold State.takeAll; split
    · rename_i hh; intro hn; rw [State.setWaiting_held] at hn; rw [hn] at hh; cases hh
    · exact ih _ (by simp [h])

/-- With none waiting a group's end is all that happens. -/
theorem State.thenTake_none (s : State) (f : State → State) (h : s.txi.waiting = []) : s.thenTake f = f s := by
  unfold State.thenTake State.setWaiting
  rw [h]; unfold State.takeAll; rw [← h]

/-- The accesses of these commands are taken in their order, each as the command itself does it. -/
theorem State.takeAll_inOrder (cs : List Instr) (as : List Access) (s : State)
    (h : cs.map accessOf = as.map some) : TakenInOrder cs s (s.takeAll as) := by
  induction cs generalizing as s with
  | nil => cases as with
    | nil => rfl
    | cons a as => cases h
  | cons c cs ih => cases as with
    | nil => cases h
    | cons a as =>
      simp only [List.map_cons, List.cons.injEq] at h
      obtain ⟨hc, hcs⟩ := h
      unfold TakenInOrder State.takeAll
      refine ⟨fun hn => ⟨s.take a, exec_eq_take c a s hc hn, ?_⟩, fun hn => ?_⟩
      · rw [hn]; simp only [Option.isSome_none, Bool.false_eq_true, if_false]
        have he : s.takeNext a = answeredAfter s (s.take a) := by
          unfold State.takeNext answeredAfter; dsimp only
          cases (s.take a).txi.held <;> simp
        rw [he]; exact ih _ _ hcs
      · have hs : s.txi.held.isSome = true := by cases hh : s.txi.held <;> simp_all
        rw [if_pos hs]
        have hm : cs.filterMap accessOf = as := by
          have : cs.filterMap accessOf = (cs.map accessOf).filterMap id := by rw [List.filterMap_map]; rfl
          rw [this, hcs, List.filterMap_map]; simp
        simp [hc, hm]

/-- The state a command is carried out on differs from the one before in the aperture words alone. -/
theorem State.presented_eq (s : State) (code : Word) (ps : List Word) :
    (s.storeParams ps).storeWord 0 code =
      { s with cmi := { s.cmi with words := ((s.storeParams ps).storeWord 0 code).cmi.words } } := by
  have h := State.writeWords_eq s 1 ps (Nat.le_refl 1)
  unfold State.storeParams
  rw [State.storeWord_eq, h]

/-- Its aperture words. -/
theorem State.presented_word (s : State) (code : Word) (ps : List Word) (h : ps.length ≤ 7) (j : Nat) :
    ((s.storeParams ps).storeWord 0 code).apertureWord j =
      if j = 0 then code
      else if j < 1 + ps.length then (ps[j - 1]?).getD 0 else s.apertureWord j := by
  rw [State.storeWord_word]
  unfold State.storeParams
  rw [State.writeWords_word _ _ _ (Nat.le_refl 1) (by omega)]
  by_cases e : j = 0
  · subst e; rw [if_pos ⟨rfl, by omega⟩, if_pos rfl]
  · simp only [e, false_and, if_false]
    by_cases h' : j < 1 + ps.length
    · rw [if_pos h', if_pos ⟨by omega, h'⟩]
    · rw [if_neg h', if_neg (by omega)]

/-- What a command that answers leaves: its words as written, its answer, and the OKAY to the processor. -/
theorem State.issue_commanded (s : State) (code : Word) (ps : List Word) (f : State → State) (v : State)
    (st : CommandStatus) (rs : List Word) (h : BusFree s) (hp : ps.length ≤ 7)
    (hf : f ((s.storeParams ps).storeWord 0 code) = v.answer st rs)
    (hw : v.cmi.words = ((s.storeParams ps).storeWord 0 code).cmi.words) (ht : v.txi.held = none)
    (ht' : v.txi.waiting = []) :
    Commanded s (s.issue code ps f) code ps st rs := by
  rw [State.issue_free _ _ _ _ h, hf]
  have ha : ∀ i, ((v.answer st rs).respondTxi .okay []).apertureWord i = (v.answer st rs).apertureWord i :=
    fun _ => rfl
  have hv : ∀ i, v.apertureWord i = ((s.storeParams ps).storeWord 0 code).apertureWord i := by
    intro i; unfold State.apertureWord; rw [hw]
  refine ⟨⟨?_, ?_⟩, ⟨?_, ?_⟩, ?_⟩
  · rw [ha, State.answer_word _ _ _ _ (by omega), hv, State.presented_word _ _ _ hp]; rfl
  · intro i h1 h2
    rw [ha, State.answer_word _ _ _ _ (by omega), if_pos h2, hv, State.presented_word _ _ _ hp,
      if_neg (by omega)]
    by_cases h3 : i < 1 + ps.length
    · rw [if_pos h3]
      have : i - 1 < ps.length := by omega
      simp [this]
    · rw [if_neg h3]
      have : ps.length ≤ i - 1 := by omega
      simp [this]
  · rw [ha, State.answer_word _ _ _ _ (by omega)]; rfl
  · intro k hk
    rw [ha, State.answer_word _ _ _ _ (by omega), if_neg (by omega)]
    unfold responseWord
    rw [if_neg (by omega)]
    have : 9 + k - 9 = k := by omega
    rw [this]
  · unfold State.respondTxi; dsimp only; rw [show (v.answer st rs).txi = v.txi from rfl, ht, ht']

end Sys2Proof.Machine
end

