-- ==== Sys2Proof/Laws/Moves.lean ====
section
/-! SUPPORT. What SRM does at an occasion to choose a move and at the end of a group (R45, R46), once for every command
that gives such an occasion. -/

namespace Sys2Proof.Machine

theorem State.lowestFree_some (s : State) (i : Fin 16) : s.lowestFree = some i ↔ LowestFree s.srm i := by
  unfold State.lowestFree LowestFree
  rw [List.find?_eq_some_iff_getElem]
  constructor
  · rintro ⟨h, k, hk, e, hl⟩
    simp only [List.getElem_finRange] at e hl
    subst e
    refine ⟨by simpa using h, fun j hj => ?_⟩
    have := hl j.val (by simpa [Fin.lt_def] using hj)
    simpa using this
  · rintro ⟨h, hl⟩
    refine ⟨by simpa using h, i.val, by simp, by simp, fun j hj => ?_⟩
    have := hl ⟨j, by omega⟩ (by simpa [Fin.lt_def] using hj)
    simpa using this

theorem State.lowestFree_none (s : State) : s.lowestFree = none ↔ ∀ i : Fin 16, s.srm.spares[i] ≠ .free := by
  unfold State.lowestFree
  simp [List.find?_eq_none]

theorem State.moving_none (s : State) : s.moving = none ↔ ∀ i : Fin 16, s.srm.spares[i].isMoving = false := by
  unfold State.moving
  simp only [List.findSome?_eq_none_iff, List.mem_finRange, true_implies]
  refine forall_congr' fun i => ?_
  cases h : s.srm.spares[i] <;> simp [Spare.isMoving]

theorem State.endedMove_iff (s : State) :
    s.endedMove = true ↔ ∃ g a, s.msq.port = some g ∧ g.op = .moveCopy a ∧ g.live = false := by
  unfold State.endedMove
  cases h : s.msq.port with
  | none => simp
  | some g => cases hg : g.op <;> simp [hg]

theorem Mode.permitsMoves_iff (m : Mode) : m.permitsMoves = true ↔ PermitsMoves m := by
  cases m <;> simp [Mode.permitsMoves, PermitsMoves]

/-- Whether SRM may choose a move, as the statements say it. -/
theorem State.movePermitted_iff (s : State) :
    MovePermitted s s.mdc.mode ↔
      (s.noMove && s.srm.startWaiting.isNone && s.mdc.mode.permitsMoves) = true := by
  unfold MovePermitted State.noMove
  rw [← Mode.permitsMoves_iff, ← State.endedMove_iff, ← State.moving_none]
  simp only [Bool.and_eq_true, Bool.or_eq_true, Option.isNone_iff_eq_none]
  tauto

/-- Marking the entry of a row is changing the entry at its position, where the rows are distinct. -/
theorem setRowState_eq_set (es : List RowEntry) (k : Nat) (e : RowEntry) (st : RowState)
    (hn : (es.map (·.row)).Nodup) (hk : es[k]? = some e) :
    setRowState e.row st es = es.set k { e with state := st } := by
  unfold setRowState
  apply List.ext_getElem?
  intro j
  rw [List.getElem?_map, List.getElem?_set]
  obtain ⟨hlt, he⟩ := List.getElem?_eq_some_iff.1 hk
  by_cases hj : k = j
  · subst hj; simp [hlt, he]
  · simp only [hj, if_false]
    cases hje : es[j]? with
    | none => rfl
    | some x =>
      obtain ⟨hjl, hx⟩ := List.getElem?_eq_some_iff.1 hje
      have : x.row ≠ e.row := by
        intro h
        apply hj
        have h2 := (List.Nodup.getElem_inj_iff hn (i := k) (j := j) (hi := by simpa) (hj := by simpa)).1
          (by simp [he, hx, h])
        exact h2
      simp [this]

/-- The oldest WEAK entry is the one at the lowest position. -/
theorem State.oldestWeak_some (s : State) (e : RowEntry) :
    s.oldestWeak = some e ↔ e.state = .weak ∧ ∃ k : Nat, s.ret.entries[k]? = some e ∧
      ∀ k' e', k' < k → s.ret.entries[k']? = some e' → e'.state ≠ .weak := by
  unfold State.oldestWeak
  rw [List.find?_eq_some_iff_getElem]
  constructor
  · rintro ⟨h, k, hk, he, hl⟩
    refine ⟨by simpa using h, k, by simp [hk, he], fun k' e' hlt hx => ?_⟩
    obtain ⟨hk', rfl⟩ := List.getElem?_eq_some_iff.1 hx
    simpa using hl k' hlt
  · rintro ⟨h, k, hx, hl⟩
    obtain ⟨hk, rfl⟩ := List.getElem?_eq_some_iff.1 hx
    refine ⟨by simpa using h, k, hk, rfl, fun j hj => ?_⟩
    simpa using hl j _ hj (List.getElem?_eq_getElem (by omega))

theorem State.fire_srm_ret (s : State) (ev : Event) : (s.fire ev).srm = s.srm ∧ (s.fire ev).ret = s.ret := ⟨rfl, rfl⟩

/-- What an occasion to choose a move does, from the state's own spares and entries. -/
theorem State.chooseMove_chosen (s : State) (hn : (s.ret.entries.map (·.row)).Nodup) :
    MoveChosen s.srm s.ret.entries (MovePermitted s s.mdc.mode) (s.msq.port ≠ none) s.chooseMove := by
  have hold : ∀ (k : Nat) e, s.ret.entries[k]? = some e → e.state = .weak →
      (∀ (k' : Nat) e', k' < k → s.ret.entries[k']? = some e' → e'.state ≠ .weak) →
      s.oldestWeak = some e := fun k e hk he hl => (s.oldestWeak_some e).2 ⟨he, k, hk, hl⟩
  constructor
  · intro h
    have : s.weakToMove = none := by
      unfold State.weakToMove
      split
      · rename_i hp
        rcases h with h | h
        · exact absurd ((s.movePermitted_iff).2 hp) h
        · unfold State.oldestWeak
          rw [List.find?_eq_none]
          intro e he; simpa using h e he
      · rfl
    unfold State.chooseMove
    rw [this]
    exact ⟨rfl, rfl⟩
  · intro hp k e hk he hl
    have hw : s.weakToMove = some e := by
      unfold State.weakToMove
      rw [if_pos ((s.movePermitted_iff).1 hp), hold k e hk he hl]
    refine ⟨fun i hi => ?_, fun hf => ?_⟩
    · have hi' := (s.lowestFree_some i).2 hi
      unfold State.chooseMove
      rw [hw, hi']
      dsimp only
      refine ⟨fun h => ?_, fun h => ?_⟩
      · rw [if_neg (by simpa using h)]
        exact ⟨rfl, setRowState_eq_set _ k e _ hn hk⟩
      · rw [if_pos (by simpa [Option.isSome_iff_ne_none] using h)]
        exact ⟨rfl, rfl⟩
    · have hf' := (s.lowestFree_none).2 hf
      unfold State.chooseMove
      rw [hw, hf']
      refine ⟨rfl, rfl, ?_⟩
      unfold FlagSet
      simp

/-- The end of a group starts the move chosen whose start waited for it, and changes no other row or spare. -/
theorem State.endGroup_starts (s : State) : WaitingStarts s s.endGroup := by
  constructor
  · intro h
    have h0 : s.srm.startWaiting = none := by unfold MoveWaits at h; simpa using h
    unfold State.endGroup
    rw [h0]
    refine ⟨?_, rfl⟩
    show { s.srm with startWaiting := none } = s.srm
    rw [← h0]
  · intro row i hw hm ⟨e, he, hr, hs⟩ hi
    let s' : State := { s with msq := { s.msq with port := none }, srm := { s.srm with startWaiting := none } }
    have h1 : s'.lowestFree = some i := (s'.lowestFree_some i).2 hi
    have h2 : s'.moving = none := (s'.moving_none).2 hm
    have h3 : s'.ret.entries.any (fun e => e.row == row && e.state == .weak) = true :=
      List.any_eq_true.2 ⟨e, he, by simp [hr, hs]⟩
    have : s.endGroup = s'.startMove i row := by
      unfold State.endGroup
      rw [hw]
      show s'.startChosen row = _
      unfold State.startChosen
      rw [h1, h2, h3]
      rfl
    rw [this]
    exact ⟨rfl, rfl⟩

/-- A move chosen while a group holds the port stands at the end of that group, where nothing has changed the spares and
the entries since. -/
theorem State.chooseMove_endGroup (s : State) (hn : (s.ret.entries.map (·.row)).Nodup)
    (hm : ∀ i : Fin 16, s.srm.spares[i].isMoving = false) (hw : s.srm.startWaiting = none)
    (hg : s.msq.port ≠ none) :
    MoveChosen s.srm s.ret.entries (PermitsMoves s.mdc.mode) False s.chooseMove.endGroup := by
  have hp : PermitsMoves s.mdc.mode → MovePermitted s s.mdc.mode := fun h => ⟨h, hw, .inl hm⟩
  obtain ⟨h1, h2⟩ := s.chooseMove_chosen hn
  have hs : { s.srm with startWaiting := none } = s.srm := by rw [← hw]
  constructor
  · intro h
    have ⟨h3, h4⟩ := h1 (h.imp (fun h hp' => h hp'.1) id)
    have h5 := (State.endGroup_starts s.chooseMove).1 (by unfold MoveWaits; rw [h4, hw]; simp)
    exact ⟨by rw [h5.2, h3], by rw [h5.1, h4]⟩
  · intro h k e hk he hl
    obtain ⟨ha, hb⟩ := h2 (hp h) k e hk he hl
    refine ⟨fun i hi => ⟨fun _ => ?_, False.elim⟩, fun hf => ?_⟩
    · obtain ⟨h3, h4⟩ := (ha i hi).2 hg
      have h5 := (State.endGroup_starts s.chooseMove).2 e.row i (by rw [h3]) (by rw [h3]; exact hm)
        ⟨e, by rw [h4]; exact List.mem_of_getElem? hk, rfl, he⟩ (by rw [h3]; exact hi)
      rw [h5.1, h5.2, h3, h4]
      exact ⟨by rw [← hw], setRowState_eq_set _ k e _ hn hk⟩
    · obtain ⟨h3, h4, h5⟩ := hb hf
      have h6 := (State.endGroup_starts s.chooseMove).1 (by unfold MoveWaits; rw [h3, hw]; simp)
      refine ⟨by rw [h6.1, h3], by rw [h6.2, h4], ?_⟩
      unfold FlagSet at h5 ⊢
      simpa using h5

end Sys2Proof.Machine
end

