-- ==== Sys2Proof/Tests/Slice0.lean ====
section
/-! SUPPORT. Tests with results taken from the spec: its worked examples and tables, and its ranges. -/

namespace Sys2Proof.Machine.Tests

/-! ### Ill-formed commands are refused by the well-formedness checks -/

theorem test_wf_burst_of_none : (Instr.processorTransaction (.read 0 0)).wellFormed = false := by decide

theorem test_wf_burst_of_nine : (Instr.processorTransaction (.read 0 9)).wellFormed = false := by decide

theorem test_wf_write_of_none : (Instr.processorTransaction (.write 0 [])).wellFormed = false := by decide

theorem test_wf_burst_of_eight : (Instr.processorTransaction (.read 0 8)).wellFormed = true := by decide

theorem test_wf_word_zero_is_no_plain_write : (Instr.apertureWordWrite 0 5).wellFormed = false := by decide

theorem test_wf_known_code_is_not_unknown : (Instr.unknownCommand 0x17).wellFormed = false := by decide

theorem test_wf_code_past_the_last : (Instr.unknownCommand 0x18).wellFormed = true := by decide

theorem test_wf_frame_length : (Instr.frameArrival .a { header := 0x100, payload := [], crc := 0 }).wellFormed = false := by
  decide

theorem test_wf_link_up_length :
    (Instr.linkUp .b { header := 0x100, payload := [1, 2], crc := 0 }).wellFormed = false := by decide

/-! ### Helpers -/

/-- The state after a command. -/
def after (i : Instr) (s : State) : State :=
  match exec i s with
  | .next t => t
  | _ => s

/-- The state right after reset, in a mode. -/
def inMode (m : Mode) : State :=
  { State.reset with mdc := { mode := m, chen := decide (m = .run), cause := .none } }

/-- A region of the example of section 1.2. -/
def region (cls : RegionClass) (scrub : Bool) (base length : Nat) : Option Region :=
  some { cls, scrub, base, length }

/-- The table of section 1.2 with two entries as they are at each attempt. -/
def tableOf (three five : Option Region) : Vector (Option Region) 32 :=
  (((((Vector.replicate 32 none).set 0 (region .vital true 0 512)).set 1
    (region .constant false 0x00200000 1024)).set 2 (region .nonvital true 0x00600000 2048)).set 3
    three).set 5 five

/-- The table as it passes. -/
def goodTable : Vector (Option Region) 32 :=
  tableOf (region .nonvital false 0x00E00000 10) (region .vital true 0x01000000 4)

/-- 32 MiB with a table, in a mode. -/
def withTable (m : Mode) (t : Vector (Option Region) 32) : State :=
  { inMode m with msize := 1, rgt := { table := t, closed := decide (m ≠ .start ∧ m ≠ .load) } }

/-! ### Section 1.2: a table closed at the third attempt -/

theorem test_close_overlap :
    let t := after .tableClose (withTable .load
      (tableOf (region .nonvital false 0x00DFF000 10) (region .vital true 0x01000800 4)))
    t.apertureWord 8 = 5 ∧ t.apertureWord 9 = 3 ∧ t.apertureWord 10 = 4 ∧ t.apertureWord 11 = 2 ∧
      t.mdc.mode = .load := by decide

theorem test_close_base_align :
    let t := after .tableClose (withTable .load
      (tableOf (region .nonvital false 0x00E00000 10) (region .vital true 0x01000800 4)))
    t.apertureWord 8 = 5 ∧ t.apertureWord 9 = 5 ∧ t.apertureWord 10 = 1 := by decide

theorem test_close_passes :
    let t := after .tableClose (withTable .load goodTable)
    t.apertureWord 8 = 1 ∧ t.apertureWord 9 = 5 ∧ t.apertureWord 10 = 3 ∧ t.mdc.mode = .loaded := by decide

/-- Section 13.2: the images of entries 0 and 1. -/
theorem test_entry_images :
    imageWord0 goodTable[0] = 0x00000101 ∧ imageWord1 goodTable[0] = 0 ∧ imageWord2 goodTable[0] = 0x00000200 ∧
      imageWord0 goodTable[1] = 0x00000011 ∧ imageWord1 goodTable[1] = 0x00200000 ∧
      imageWord2 goodTable[1] = 0x00000400 := by decide

/-! ### Table 1.7: transactions taken in RUN, and the REPAIR case after it -/

/-- What admission answers to a transaction. -/
def judged (m : Mode) (listed : List Nat) (t : Transaction) : Admission :=
  ({ withTable m goodTable with rse := { Rse.initial with repairList := listed } }).admission t

theorem test_admit_constant_read : judged .run [] (.read 0x00200010 4) = .memory 1 .constant := by decide

theorem test_refuse_constant_write : judged .run [] (.write 0x00200010 [(0, 15)]) = .refused .modeClass := by decide

theorem test_refuse_region_crossing :
    judged .run [] (.write 0x001FFFF0 (List.replicate 8 (0, 15))) = .refused .regionCrossing := by decide

theorem test_refuse_no_region : judged .run [] (.read 0x00E0A000 1) = .refused .noRegion := by decide

theorem test_refuse_misaligned : judged .run [] (.read 0x00000102 1) = .refused .misaligned := by decide

theorem test_refuse_aperture_crossing : judged .run [] (.read 0x0FFFF03C 2) = .refused .apertureCrossing := by
  decide

theorem test_refuse_repair_block :
    judged .repair [0x00203000] (.read 0x00202FF0 8) = .refused .repairBlock ∧
      judged .repair [0x00203000] (.read 0x00202FF0 4) = .memory 1 .constant := by decide

theorem test_empty_mask_needs_no_memory :
    (after (.processorTransaction (.write 0x00000100 [(7, 0)])) (withTable .run goodTable)).txi =
      { held := none, response := some { status := .okay, data := [] } } := by decide

/-- R9: a transaction presented while one is held waits, and is taken when that one is answered. -/
theorem test_waiting_transaction_is_taken :
    let s := after (.apertureWordWrite 1 7) (after (.processorTransaction (.read 8 1)) (withTable .run goodTable))
    let t := after (.processorReadEnd { fill := 5, upset := 0 }) (after .arbiterGrant s)
    s.txi.waiting = [.word 1 7] ∧ s.apertureWord 1 = 0 ∧ t.txi.waiting = [] ∧ t.apertureWord 1 = 7 ∧
      t.txi.earlier = [{ status := .okay, data := [5] }] := by decide

/-! ### Table 12.7: a settings sequence -/

/-- The aperture after the TABLE_WRITE of entry 5. -/
def loadedPart : State := after (.tableWrite 0x101 0x01000000 4 5) (inMode .load)

/-- The burst write of the first row. -/
def firstBurst : State :=
  after (.processorTransaction (.write 0x0FFFF000 [(2, 15), (0x43, 15), (60, 15)]))
    { loadedPart with mdc := { mode := .loaded, chen := false, cause := .none } }

theorem test_settings_burst_runs_first :
    firstBurst.apertureWord 8 = 4 ∧ firstBurst.apertureWord 9 = 1 ∧ firstBurst.apertureWord 1 = 0x43 ∧
      firstBurst.cmi.settings.cycleLimit = 500 := by decide

theorem test_settings_reclamp :
    let t := after (.processorTransaction (.write 0x0FFFF000 [(2, 15)])) firstBurst
    t.apertureWord 8 = 2 ∧ t.apertureWord 10 = 60 ∧ t.apertureWord 11 = 30 ∧
      t.cmi.settings.voteDeadline = 30 := by decide

theorem test_settings_not_in_run :
    let t := after (.settingsWrite 0x45 30) (inMode .run)
    t.apertureWord 8 = 3 ∧ t.apertureWord 9 = 5 ∧ t.cmi.settings.syncLimit = 20 := by decide

theorem test_settings_scrub_rate :
    let t := after (.settingsWrite 0x40 100) (inMode .run)
    t.apertureWord 8 = 2 ∧ t.apertureWord 10 = 64 ∧ t.cmi.settings.scrubRate = 64 := by decide

/-! ### Section 2: the processor write to a row under move, and sharing the port -/

/-- The move of row 1500 into spare 2 at pointer 100. -/
def underMove : State :=
  let s := withTable .run goodTable
  { s with
    srm := { spares := s.srm.spares.set 2 (.moving 1500 100), startWaiting := none }
    dgu := { s.dgu with records := s.dgu.records.set 0 { DigestRecord.initial with valid := true } } }

theorem test_group_below_pointer :
    let g := underMove.groupOf (.pWrite 0x00177040 0xABCD) true
    g.row = 1500 ∧ g.word = 16 ∧ g.mirror = some 32754 ∧ g.updating = true ∧ g.slots = 3 ∧
      g.place.map (·.word) = some 384016 := by decide

theorem test_group_at_pointer :
    let g := underMove.groupOf (.pWrite 0x00177200 5) true
    g.mirror = none ∧ g.slots = 2 := by decide

/-- Table 2.7: the ninth grant goes to X. -/
theorem test_yield_after_eight :
    let v : Service := Service.newReentry .a [0]
    let s : State := { withTable .run goodTable with
      txi := { held := some (heldOf (.read 0 1) 0 .vital), response := none }
      msq := { port := none, yieldCount := 8, scrubCredit := 4, sourceCredit := 2 }
      rse := { Rse.initial with service := some v } }
    let t := after .arbiterGrant s
    t.msq.port.map (·.op) = some (.copyRead 0) ∧ t.msq.yieldCount = 0 ∧ t.msq.sourceCredit = 1 := by decide

/-! ### Table 4.5: a write during an audit, and Table 4.6: a decrement that wraps -/

/-- The record at the start of the case. -/
def audited : DigestRecord :=
  { valid := true, digest := 17179869214, running := true, acc := 4294967301, pointer := 2 }

theorem test_digest_formula : digestOf [5, 2147483648, 4294967295, 7] = 17179869214 := by decide

theorem test_write_below_pointer :
    audited.write 1 2147483648 100 = { audited with digest := 12884902118, acc := 205 } := by decide

theorem test_write_at_or_above_pointer :
    (audited.write 1 2147483648 100).write 3 7 0 = { audited with digest := 12884902090, acc := 205 } := by decide

theorem test_audit_word :
    ({ audited with acc := 205 }).auditWord 1024 2 4294967295 =
      { audited with acc := 12884902090, pointer := 3 } := by decide

theorem test_decrement_wraps :
    writeDelta 3 7 0 = 2305843009213693923 ∧
      ({ audited with digest := 28, running := false }).write 3 7 0 = { audited with digest := 0, running := false } := by
  decide

/-! ### Table 3.5: a row found weak -/

/-- RET with the entry of row 812 at count 2. -/
def row812 (n : Nat) : RowEntry :=
  { row := 812, state := .tracking, count := n, touched := false, last := 41, firstSeen := 1200 }

theorem test_third_error_turns_weak_and_moves :
    let t := ((inMode .run).setEntries [row812 2]).reportRow 812 40
    (t.ret.entries.map (·.state) = [.moving]) ∧ t.srm.spares[0] = .moving 812 0 ∧
      t.evu.flags.getLsbD 3 = true := by decide

theorem test_sweep_drops_untouched_tracking :
    sweepEntries [{ row812 3 with state := .replaced }, { row812 1 with row := 5120 }] =
      [{ row812 3 with state := .replaced }] := by decide

/-! ### Table 7.6: a decision with dissent -/

/-- A voter's set with these digests for regions 0, 1 and 5. -/
def votes76 (a b c : Nat) : PartnerSet :=
  { mode := some .run, tableDigest := 9
    entries := [⟨0, true, a⟩, ⟨1, true, b⟩, ⟨5, true, c⟩] }

theorem test_table_7_6 :
    let l : Snapshot := { tableDigest := 9, entries := [⟨0, true, 17179869214⟩, ⟨1, true, 12884902090⟩, ⟨5, false, 0⟩] }
    let rs := decisionResults l (some (votes76 17179869214 12884902090 28)) (some (votes76 17179869214 12884902118 28))
    rs = [(0, .agree), (1, .partnerDissent .b), (5, .localDissent), (32, .agree)] ∧
      worstOutcome rs = .localDissent := by decide

/-! ### Table 11.6: a PULSE line -/

/-- NA in PULSE style, everything routed to it. -/
def pulsed : State :=
  { State.reset with
    cmi := { State.reset.cmi with settings := { Settings.initial with styleA := .pulse } } }

theorem test_rise_pulses : (pulsed.fire .memCorrected).evu.na.state = .pulsing := by decide

/-- A pulse of NA ended after 20 µs, two pacing ticks. -/
def pulseEnded : State :=
  after (.noticePulseEnd .na) (after .pacingTick (after .pacingTick (pulsed.fire .memCorrected)))

/-- R169, R170: a gap of NOTICE_GAP 5 ms has not ended 10 µs before. -/
theorem test_gap_lasts_notice_gap :
    (after (.noticePulseEnd .na) (after .pacingTick (pulsed.fire .memCorrected))).evu.na.state = .pulsing ∧
      pulseEnded.evu.na.state = .holding ∧
      (after (.noticeGapEnd .na) (pulseEnded.setNotice .na { pulseEnded.evu.na with ticks := 499 })).evu.na.state =
        .holding := by decide

theorem test_rise_in_gap_is_pending :
    let s := pulseEnded
    s.evu.na.state = .holding ∧ (s.fire .rowWeak).evu.na.pending = true ∧
      (s.fire .memCorrected).evu.na.pending = false := by decide

theorem test_gap_end_gives_pending_pulse :
    let s := (pulseEnded.setNotice .na { pulseEnded.evu.na with ticks := 500 }).fire .rowWeak
    (after (.noticeGapEnd .na) s).evu.na = { state := .pulsing, pending := false, ticks := 0 } := by decide

theorem test_clear_ends_pulse_early :
    (after (.eventsClear 1) (pulsed.fire .memCorrected)).evu.na.state = .holding := by decide

/-! ### Frames and the block's own wires -/

/-- R84: the bytes "12345678", most significant bit first, through the polynomial 1021h from FFFFh (worked out apart). -/
theorem test_crc : crcOf 0x31323334 [0x35363738] = 0xA12B := by decide +kernel

theorem test_idle_header :
    (Frame.idle (some .run) (some 7) .source).wire 2 =
      { header := 0x00050202, payload := [7, 0x11]
        crc := crcOf 0x00050202 [7, 0x11] } := by decide +kernel

theorem test_digest_header :
    (Frame.digest 7 (some .run) 9 [⟨0, true, 5⟩, ⟨31, false, 0⟩]).payload =
      [7, 9, 0, 0x80000001, 5, 0x80000000, 0, 0] := by decide

theorem test_third_good_frame_brings_link_up :
    let w := (Frame.idle (some .run) none .none).wire 1
    let s := after (.frameArrival .a w) (after (.frameArrival .a w) State.reset)
    (s.link .a).up = false ∧ ((after (.frameArrival .a w) s).link .a).up = true ∧
      ((after (.linkUp .a w) s).link .a).rx.length = 3 := by decide +kernel

/-- Section 6.7, Table 6.7: a port on which nothing else is sent sends an IDLE frame every ms. -/
theorem test_idle_every_ms :
    let ms := fun s => after (.idleFrameSend .a) (after .msTick s)
    let s := after (.txFrameEnd .a) (ms State.reset)
    (ms State.reset).lkc.a.sending.isSome = true ∧ s.lkc.a.sending = none ∧ (ms s).lkc.a.sending.isSome = true := by
  decide

/-! ### Modes -/

theorem test_table_open_needs_identity :
    (after .tableOpen { State.reset with chanId := 3 }).apertureWord 8 = 4 ∧
      (after .tableOpen { State.reset with chanId := 3 }).mdc.mode = .start := by decide

theorem test_isolate_answers_with_mode_left :
    (after .isolate (inMode .sync)).apertureWord 9 = 4 ∧ (after .isolate (inMode .sync)).mdc.mode = .isolated := by
  decide

theorem test_step_takes_the_front :
    step { State.reset with pending := [.msTick, .por 0 0] } =
      .next { after .msTick State.reset with pending := [.por 0 0] } := by rfl

theorem test_no_word_spells_a_command : State.reset.withFetchWord 32 5 = State.reset := by decide

end Sys2Proof.Machine.Tests
end

