-- ==== Sys2Proof/Tests/Witness.lean ====
section
/-! SUPPORT. For every statement with hypotheses, a concrete state and operands that meet them, clause by clause and
at a boundary of the range where the clause has one. -/

namespace Sys2Proof.Machine.Tests

/-! ### States -/

/-- A property of every valid entry, checked index by index. -/
theorem forall_region {s : State} {P : Fin 32 → Region → Prop} [∀ i r, Decidable (P i r)]
    (h : ∀ i, (s.region i).all (fun r => decide (P i r)) = true) : ∀ i r, s.region i = some r → P i r := by
  intro i r hr
  have := h i
  rw [hr] at this
  simpa using this

/-- A group for an operation at row 0, word 0. -/
def grp (op : WordOp) : Group :=
  { op, row := 0, word := 0, mirror := none, place := none, updating := false, counted := false, audit := false,
    live := true }

/-- A state with a group in flight. -/
def onPort (g : Group) (s : State) : State := { s with msq := { s.msq with port := some g } }

/-- A sample with some of the 39 bits wrong. -/
def sample (upset : BitVec 39) : CellSample := { fill := 5, upset }

/-- A port that is UP, whose partner announces RUN. -/
def upRun : LinkPort :=
  { LinkPort.initial with up := true, partner := { Partner.initial with mode := some .run } }

/-- A state with these two ports. -/
def linked (a b : LinkPort) (s : State) : State := { s with lkc := { a, b } }

/-- A port with frames waiting to be taken. -/
def holding (fs : List Frame) : LinkPort := { upRun with rx := fs }

/-- A transmit queue with this many frames. -/
def full (n : Nat) (l : LinkPort) : LinkPort := { l with tx := List.replicate n .copyEnd }

/-- A state with these restoration records. -/
def serving (v : Service) (s : State) : State := { s with rse := { s.rse with service := some v } }

/-- A re-entry record. -/
def entering (ph : ReentryPhase) : Reentry :=
  { phase := ph, asked := .a, triedA := true, triedB := false, time := 0, copyEnd := false, auditsDone := false,
    source := some 7, join := none }

/-- A state with a re-entry record. -/
def reentering (v : Reentry) (s : State) : State := { s with rse := { s.rse with reentry := some v } }

/-- A repair record. -/
def mending (ph : RepairPhase) : Repair :=
  { phase := ph, asked := .a, triedA := true, triedB := false, time := 0, written := [], repaired := [] }

/-- A state with a repair record and a repair list. -/
def repairing (v : Repair) (list : List Nat) (s : State) : State :=
  { s with rse := { s.rse with repair := some v, repairList := list } }

/-- A vote record for cycle 7 with a snapshot. -/
def record7 : VoteRecord :=
  { VoteRecord.new 7 with snapshot := some { entries := [], tableDigest := 9 }, deadline := some 0 }

/-- A state in RUN with that record as the record of L. -/
def voting : State := { inMode .run with vtu := { Vtu.initial with last := some 7, watchdog := some 0, records := [record7] } }

theorem voting_law : VoteLaw voting := by
  refine ⟨by decide, by decide, by decide, by decide, by decide, ?_⟩
  intro l hl r hr _
  have h1 : r = record7 := by simpa [voting] using hr
  have h2 : l = 7 := by simpa [voting] using hl.symm
  subst h1 h2
  exact .inl ⟨rfl, rfl⟩

theorem reset_vote_law {s : State} (h : s.vtu = Vtu.initial) : VoteLaw s := by
  refine ⟨?_, ?_, ?_, ?_, ?_, ?_⟩ <;> simp [h, Vtu.initial]

theorem move_law_of {s : State} (h : ∀ i j : Fin 16, (s.srm.spares[i].isMoving && s.srm.spares[j].isMoving) = true → i = j) :
    MoveLaw s := by
  intro i j hi hj
  exact h i j (by rw [hi, hj]; rfl)

/-- Whether a spare is as RowMapLaw has it. -/
def spareFits (s : State) : Spare → Bool
  | .active r _ => decide (r < s.rows - 16) && s.ret.entries.any (fun e => e.row == r) &&
      s.ret.entries.all (fun e => e.row != r || e.state == .replaced)
  | .moving row _ => s.ret.entries.any (fun e => e.row == row && e.state != .tracking)
  | _ => true

theorem row_map_law_of {s : State}
    (h : ∀ i j : Fin 16, ((s.srm.spares[i].row.isSome && s.srm.spares[i].row == s.srm.spares[j].row) = true → i = j) ∧
      spareFits s s.srm.spares[i] = true) : RowMapLaw s := by
  refine ⟨fun i j r hi hj => (h i j).1 (by rw [hi, hj]; simp), fun i r a hi => ?_, fun i row p hi => ?_⟩
  · have := (h i i).2
    rw [hi] at this
    simpa [spareFits, and_assoc, imp_iff_not_or] using this
  · have := (h i i).2
    rw [hi] at this
    simpa [spareFits] using this

theorem repair_kept_new (p : Port) (b : Nat) : (Service.newRepair p b).repairKept := by
  refine ⟨by simp [Service.newRepair], rfl, rfl, ?_, ?_⟩ <;> simp [Service.newRepair, Service.repairEnds]

/-! ### The machine and its laws -/

theorem witness_StepRunsFrontCommand :
    ({ State.reset with pending := [.msTick] } : State).pending = .msTick :: [] ∧ State.reset.pending = [] :=
  ⟨rfl, rfl⟩

theorem witness_LawsHoldAfterPor : exec (.por 2 1) State.reset = .next (State.afterPor 2 1 []) := rfl

/-- A state that is not the reset state and meets every law: RUN, with a vote record and a service. -/
def running : State :=
  { serving (Service.newReentry .a [0]) voting with
    rgt := { table := goodTable, closed := true }, pending := [.isolate] }

theorem witness_StepKeepsChenAndClosedFlag : ChenLaw running ∧ ClosedLaw running ∧
    step running = .next (after .isolate { running with pending := [] }) := by
  refine ⟨by unfold ChenLaw; decide, by unfold ClosedLaw; decide, rfl⟩

theorem witness_StepKeepsBounds : CountersLaw running ∧ LinkQueuesLaw running ∧ MemoryLaw running ∧
    YieldLaw running ∧ SettingsLaw running ∧ BusLaw running ∧
    step running = .next (after .isolate { running with pending := [] }) := by
  refine ⟨⟨by decide, fun k => by cases k <;> decide⟩, fun p => by cases p <;> decide, by unfold MemoryLaw; decide,
    ⟨by decide, fun g a h => by simp [running, voting, inMode, serving, State.reset, State.afterPor] at h⟩,
    fun st => ?_, fun _ => rfl, rfl⟩
  cases st with
  | style l => cases l <;> decide
  | route i => revert i; decide
  | captureMode k => cases k <;> decide
  | _ => decide

/-- The same with rows 812 and 813: the first ACTIVE in spare 15, the second MOVING into spare 0. -/
def remapped : State :=
  { running with
    ret := { running.ret with entries :=
      [{ row := 812, state := .replaced, count := 3, touched := true, last := 4, firstSeen := 2 },
        { row := 813, state := .moving, count := 3, touched := true, last := 4, firstSeen := 2 }] }
    srm := { running.srm with spares := (running.srm.spares.set 15 (.active 812 9)).set 0 (.moving 813 255) } }

theorem witness_StepKeepsRowTableAndOneMove : RowTableLaw remapped ∧ MoveLaw remapped ∧ RowMapLaw remapped ∧
    step remapped = .next (after .isolate { remapped with pending := [] }) :=
  ⟨⟨by decide, by decide⟩, move_law_of (by decide), row_map_law_of (by decide), rfl⟩

theorem witness_StepKeepsDigestsInRange : DigestLaw running ∧
    step running = .next (after .isolate { running with pending := [] }) :=
  ⟨⟨by decide, by decide⟩, rfl⟩

theorem witness_StepKeepsSourceInRun : SourceLaw running ∧ ServiceQueueLaw running ∧
    step running = .next (after .isolate { running with pending := [] }) ∧
    ServiceQueueLaw (serving (Service.newRepair .b 4096) running) := by
  refine ⟨by unfold SourceLaw; decide, fun v hv => ?_, rfl, fun v hv => ?_⟩
  · have : v = Service.newReentry .a [0] := by simpa [running, serving] using hv.symm
    subst this
    exact ⟨by decide, by decide, by decide, by decide, by decide, fun f hf => absurd hf (by simp [Service.newReentry]),
      by decide, fun _ => rfl, fun h => (by cases h)⟩
  · have : v = Service.newRepair .b 4096 := by simpa [running, serving] using hv.symm
    subst this
    exact ⟨by decide, by decide, by decide, by decide, by decide, fun f hf => absurd hf (by simp [Service.newRepair]),
      by decide, fun h => (by cases h), fun _ => repair_kept_new _ _⟩

theorem witness_StepKeepsRepairList : RepairLaw running ∧
    step running = .next (after .isolate { running with pending := [] }) :=
  ⟨by unfold RepairLaw; decide, rfl⟩

theorem witness_StepKeepsVoteTable : VoteLaw running ∧
    step running = .next (after .isolate { running with pending := [] }) :=
  ⟨voting_law, rfl⟩

/-! ### Encodings and clocks -/

theorem witness_FrameReadsBackFromWire :
    (Frame.segment 0x0FFFFF00 (List.replicate 64 0)).sendable ∧ (2 : Nat) < 4 ∧
      (Frame.digest 7 none (2 ^ 61 - 1) [⟨0, true, 2 ^ 61 - 1⟩, ⟨31, false, 0⟩]).sendable := by
  refine ⟨⟨by decide, by decide⟩, by decide, by decide, by decide, by decide⟩

theorem witness_EntryReadsBackFromImage :
    ({ cls := .vital, scrub := true, base := 2 ^ 28 - 1, length := 2 ^ 16 - 1 } : Region).base < 2 ^ 28 ∧
      ({ cls := .vital, scrub := true, base := 2 ^ 28 - 1, length := 2 ^ 16 - 1 } : Region).length < 2 ^ 16 := by
  decide

theorem witness_CommandIsWriteOfWordZero :
    (commandWords (.countersRead 0 0) = some (0x16, [0, 0]) ∧ BusFree State.reset ∧
      ∀ k, k < 2 → State.reset.apertureWord (k + 1) = ([(0 : Word), 0][k]?).getD 0) ∧
    (BusFree State.reset ∧ namesCommand 0x18 = false) ∧ (BusFree State.reset ∧ (15 : Fin 16) ≠ 0) :=
  ⟨⟨rfl, ⟨rfl, rfl⟩, by decide⟩, ⟨⟨rfl, rfl⟩, by decide⟩, ⟨⟨rfl, rfl⟩, by decide⟩⟩

/-- Timers one tick below the tops of their ranges. -/
def ticking : State :=
  let s := voting
  { s with
    ret := { s.ret with ageing := 254999 }
    ptl := { s.ptl with timer := some 3599999 }
    vtu := { s.vtu with watchdog := some 4999 }
    lkc := { a := { upRun with silence := 4 }, b := LinkPort.initial }
    rse := { s.rse with reentry := some { entering .asking with time := 9 }, repair := some { mending .receiving with time := 9 } } }

theorem witness_MsTickAdvancesTimers :
    (ticking.cmi.settings.agePeriod ≠ 0 ∧ ticking.ret.ageing < 255000) ∧
    ({ State.reset with cmi := { State.reset.cmi with settings := { Settings.initial with agePeriod := 0 } } } :
      State).cmi.settings.agePeriod = 0 ∧
    State.reset.ptl.timer = none ∧ (ticking.ptl.timer = some 3599999 ∧ 3599999 < 3600000) ∧
    State.reset.vtu.watchdog = none ∧ (ticking.vtu.watchdog = some 4999 ∧ 4999 < 5000) ∧
    ticking.vtu.records[0]? = some record7 ∧ (ticking.link .a).silence < 5 ∧
    (ticking.rse.reentry = some { entering .asking with time := 9 } ∧ (9 < 10)) ∧
    (ticking.rse.repair = some { mending .receiving with time := 9 } ∧ (mending .receiving).phase ≠ .auditing) ∧
    (reentering (entering .receiving) State.reset).rse.reentry = some (entering .receiving) ∧
    (repairing (mending .auditing) [] State.reset).rse.repair = some (mending .auditing) := by
  decide

theorem witness_PacingTickSetsCredits :
    (State.reset.evu.line .na).state = .quiet ∧
    (({ State.reset with evu := { State.reset.evu with
      nb := { state := .holding, pending := false, ticks := 25499 } } } : State).evu.line .nb).ticks < 25500 := by
  decide

/-! ### Processor transactions -/

/-- The table of section 1.2 in RUN. -/
def inRun : State := withTable .run goodTable

theorem inRun_belongs : BelongsTo inRun 0x00200010 1 { cls := .constant, scrub := false, base := 0x00200000, length := 1024 } := by
  refine ⟨by decide, by decide, ?_⟩
  intro j q hq h1 h2
  refine (forall_region (s := inRun)
    (P := fun j q => q.base ≤ 0x00200010 → 0x00200010 < q.base + q.length * 4096 → j = 1) (by decide)) j q hq h1 h2

theorem witness_ChecksRefuseInOrder :
    BusFree inRun ∧
    ((Transaction.read 0x102 1).wellFormed = true ∧ txnAddress (.read 0x102 1) % 4 ≠ 0) ∧
    (txnAddress (.write 0 [(0, 15), (0, 0)]) % 4 = 0 ∧ ¬ MasksFull (.write 0 [(0, 15), (0, 0)])) ∧
    (MasksFull (.read 0x0FFFF040 1) ∧ 0x0FFFF040 ≤ txnAddress (.read 0x0FFFF040 1)) ∧
    0x0FFFF040 < txnAddress (.read 0x0FFFF03C 2) + 4 * txnLength (.read 0x0FFFF03C 2) ∧
    ¬ MaskWhole (.write 0x0FFFF03C [(0, 1)]) ∧
    (∀ i r, inRun.region i = some r →
      ¬ (r.base ≤ txnAddress (.read 0x00E0A000 1) ∧ txnAddress (.read 0x00E0A000 1) < r.base + r.length * 4096)) ∧
    (BelongsTo inRun 0x00200010 1 { cls := .constant, scrub := false, base := 0x00200000, length := 1024 } ∧
      ¬ TableAllows inRun.mdc.mode .constant true) ∧
    TableAllows .repair .constant false := by
  refine ⟨⟨rfl, rfl⟩, by decide, ⟨by decide, ?_⟩, ⟨?_, by decide⟩, by decide, ?_, forall_region (by decide),
    ⟨inRun_belongs, ?_⟩, ?_⟩
  · intro h; exact absurd (h _ _ rfl (by decide) (0, 0) (by decide)) (by decide)
  · intro a ws h; cases h
  · intro h; exact absurd (h _ _ rfl) (by decide)
  · unfold TableAllows; decide
  · unfold TableAllows; decide

/-- Its word read granted, with three accesses waiting behind it. -/
def waited : State :=
  let s := { inRun with txi := { held := some (heldOf (.read 0x00200010 1) 1 .constant), response := none } }
  after (.cycleMark 7) (after (.processorTransaction (.read 8 1)) (after (.apertureWordWrite 1 7) (after .arbiterGrant s)))

theorem witness_PassingTransactionIsHeld :
    (Transaction.read 0x00200010 4).wellFormed = true ∧ BusFree inRun ∧ txnAddress (.read 0x00200010 4) % 4 = 0 ∧
    MasksFull (.read 0x00200010 4) ∧ txnAddress (.read 0x00200010 4) < 0x0FFFF000 ∧
    BelongsTo inRun 0x00200010 1 { cls := .constant, scrub := false, base := 0x00200000, length := 1024 } ∧
    TableAllows inRun.mdc.mode .constant false ∧ ¬ TouchesListed inRun .constant (.read 0x00200010 4) ∧
    (waited.txi.held = some (heldOf (.read 0x00200010 1) 1 .constant) ∧
      accessOf (.processorTransaction (.read 8 1)) = some (.transaction (.read 8 1)) ∧
      accessOf (.cycleMark 7) = some (.command 0x0B [7]) ∧ accessOf (.apertureWordWrite 15 7) = some (.word 15 7) ∧
      accessOf (.unknownCommand 0x18) = some (.command 0x18 [])) ∧
    (waited.msq.port.map (·.op) = some (.pRead 0x00200010) ∧
      [Instr.apertureWordWrite 1 7, .processorTransaction (.read 8 1), .cycleMark 7].map accessOf =
        waited.txi.waiting.map some) := by
  refine ⟨by decide, ⟨rfl, rfl⟩, by decide, ?_, by decide, inRun_belongs, ?_, ?_, by decide, by decide⟩
  · intro a ws h; cases h
  · unfold TableAllows; decide
  · rintro ⟨h, -⟩; exact absurd h (by decide)

theorem witness_ApertureWordsReadAndStore :
    (BusFree State.reset ∧ 1 ≤ 8 ∧ 8 + 8 ≤ 16) ∧ ((15 : Fin 16) ≠ 0) ∧ ((0 : Word) = 0 ∨ 23 < (0x18 : Word).toNat) := by
  exact ⟨⟨⟨rfl, rfl⟩, by decide, by decide⟩, by decide, .inl rfl⟩

/-! ### Management commands -/

theorem witness_CommandNotAcceptedAnswersNotNow :
    (commandWords (.settingsWrite 0x45 30) = some (2, [0x45, 30]) ∧ NotAccepted (.settingsWrite 0x45 30) .run) ∧
    (commandWords .tableOpen = some (5, []) ∧ NotAccepted .tableOpen .load) ∧ NotAccepted (.tableWrite 0 0 0 0) .start ∧
    NotAccepted .tableClose .loaded ∧ NotAccepted .coldStart .ready ∧ NotAccepted .isolate .isolated ∧
    NotAccepted (.cycleMark 0) .verify ∧ NotAccepted .reenter .run ∧ NotAccepted (.joinAt 0) .verify ∧
    BusFree (inMode .run) := by
  refine ⟨⟨rfl, ?_⟩, ⟨rfl, ?_⟩, ?_, ?_, ?_, ?_, ?_, ?_, ?_, ⟨rfl, rfl⟩⟩ <;> unfold NotAccepted <;> decide

theorem witness_ReadingCommandsChangeNothing :
    commandWords (.voteRead 0 3) = some (0x0C, [0, 3]) ∧ ReadsOnly (.voteRead 0 3) ∧ BusFree State.reset :=
  ⟨rfl, trivial, ⟨rfl, rfl⟩⟩

theorem witness_StatusGivesChannel : BusFree (inMode .ready) ∧ 4 < (5 : Word).toNat := ⟨⟨rfl, rfl⟩, by decide⟩

theorem witness_StatusGivesPartners :
    BusFree (linked (full 16 upRun) upRun State.reset) ∧ ((full 16 upRun).tx.length ≤ 16) ∧
      upRun.partner.absence < 4 ∧ upRun.rx.length ≤ 8 := by
  exact ⟨⟨rfl, rfl⟩, by decide, by decide, by decide⟩

theorem witness_StatusGivesServices :
    (BusFree running ∧ running.rse.service = some (Service.newReentry .a [0]) ∧
      (Service.newReentry .a [0]).forwards ≤ 28) ∧
    BusFree (repairing (mending .asking) (List.replicate 8 0) State.reset) ∧
    (List.replicate 8 0).length ≤ 8 ∧
    (reentering (entering .receiving) State.reset).rse.reentry = some (entering .receiving) := by
  exact ⟨⟨⟨rfl, rfl⟩, rfl, by decide⟩, ⟨rfl, rfl⟩, by decide, rfl⟩

theorem witness_SettingsReadAndClamp :
    BusFree State.reset ∧ settingOf 0x174B = some (.route 23) ∧ settingOf 0x184B = none ∧
    settingOf 0x4D = none ∧ SettingsLaw running ∧ Setting.writable (.route 23) .run = true ∧
    Setting.writable .cycleLimit .isolated = true ∧ 255 < 256 :=
  ⟨⟨rfl, rfl⟩, by decide, by decide, by decide, witness_StepKeepsBounds.2.2.2.2.1, rfl, rfl, by decide⟩

theorem witness_CycleLimitReclampsDeadline :
    BusFree (inMode .loaded) ∧ settingOf 0x43 = some .cycleLimit ∧ (inMode .loaded).mdc.mode = .loaded :=
  ⟨⟨rfl, rfl⟩, by decide, rfl⟩

/-- RET with one TRACKING entry at count 2. -/
def tracked (s : State) : State := s.setEntries [row812 2]

/-- NA in a gap that has lasted this many pacing ticks. -/
def gapAt (n : Nat) : State := pulseEnded.setNotice .na { pulseEnded.evu.na with ticks := n }

/-- NA pulsing with NOTICE_GAP 0. -/
def unbroken : State :=
  let s := { pulsed with cmi := { pulsed.cmi with settings := { pulsed.cmi.settings with noticeGap := 0 } } }
  s.fire .memCorrected

theorem witness_SettingsActAtOnce :
    (BusFree (tracked State.reset) ∧ RowTableLaw (tracked State.reset) ∧ (2 : Word).toNat = 2 ∧
      (2 : Word).toNat ≠ (tracked State.reset).cmi.settings.weakLimit ∧
      ∃ e ∈ (tracked State.reset).ret.entries, e.state = .tracking ∧ (2 : Word).toNat ≤ e.count) ∧
    (BusFree State.reset ∧ (1 : Word).toNat ≠ (State.reset.cmi.settings.style .na).code) ∧
    (BusFree (pulsed.fire .memCorrected) ∧ (pulsed.fire .memCorrected).cmi.settings.style .na = .pulse ∧
      ((pulsed.fire .memCorrected).evu.line .na).state = .pulsing ∧
      (pulsed.fire .memCorrected).cmi.settings.noticeGap ≠ 0 ∧
      (0 : Word).toNat ≠ ((pulsed.fire .memCorrected).cmi.settings.route[(0 : Fin 24)]).code) ∧
    (unbroken.cmi.settings.noticeGap = 0 ∧ (unbroken.evu.line .na).state = .pulsing ∧
      (∀ j : Fin 24, unbroken.evu.flags.getLsbD j = true → j = 0)) ∧
    (BusFree (gapAt 300) ∧ (3 : Word).toNat ≠ (gapAt 300).cmi.settings.noticeGap ∧
      (gapAt 300).cmi.settings.style .na = .pulse ∧ ((gapAt 300).evu.line .na).state = .holding ∧
      (3 : Word).toNat * 100 ≤ ((gapAt 300).evu.line .na).ticks ∧
      ((gapAt 299).evu.line .na).ticks < (3 : Word).toNat * 100) := by
  refine ⟨⟨⟨rfl, rfl⟩, ⟨by decide, by decide⟩, by decide, by decide, row812 2, by decide, by decide, by decide⟩,
    ⟨⟨rfl, rfl⟩, by decide⟩, ⟨⟨rfl, rfl⟩, by decide, by decide, by decide, by decide⟩, by decide, ⟨rfl, rfl⟩, by decide⟩

theorem witness_TableWriteStoresEntry :
    (BusFree (inMode .load) ∧ (inMode .load).mdc.mode = .load) ∧
    ((31 : Word).toNat < 32 ∧ (0x30 : Word).toNat % 2 = 0) ∧
    ((0x11 : Word).toNat % 2 = 1 ∧ (0x11 : Word).toNat / 16 % 4 = RegionClass.constant.code) ∧
    ((0x31 : Word).toNat % 2 = 1 ∧ (0x31 : Word).toNat / 16 % 4 = 3) ∧ 32 ≤ (32 : Word).toNat := by
  refine ⟨⟨⟨rfl, rfl⟩, rfl⟩, ?_⟩; decide

theorem witness_TableReadGivesImage :
    BusFree inRun ∧ inRun.region 4 = none ∧
    inRun.region 0 = some { cls := .vital, scrub := true, base := 0, length := 512 } ∧ 31 < (32 : Word).toNat :=
  ⟨⟨rfl, rfl⟩, by decide, by decide, by decide⟩

/-- A table with one entry, in LOAD with 16 MiB. -/
def oneEntry (r : Region) : State :=
  { inMode .load with rgt := { table := (Vector.replicate 32 none).set 3 (some r), closed := false } }

/-- A table with two entries that share an address. -/
def twoEntries : State :=
  { inMode .load with rgt :=
    { table := ((Vector.replicate 32 none).set 3 (some { cls := .vital, scrub := true, base := 0, length := 2 })).set 5
        (some { cls := .vital, scrub := true, base := 4096, length := 1 }), closed := false } }

theorem one_entry_first {r : Region} (P : Fin 32 → Region → Prop) :
    ∀ j q, j < 3 → (oneEntry r).region j = some q → P j q := by
  intro j q hj hq
  exfalso
  have : ∀ j : Fin 32, j < 3 → ((oneEntry r).region j).isNone = true := by
    intro j hj
    have : j = 0 ∨ j = 1 ∨ j = 2 := by omega
    rcases this with rfl | rfl | rfl <;> rfl
  have := this j hj
  rw [hq] at this
  exact absurd this (by simp)

theorem two_entries_first : ∀ j q, j < 5 → twoEntries.region j = some q → EntryPasses twoEntries j q := by
  intro j q hj hq
  have h := forall_region (s := twoEntries) (P := fun j q => j < 5 → j = 3 ∧ q = { cls := .vital, scrub := true, base := 0, length := 2 })
    (by decide) j q hq hj
  obtain ⟨rfl, rfl⟩ := h
  refine ⟨by decide, by decide, by decide, ?_⟩
  intro k p hk hp
  have := forall_region (s := twoEntries) (P := fun k _ => ¬ k < 3) (by decide) k p hp
  exact absurd hk this

theorem witness_TableCloseValidatesAndCloses :
    (BusFree (oneEntry { cls := .vital, scrub := true, base := 4095, length := 1 }) ∧ 4095 % 4096 ≠ 0 ∧
      ∀ j q, j < 3 → (oneEntry { cls := .vital, scrub := true, base := 4095, length := 1 }).region j = some q →
        EntryPasses (oneEntry { cls := .vital, scrub := true, base := 4095, length := 1 }) j q) ∧
    (∀ j q, j < 3 → (oneEntry { cls := .vital, scrub := true, base := 4096, length := 0 }).region j = some q →
        EntryPasses (oneEntry { cls := .vital, scrub := true, base := 4096, length := 0 }) j q) ∧
    ((16384 - 16) * 1024 < 4096 + 4092 * 4096 ∧ (inMode .load).rows = 16384) ∧
    (BusFree twoEntries ∧ twoEntries.mdc.mode = .load ∧
      (∀ j q, j < 5 → twoEntries.region j = some q → EntryPasses twoEntries j q) ∧
      twoEntries.region 5 = some { cls := .vital, scrub := true, base := 4096, length := 1 } ∧ 4096 < 0 + 2 * 4096) ∧
    (BusFree (inMode .load) ∧ ∀ i r, (inMode .load).region i = some r → EntryPasses (inMode .load) i r) ∧
    (oneEntry { cls := .vital, scrub := true, base := 0, length := 4092 }).region 3 =
      some { cls := .vital, scrub := true, base := 0, length := 4092 } ∧
    ∀ i r, (oneEntry { cls := .vital, scrub := true, base := 0, length := 4092 }).region i = some r →
      EntryPasses (oneEntry { cls := .vital, scrub := true, base := 0, length := 4092 }) i r := by
  refine ⟨⟨⟨rfl, rfl⟩, by decide, one_entry_first _⟩, one_entry_first _, ⟨by decide, by decide⟩,
    ⟨⟨rfl, rfl⟩, rfl, two_entries_first, by decide, by decide⟩, ⟨⟨rfl, rfl⟩, ?_⟩, by decide, ?_⟩
  · intro i r h
    have := forall_region (s := inMode .load) (P := fun _ _ => False) (by decide) i r h
    exact this.elim
  · intro i r h
    have h2 := forall_region (s := oneEntry { cls := .vital, scrub := true, base := 0, length := 4092 })
      (P := fun i r => i = 3 ∧ r = { cls := .vital, scrub := true, base := 0, length := 4092 }) (by decide) i r h
    obtain ⟨rfl, rfl⟩ := h2
    exact ⟨by decide, by decide, by decide, one_entry_first _⟩

theorem witness_DigestReadGivesRecord :
    BusFree inRun ∧ inRun.region 5 = some { cls := .vital, scrub := true, base := 0x01000000, length := 4 } ∧
    (inRun.record 31).digest < 2 ^ 61 ∧ inRun.dgu.tableDigest < 2 ^ 61 ∧ 32 < (33 : Word).toNat :=
  ⟨⟨rfl, rfl⟩, by decide, by decide, by decide, by decide⟩

theorem witness_RowAndSpareReadsGiveEntries :
    BusFree underMove ∧ (63 : Word).toNat ≤ 63 ∧ underMove.ret.entries.length ≤ (0 : Word).toNat ∧
    (tracked State.reset).ret.entries[(0 : Word).toNat]? = some (row812 2) ∧ 63 < (64 : Word).toNat ∧
    underMove.srm.spares[(0 : Fin 16)] = .free ∧ underMove.srm.spares[(2 : Fin 16)] = .moving 1500 100 ∧
    (underMove.setSpare 15 (.active 1 2)).srm.spares[(15 : Fin 16)] = .active 1 2 ∧
    (underMove.setSpare 15 (.retired 2)).srm.spares[(15 : Fin 16)] = .retired 2 ∧ 15 < (16 : Word).toNat := by
  refine ⟨⟨rfl, rfl⟩, ?_⟩; decide

theorem witness_VoteReadGivesRecord :
    BusFree voting ∧ voting.vtu.unchecked < 4 ∧ voting.vtu.records.length < 8 ∧ voting.vtu.syncCount < 128 ∧
    (∀ r ∈ voting.vtu.records, r.cycle ≠ 8) ∧ voting.recordFor 7 = some record7 ∧
    (({ record7 with setA := some (votes76 1 2 3) }).setA = some (votes76 1 2 3)) ∧
    (votes76 1 2 3).tableDigest < 2 ^ 61 ∧ 32 ≤ 32 ∧ 2 < (3 : Word).toNat := by
  refine ⟨⟨rfl, rfl⟩, ?_⟩; decide

theorem witness_EventsReadAndClear :
    BusFree (pulsed.fire .memCorrected) ∧ ((pulsed.fire .memCorrected).evu.line .na).state = .pulsing ∧
    (pulsed.fire .memCorrected).cmi.settings.style .na = .pulse ∧
    (pulsed.fire .memCorrected).cmi.settings.noticeGap ≠ 0 ∧
    (unbroken.cmi.settings.noticeGap = 0 ∧ (unbroken.evu.line .na).state = .pulsing ∧
      unbroken.cmi.settings.style .na = .pulse) ∧
    (∃ i, i < 24 ∧ (pulsed.fire .memCorrected).evu.flags.getLsbD i = true ∧
      (pulsed.fire .memCorrected).cmi.settings.routed i .na = true) :=
  ⟨⟨rfl, rfl⟩, by decide, by decide, by decide, by decide, 0, by decide, by decide, by decide⟩

theorem witness_CapturesReadAndClear :
    BusFree State.reset ∧ (State.reset.evu.capture .link).fields = none ∧
    (State.reset.evu.capture .link).repeats < 256 ∧
    ((State.reset.offerCapture .link .linkA none (.rxOverrun 11)).evu.capture .link).fields.isSome = true ∧
    (Detail.rxOverrun 11).extra < 64 ∧ 3 < (4 : Word).toNat :=
  ⟨⟨rfl, rfl⟩, rfl, by decide, by decide, by decide, by decide⟩

theorem witness_CountersReadAndClear :
    (BusFree State.reset ∧ 1 ≤ (7 : Word).toNat ∧ (7 : Word).toNat ≤ 7 ∧ (9 : Word).toNat + (7 : Word).toNat ≤ 16) ∧
    15 < (16 : Word).toNat ∧ (0 : Word).toNat = 0 ∧ 7 < (8 : Word).toNat ∧
    16 < (10 : Word).toNat + (7 : Word).toNat := by
  refine ⟨⟨⟨rfl, rfl⟩, ?_⟩, ?_⟩ <;> decide

end Sys2Proof.Machine.Tests
end

