-- ==== Sys2Proof/Tests/WitnessSteps.lean ====
section
/-! SUPPORT. The witnesses of the statements about modes, services, the memory port, the timers and the links. -/

namespace Sys2Proof.Machine.Tests

/-! ### Modes and services -/

/-- The move of row 1500 with its entry, no group in flight. -/
def moved : State := underMove.setEntries [{ row812 3 with row := 1500, state := .moving }]

/-- A repair that has asked nobody yet. -/
def unasked : Repair := { mending .asking with triedA := false }

theorem witness_RestartReturnsToStart :
    (BusFree moved ∧ moved.msq.port = none ∧ MoveLaw moved ∧ moved.srm.spares[(2 : Fin 16)].isMoving = true ∧
      moved.rse.service = none ∧ moved.rse.reentry = none ∧ moved.rse.repair = none) ∧
    (BusFree running ∧ running.rse.service = some (Service.newReentry .a [0]) ∧ running.rse.reentry = none ∧
      running.rse.repair = none) ∧
    (BusFree (reentering (entering .receiving) (inMode .ready)) ∧
      (reentering (entering .receiving) (inMode .ready)).rse.reentry = some (entering .receiving) ∧
      (reentering (entering .receiving) (inMode .ready)).rse.service = none) ∧
    (BusFree (repairing (mending .auditing) [] inRun) ∧ (mending .auditing).triedA = true) ∧
    (BusFree (repairing unasked [] inRun) ∧ (repairing unasked [] inRun).rse.repair = some unasked ∧
      unasked.triedA = false ∧ unasked.triedB = false) ∧
    BusFree (onPort (grp (.moveCopy 0)) moved) ∧ (onPort (grp (.moveCopy 0)) moved).msq.port = some (grp (.moveCopy 0)) :=
  ⟨⟨⟨rfl, rfl⟩, rfl, move_law_of (by decide), by decide, rfl, rfl, rfl⟩, ⟨⟨rfl, rfl⟩, rfl, rfl, rfl⟩, ⟨⟨rfl, rfl⟩, rfl, rfl⟩, ⟨⟨rfl, rfl⟩, rfl⟩,
    ⟨⟨rfl, rfl⟩, rfl, rfl, rfl⟩, ⟨rfl, rfl⟩, rfl⟩

theorem witness_TableOpenAndColdStart :
    (BusFree State.reset ∧ State.reset.mdc.mode = .start ∧ State.reset.chanId ≠ 3) ∧
    (BusFree (State.afterPor 3 0 []) ∧ (State.afterPor 3 0 []).mdc.mode = .start ∧
      (State.afterPor 3 0 []).chanId = 3) ∧
    (BusFree (withTable .loaded goodTable) ∧ (withTable .loaded goodTable).mdc.mode = .loaded ∧
      (withTable .loaded goodTable).region 0 = some { cls := .vital, scrub := true, base := 0, length := 512 } ∧
      ∀ j : Fin 32, j < 0 → (withTable .loaded goodTable).region j = none) :=
  ⟨⟨⟨rfl, rfl⟩, rfl, by decide⟩, ⟨⟨rfl, rfl⟩, rfl, rfl⟩, ⟨rfl, rfl⟩, rfl, by decide, fun j hj => absurd hj (by omega)⟩

/-- A SCRUB pass at a word of region 5. -/
def scrubbing (w : Nat) (s : State) : State :=
  { s with ptl := { Ptl.initial with kind := .scrub, place := some { region := 5, word := w }, timer := some 3 } }

/-- VERIFY with its audit at a word of region 5. -/
def verifying (w : Nat) : State :=
  let s := reentering (entering .receiving) (withTable .verify goodTable)
  { s with ptl := { Ptl.initial with kind := .verifyAudit, place := some { region := 5, word := w } } }

/-- REPAIR with its audit in region 5 and the scrub it has suspended at a word of region 0, its own audit on. -/
def mended (w : Nat) : State :=
  let s := repairing (mending .auditing) [] (withTable .repair goodTable)
  { s with ptl := { Ptl.initial with
    kind := .repairAudit, place := some { region := 5, word := 7 }, timer := some 3, auditList := [5]
    suspended := some (some { region := 0, word := w }, true) } }

theorem witness_IsolateIsolatesChannel :
    (BusFree (scrubbing 7 inRun) ∧ inRun.mdc.mode = .run ∧ (scrubbing 7 inRun).ptl.kind = .scrub ∧
      (scrubbing 7 inRun).rse = Rse.initial) ∧
    (BusFree running ∧ running.mdc.mode = .run ∧ running.rse.service = some (Service.newReentry .a [0]) ∧
      running.rse.reentry = none ∧ running.rse.repair = none) ∧
    BusFree (reentering (entering .asking) (inMode .reentry)) ∧
    (reentering (entering .asking) (inMode .reentry)).mdc.mode = .reentry ∧
    (reentering (entering .asking) (inMode .reentry)).rse.reentry = some (entering .asking) ∧
    (withTable .clearing goodTable).scrubSet.head? = some 0 ∧
    (BusFree (verifying 7) ∧ (verifying 7).mdc.mode = .verify ∧ (verifying 7).ptl.kind = .verifyAudit ∧
      (verifying 7).ptl.place = some { region := 5, word := 7 } ∧ (5 : Fin 32) ≠ 0) ∧
    (BusFree (mended 0) ∧ (mended 0).mdc.mode = .repair ∧ (mended 0).ptl.kind = .repairAudit ∧
      (mended 0).ptl.suspended = some (some { region := 0, word := 0 }, true) ∧
      (mended 4).ptl.suspended = some (some { region := 0, word := 4 }, true) ∧
      (mended 0).rse.repair = some (mending .auditing) ∧ (mended 0).rse.service = none ∧
      (mended 0).rse.reentry = none) ∧
    (repairing (mending .receiving) [4096] (mended 0)).rse.repair = some (mending .receiving) ∧
    (repairing unasked [4096] (mended 0)).rse.repair = some unasked :=
  ⟨⟨⟨rfl, rfl⟩, rfl, rfl, rfl⟩, ⟨⟨rfl, rfl⟩, rfl, rfl, rfl, rfl⟩, ⟨rfl, rfl⟩, rfl, rfl, by decide, ⟨⟨rfl, rfl⟩, rfl, rfl, rfl, by decide⟩,
    ⟨⟨rfl, rfl⟩, rfl, rfl, rfl, rfl, rfl, rfl, rfl⟩, rfl, rfl⟩

/-- The watchdog at a number of ms in RUN. -/
def watched (n : Nat) : State := { voting with vtu := { voting.vtu with watchdog := some n } }

/-- A port whose partner has been absent this many times. -/
def absent (n : Nat) : LinkPort := { upRun with partner := { upRun.partner with absence := n } }

theorem witness_ExpiriesActWhenDue :
    ((watched 500).vtu.watchdog = some 500 ∧ (watched 500).cmi.settings.cycleLimit = 500 ∧
      (watched 500).mdc.mode = .run) ∧
    (watched 499).vtu.watchdog = some 499 ∧
    ({ inRun with vtu := { Vtu.initial with unchecked := 2 } }.vtu.unchecked = 2 ∧ inRun.mdc.mode = .run) ∧
    ({ inMode .sync with vtu := { Vtu.initial with syncCount := 20 } }.vtu.syncCount = 20 ∧
      (inMode .sync).cmi.settings.syncLimit = 20) ∧ (1 < 2 ∧ 19 < 20) ∧
    ((linked (absent 2) upRun inRun).link .a).partner.absence = 2 ∧
    ((linked (absent 2) upRun inRun).link .a).partner.lost = false ∧
    ((linked (absent 2) upRun inRun).link .b).partner.absence ≠ 2 := by
  decide

/-- RUN with L = 7 and no record, and a partner on port A that votes. -/
def marking : State := linked upRun LinkPort.initial { inRun with vtu := { Vtu.initial with last := some 7 } }

theorem witness_CycleMarkOpensRecord :
    (BusFree voting ∧ voting.mdc.mode = .run ∧ voting.vtu.last = some 7 ∧ (9 : Word) ≠ 7 + 1 ∧ (7 : Word) ≠ 7 + 1) ∧
    (BusFree (inMode .sync) ∧ (inMode .sync).vtu.last = none) ∧
    (BusFree marking ∧ marking.vtu.last = some ((8 : Word) - 1) ∧ marking.rse.service = none ∧
      marking.vtu.records = [] ∧ marking.expectedVoter .a = true ∧ (marking.link .a).up = true ∧
      (marking.link .a).tx.length < 16) :=
  ⟨⟨⟨rfl, rfl⟩, rfl, rfl, by decide, by decide⟩, ⟨⟨rfl, rfl⟩, rfl⟩, ⟨rfl, rfl⟩, by decide, rfl, rfl, by decide, rfl, by decide⟩

/-- ISOLATED with L = 7, and a link with room on port A. -/
def isolatedPart : State :=
  linked upRun (full 16 upRun) { inMode .isolated with vtu := { Vtu.initial with last := some 7 } }

/-- A mark refused there: what the free value leaves open, whichever it is. -/
theorem witness_CycleMarkOpensRecord_isolated :
    BusFree isolatedPart ∧ isolatedPart.mdc.mode = .isolated ∧ dropped (isolatedPart.link .a) = [] ∧
      dropped (isolatedPart.link .b) = [.txDrop] ∧
      ((isolatedPart.isolatedMark 8).link .a).tx =
        (if Config.isolatedDigest (some 7) 8 then [.digest 8 (some .isolated) 0 []] else []) := by
  have hq : queued (isolatedPart.link .a) (isolatedPart.digestFrame 8) = [.digest 8 (some .isolated) 0 []] := by decide
  refine ⟨⟨rfl, rfl⟩, rfl, by decide, by decide, ?_⟩
  rw [State.isolatedMark_link, hq]; rfl

/-- The service of a mark on the service port: unfinished, finished with one MARK queued, with two, and a repair. -/
theorem witness_CycleMarkOpensRecord_service :
    (let v := Service.newReentry .a [0]
     (serving v marking).rse.service = some v ∧ (marking.link v.port).up = true ∧ v.kind = .reentry ∧
       (∃ e ∈ v.map, e.2 ≠ .sent) ∧ (marking.link .b).up = false ∧
       (serving { v with port := .b } marking).expectedVoter .a = true) ∧
    (let v := { Service.newReentry .a [0] with map := [(0, .sent)], queue := [.digest 7 none 0 []] }
     (∀ e ∈ v.map, e.2 = .sent) ∧ v.queue.countP (fun f => f.kind == 1) < 2) ∧
    2 ≤ [Frame.digest 6 none 0 [], .digest 7 none 0 []].countP (fun f => f.kind == 1) ∧
    (serving (Service.newRepair .a 4096) marking).expectedVoter .a = true := by
  decide

/-- READY with a re-entry whose source is in cycle 7. -/
def readyPart : State := reentering (entering .receiving) (inMode .ready)

theorem witness_ReenterAsksAndJoinAtSetsCycle :
    (BusFree (inMode .loaded) ∧ ∀ p, ((inMode .loaded).link p).up = false) ∧
    (let s := linked (full 15 upRun) upRun (inMode .isolated)
     BusFree s ∧ s.mdc.mode = .isolated ∧ s.eligibleSource .a = true ∧ s.partnerId .a < s.partnerId .b ∧
       (s.link .a).tx.length < 16) ∧
    (let s := linked (full 16 upRun) LinkPort.initial (inMode .loaded)
     BusFree s ∧ s.eligibleSource .a = true ∧ s.eligibleSource .b = false ∧ 16 ≤ (s.link .a).tx.length) ∧
    (BusFree readyPart ∧ readyPart.mdc.mode = .ready ∧ readyPart.rse.reentry = some (entering .receiving) ∧
      (entering .receiving).source = some 7 ∧ ((15 : Word) - 7).toNat = 8 ∧ ((8 : Word) - 7).toNat = 1 ∧
      ((7 : Word) - 7).toNat = 0 ∧ ((16 : Word) - 7).toNat = 9) ∧
    BusFree (reentering { entering .receiving with source := none } (inMode .ready)) := by
  refine ⟨⟨⟨rfl, rfl⟩, fun p => by cases p <;> rfl⟩, ⟨⟨rfl, rfl⟩, ?_⟩, ⟨⟨rfl, rfl⟩, ?_⟩, ⟨⟨rfl, rfl⟩, ?_⟩, ⟨rfl, rfl⟩⟩ <;> decide

/-! ### The memory port -/

/-- Region 5 with credits, a SCRUB pass in it, and a transaction held. -/
def busy (yield : Nat) (tr : Transaction) : State :=
  let s := scrubbing 4095 inRun
  { s with
    txi := { held := some (heldOf tr 0 .vital), response := none }
    msq := { port := none, yieldCount := yield, scrubCredit := 1, sourceCredit := 0 } }

/-- The move of row 1500 at pointer 100 with a write held for its word 99. -/
def underMove2 : State :=
  { underMove with txi := { held := some (heldOf (.write 0x0017718C [(5, 15)]) 0 .vital), response := none } }

theorem witness_GrantFollowsArbiterOrder :
    (onPort (grp (.pRead 0)) inRun).msq.port ≠ none ∧
    (inRun.opP = none ∧ inRun.background = none) ∧
    ((busy 7 (.read 8 2)).txi.held = some (heldOf (.read 8 2) 0 .vital) ∧
      (heldOf (.write 8 [(3, 15)]) 0 .vital).writes = (3, 15) :: [] ∧
      (heldOf (.write 8 [(3, 1)]) 0 .vital).writes = (3, 1) :: [] ∧ (1 : BitVec 4) ≠ 15) ∧
    ((busy 7 (.read 8 2)).msq.port = none ∧ (busy 7 (.read 8 2)).opP = some (.pRead 8) ∧
      (busy 7 (.read 8 2)).msq.yieldCount < 8) ∧
    ((busy 8 (.read 8 2)).background = some (.scrubRead 5 4095 0x01003FFC) ∧
      8 ≤ (busy 8 (.read 8 2)).msq.yieldCount) ∧
    (∃ t g, exec .arbiterGrant (busy 7 (.read 8 2)) = .next t ∧ t.msq.port = some g) ∧
    ((busy 7 (.read 8 2)).setSpare 15 (.active 0 4)).srm.spares[(15 : Fin 16)] = .active 0 4 ∧
    (let w : FrameWork := { restoring := false, first := 0, next := 0, words := [3] }
     let s := linked { upRun with work := some w } { upRun with work := some w } inRun
     w.words = 3 :: [] ∧ (s.link .a).work = some w ∧
       ((linked upRun { upRun with work := some w } inRun).link .a).work = none) ∧
    (let v := Service.newReentry .a [0]
     (serving v inRun).rse.service = some v ∧ v.buffer = none ∧ v.map[v.walk]? = some (0, .unsent) ∧
       ((serving v inRun).link .a).work = none ∧ ((serving v inRun).link .b).work = none ∧
       (let b : SegmentBuffer := { block := 0, seg := 15, words := List.replicate 63 1 }
        b.words.length < 64 ∧ 64 ≤ (List.replicate 64 (1 : Word)).length) ∧
       { v with walk := 1, resend := [0] }.map.length ≤ { v with walk := 1, resend := [0] }.walk) ∧
    (underMove.srm.spares[(2 : Fin 16)] = .moving 1500 100 ∧ MoveLaw underMove ∧ underMove.mdc.mode = .run ∧
      1500 < underMove.rows - 16 ∧
      (let s := (underMove.setSpare 2 (.moving 32753 100)).setSpare 1 (.active 1500 4)
       s.srm.spares[(1 : Fin 16)] = .active 1500 4 ∧ 32753 = s.rows - 16 + (1 : Fin 16).val ∧ MoveLaw s) ∧
      (inMode .clearing).mdc.mode = .clearing) ∧
    ((scrubbing 7 inRun).ptl.place = some { region := 5, word := 7 } ∧ (scrubbing 7 inRun).ptl.kind = .scrub ∧
      (scrubbing 7 inRun).region 5 = some { cls := .vital, scrub := true, base := 0x01000000, length := 4 } ∧
      (verifying 7).ptl.kind = .verifyAudit ∧ inRun.ptl.place = none) ∧
    (∃ t g, exec .arbiterGrant underMove2 = .next t ∧ t.msq.port = some g ∧ underMove2.msq.port = none ∧
      g.mirror = some 32754) := by
  refine ⟨by decide, by decide, by decide, by decide, by decide,
    ⟨(busy 7 (.read 8 2)).arbitrate, ((busy 7 (.read 8 2)).arbitrate.msq.port).getD (grp (.pRead 0)), rfl, rfl⟩,
    by decide, by decide, by decide, ⟨by decide, move_law_of (by decide), rfl, by decide, ⟨by decide, by decide,
      move_law_of (by decide)⟩, rfl⟩, by decide,
    underMove2.arbitrate, (underMove2.arbitrate.msq.port).getD (grp (.pRead 0)), rfl, rfl, rfl, by decide⟩

/-- A group for an operation in region 0 at its word 0, as a grant fixes it. -/
def at0 (op : WordOp) (cls : RegionClass) : Group :=
  { grp op with place := some { region := 0, cls, word := 0 }, counted := true }

theorem in_run_memory {g : Group} : MemoryLaw (onPort g inRun) := by unfold MemoryLaw; rfl

theorem witness_ReadEndAnswersByOutcome :
    (let s := onPort (at0 (.pRead 0) .vital) inRun
     s.msq.port = some (at0 (.pRead 0) .vital) ∧ MemoryLaw s ∧ RowTableLaw s ∧ ¬ MoveWaits s ∧
       wrongBits (found s (at0 (.pRead 0) .vital) (sample 0)).flips = 0 ∧
       wrongBits (found s (at0 (.pRead 0) .vital) (sample 1)).flips = 1 ∧
       wrongBits (found s (at0 (.pRead 0) .vital) (sample 3)).flips = 2 ∧
       3 ≤ wrongBits (found s (at0 (.pRead 0) .vital) (sample 7)).flips ∧ s.txi.waiting = [] ∧
       ¬ EventOnly s.mdc.mode .vital) ∧
    EventOnly .run .nonvital ∧ EventOnly .isolated .vital ∧ (inMode .sync).mdc.mode = .sync ∧
    (let s := onPort (at0 (.pRead 0) .constant) (scrubbing 0 inRun)
     s.mdc.mode = .run ∧ s.rse.repairList = [] ∧ s.ptl.kind = .scrub ∧ s.ptl.asked = []) ∧
    (let s := repairing (mending .asking) (List.replicate 8 4096) (inMode .repair)
     s.mdc.mode = .repair ∧ s.rse.repairList.length = 8 ∧ 0 ∉ s.rse.repairList) := by
  refine ⟨⟨rfl, in_run_memory, ⟨by decide, by decide⟩, ?_, by decide, by decide, by decide, by decide, rfl,
    ?_⟩, .inl rfl, ?_, rfl, by decide, by decide⟩
  · unfold MoveWaits; decide
  · unfold EventOnly; decide
  · unfold EventOnly; decide

/-- A write group for region 0, which is digest-updating. -/
def updating (op : WordOp) : Group := { at0 op .vital with updating := true }

theorem witness_WriteEndStoresAndFollowsDigest :
    (let g := updating (.pWrite 0 5)
     let s := onPort g underMove
     s.msq.port = some g ∧ MemoryLaw s ∧ s.rse.service = none ∧ ¬ MoveWaits s ∧ (s.record 0).valid = true ∧
       g.place = some { region := 0, cls := .vital, word := 0 } ∧
       wrongBits (found s g (sample 0)).flips = 0 ∧ wrongBits (found s g (sample 3)).flips = 2) ∧
    (at0 (.pWrite 0 5) .nonvital).updating = false ∧
    (let g := updating (.pPartial 0 5 2)
     let s := onPort g underMove
     s.msq.port = some g ∧ MemoryLaw s ∧ wrongBits (found s g (sample 0)).flips = 0 ∧
       wrongBits (found s g (sample 1)).flips = 1 ∧ wrongBits (found s g (sample 3)).flips = 2) ∧
    (let r := { DigestRecord.initial with valid := true, running := true, pointer := 1 }
     (underMove.updateRecord 0 (fun _ => r)).record 0 = r ∧ 0 < r.pointer) ∧
    (let g := updating (.pPartial 0 5 2)
     WriteOf (onPort g underMove) g (.partialWriteEnd (sample 1)) (mergeBytes 5 5 2) (sample 1) ∧
       Unchanged (onPort g underMove) g (.partialWriteEnd (sample 1)) 5 (sample 1)) ∧
    (let g := updating (.pWrite 0 6)
     let i := Instr.processorWriteEnd (sample 0)
     WriteOf (onPort g underMove) g i 6 (sample 0) ∧ ¬ Unchanged (onPort g underMove) g i 6 (sample 0) ∧
       underMove.txi.waiting = []) ∧
    (Service.newReentry .a [0]).blockState 0 = some .unsent ∧
    (let v := { Service.newReentry .a [0] with map := [(0, .sent)] }
     v.blockState 0 = some .sent ∧ v.blockState 4096 = none ∧ v.queue.countP (fun f => f.kind == 6) < 28 ∧
       28 ≤ (List.replicate 28 (Frame.forward 0 0)).countP (fun f => f.kind == 6) ∧ v.resend.length < 64 ∧
       64 ≤ (List.replicate 64 0).length) ∧
    (let b : SegmentBuffer := { block := 0, seg := 0, words := [5] }
     let v := { Service.newReentry .a [0] with map := [(0, .sending)], walk := 1, buffer := some b }
     v.blockState 0 = some .sending ∧ 0 % 4096 / 256 = b.seg ∧ 0 % 256 / 4 < b.words.length ∧
       0 % 4096 / 256 < { b with seg := 1 }.seg ∧ { b with words := [] }.words.length ≤ 0 % 256 / 4) := by
  refine ⟨⟨rfl, by unfold MemoryLaw; rfl, rfl, by unfold MoveWaits; decide, ?_⟩, rfl,
    ⟨rfl, by unfold MemoryLaw; rfl, ?_⟩, ?_, ⟨.inr ⟨rfl, 0, 5, 2, rfl, ?_, ?_⟩, .inl rfl, ?_⟩, ⟨.inl ⟨rfl, 0, rfl⟩, ?_, rfl⟩,
    ?_⟩
  all_goals first | decide | skip
  exact fun h => absurd h.2 (by decide)

/-- A scrub read of word `w` of region 5 in flight, with a riding audit or not. -/
def scrubOf (w : Nat) : Group := grp (.scrubRead 5 w (0x01000000 + 4 * w))

/-- A riding audit of region 5 at word `w` with accumulator 0 and digest `d`. -/
def riding (w d : Nat) (s : State) : State :=
  { (onPort (scrubOf w) (scrubbing w s)).updateRecord 5
      (fun _ => { valid := true, digest := d, running := true, acc := 0, pointer := w }) with
    ptl := { (scrubbing w s).ptl with riding := true } }

theorem witness_ScrubReadEndAdvancesPass :
    (let s := onPort (scrubOf 4094) (scrubbing 4094 inRun)
     s.msq.port = some (scrubOf 4094) ∧ (scrubOf 4094).op = .scrubRead 5 4094 (0x01000000 + 4 * 4094) ∧
       s.ptl.kind = .scrub ∧ s.ptl.asked = [] ∧ MemoryLaw s ∧ s.ptl.riding = false ∧
       wrongBits (found s (scrubOf 4094) (sample 0)).flips = 0 ∧ 4094 + 1 < s.regionWords 5 ∧
       s.wordAddress 5 4095 / 4096 * 4096 ∉ s.rse.repairList ∧ ¬ MoveWaits s) ∧
    (let s := onPort (scrubOf 1023) (scrubbing 1023 (repairing (mending .asking) [0x01001000] inRun))
     s.wordAddress 5 1024 / 4096 * 4096 ∈ s.rse.repairList ∧ (1024 / 1024 + 1) * 1024 < s.regionWords 5 ∧
       s.wordAddress 5 2048 / 4096 * 4096 ∉ s.rse.repairList) ∧
    (let s := onPort (scrubOf 4095) (scrubbing 4095 inRun)
     4095 + 1 = s.regionWords 5 ∧ nextRegion s.scrubSet 5 = none ∧ s.scrubSet.head? = some 0 ∧
       nextRegion s.scrubSet 0 = some 1) ∧
    (let s := riding 4095 7 inRun
     s.ptl.riding = true ∧ (s.record 5).running = true ∧ (s.record 5).pointer = 4095 ∧ RowTableLaw s ∧
       4095 + 1 = s.regionWords 5 ∧
       ((s.record 5).acc + (found s (scrubOf 4095) (sample 0)).data.toNat * 4096) % (2 ^ 61 - 1) = 5 * 4096 ∧
       wrongBits (found s (scrubOf 4095) (sample 1)).flips = 1) ∧
    (let s := onPort (scrubOf 4094) (scrubbing 4094 (withTable .isolated goodTable))
     s.mdc.mode = .isolated ∧ wrongBits (found s (scrubOf 4094) (sample 3)).flips = 2) := by
  refine ⟨⟨rfl, rfl, rfl, rfl, by unfold MemoryLaw; rfl, rfl, by decide, by decide, by decide,
    by unfold MoveWaits; decide⟩, by decide, by decide, ⟨by decide, by decide, by decide, ⟨by decide, by decide⟩,
    by decide, by decide, by decide⟩, by decide⟩

/-- An audit read of word `w` of region 5 in flight. -/
def auditOf (w : Nat) : Group := grp (.auditRead 5 w (0x01000000 + 4 * w))

/-- An audit walk at word `w` of region 5. -/
def auditing (k : PassKind) (w : Nat) (valid : Bool) (d : Nat) (s : State) : State :=
  { (onPort (auditOf w) s).updateRecord 5
      (fun _ => { valid, digest := d, running := true, acc := 0, pointer := w }) with
    ptl := { Ptl.initial with
      kind := k, place := some { region := 5, word := w }, timer := some 0, auditList := [5]
      suspended := if k = .repairAudit then some (none, false) else none } }

theorem witness_AuditAndClearEndsAdvanceWalk :
    (let s := auditing .verifyAudit 4095 false 0 (reentering (entering .receiving) (withTable .verify goodTable))
     s.msq.port = some (auditOf 4095) ∧ MemoryLaw s ∧ s.ptl.kind = .verifyAudit ∧ ¬ MoveWaits s ∧
       wrongBits (found s (auditOf 4095) (sample 0)).flips = 0 ∧ (s.record 5).running = true ∧
       (s.record 5).pointer = 4095 ∧ 4095 + 1 = s.regionWords 5 ∧ (s.record 5).valid = false ∧
       nextRegion s.digestRegions 5 = none ∧ nextRegion s.digestRegions 0 = some 1) ∧
    (let s := auditing .repairAudit 4095 true 20480 (repairing (mending .auditing) [] (withTable .repair goodTable))
     s.mdc.mode = .repair ∧ s.rse.repair ≠ none ∧ s.ptl.suspended ≠ none ∧ (s.record 5).valid = true ∧
       ((s.record 5).acc + (found s (auditOf 4095) (sample 0)).data.toNat * 4096) % (2 ^ 61 - 1) = (s.record 5).digest ∧
       nextRegion s.ptl.auditList 5 = none) ∧
    (let g := grp (.clearWrite 5 4095 0x01003FFC)
     let s := onPort g (withTable .clearing goodTable)
     s.msq.port = some g ∧ MemoryLaw s ∧ s.regionWords 5 ≤ 4095 + 1 ∧ nextRegion s.validRegions 5 = none ∧
       nextRegion s.validRegions 0 = some 1 ∧ s.mdc.mode = .clearing) := by
  refine ⟨⟨rfl, by unfold MemoryLaw; rfl, rfl, by unfold MoveWaits; decide, ?_⟩, ?_,
    ⟨rfl, by unfold MemoryLaw; rfl, ?_⟩⟩ <;> decide

/-- A frame in work with this many words left. -/
def inWork (restoring : Bool) (n : Nat) : LinkPort :=
  { upRun with work := some { restoring, first := 0, next := 0, words := List.replicate n 3 } }

theorem witness_CopyAndFrameEndsMoveWords :
    (let v := { Service.newReentry .a [0] with buffer := some { block := 0, seg := 15, words := [] } }
     let g := at0 (.copyRead 0) .vital
     let s := onPort g (serving v inRun)
     s.msq.port = some g ∧ MemoryLaw s ∧ g.live = true ∧ s.rse.service = some v ∧ v.buffer.isSome = true ∧
       wrongBits (found s g (sample 1)).flips = 1 ∧ s.mdc.mode = .run ∧
       wrongBits (found s g (sample 3)).flips = 2 ∧ ¬ MoveWaits s) ∧
    ({ at0 (.copyRead 0) .vital with live := false }).live = false ∧
    (let g := updating (.frameWrite .a 0 3)
     let s := onPort g (linked (inWork false 1) upRun underMove)
     s.msq.port = some g ∧ MemoryLaw s ∧ (s.link .a).work.isSome = true ∧
       wrongBits (found s g (sample 1)).flips = 1 ∧ (s.record 0).valid = true) ∧
    (let g := grp (.restoringWrite .a 0 3)
     let s := onPort g (linked (inWork true 1) upRun (repairing (mending .receiving) [0] (inMode .repair)))
     s.msq.port = some g ∧ MemoryLaw s ∧ (s.link .a).work.isSome = true ∧
       s.rse.repairList.head? = some (0 / 4096 * 4096) ∧ ¬ MoveWaits s) := by
  refine ⟨⟨rfl, by unfold MemoryLaw; rfl, rfl, rfl, rfl, by decide, rfl, by decide, by unfold MoveWaits; decide⟩, rfl,
    ⟨rfl, by unfold MemoryLaw; rfl, by decide, by decide, by decide⟩,
    rfl, by unfold MemoryLaw; rfl, by decide, by decide, by unfold MoveWaits; decide⟩

/-- The copy of one word of row 1500 to spare 2 in flight, the pointer at `p`. -/
def copying (p : Nat) : State :=
  onPort { grp (.moveCopy (1500 * 1024 + 4 * p)) with row := 1500, word := p, mirror := some 32754 }
    (moved.setSpare 2 (.moving 1500 p))

/-- Row 812 in spare 15, whose row is on the move into spare 2. -/
def chained : State :=
  ((moved.setEntries [{ row812 3 with state := .replaced }, { row812 3 with row := 32767, state := .moving }]).setSpare 15
    (.active 812 9)).setSpare 2 (.moving 32767 255)

theorem witness_RowMoveCopiesWords :
    (copying 255).msq.port.map (·.live) = some true ∧ (copying 255).rows - 16 + 2 = 32754 ∧
    (copying 255).srm.spares[(2 : Fin 16)] = .moving 1500 255 ∧ MoveLaw (copying 255) ∧ MemoryLaw (copying 255) ∧
    RowTableLaw (copying 255) ∧ 1500 < (copying 255).rows - 16 ∧ 254 + 1 < 256 ∧ (copying 254).rse.service = none ∧
    (∀ e ∈ (copying 255).ret.entries, e.state ≠ .weak) ∧
    RowMapLaw (copying 255) ∧
    (let s := onPort { grp (.moveCopy (812 * 1024 + 1020)) with row := 32767, word := 255, mirror := some 32754 } chained
     s.srm.spares[(15 : Fin 16)] = .active 812 9 ∧ s.srm.spares[(2 : Fin 16)] = .moving 32767 255 ∧
       32767 = s.rows - 16 + (15 : Fin 16).val ∧ MoveLaw s ∧ RowMapLaw s ∧ RowTableLaw s) :=
  ⟨by decide, by decide, by decide, move_law_of (by decide), by unfold MemoryLaw; rfl, ⟨by decide, by decide⟩,
    by decide, by decide, rfl, by decide, row_map_law_of (by decide), by decide, by decide, by decide,
    move_law_of (by decide), row_map_law_of (by decide), by decide, by decide⟩

end Sys2Proof.Machine.Tests
end

