-- ==== Sys2Proof/Tests/WitnessFrames.lean ====
section
/-! SUPPORT. The witnesses of the statements about the timers, the vote, the links and the frames taken. -/

namespace Sys2Proof.Machine.Tests

/-! ### Timers -/

/-- A sweep that is due, with an entry that goes, one whose mark is cleared and one that is weak again. -/
def sweeping : State :=
  let s := inMode .start
  { s with
    ret :=
      { entries := [row812 1, { row812 2 with row := 5, touched := true }, { row812 3 with row := 6, state := .moveFailed }]
        ageing := 30000, sweepDue := true } }

/-- A coverage timer whose limit has come. -/
def late : State := { pulsed with ptl := { Ptl.initial with timer := some 900000, lateDue := true } }

/-- Line NA in PULSE style in this state since so many pacing ticks. -/
def lineA (st : PulseState) (pending : Bool) (ticks gap : Nat) : State :=
  { pulsed with
    evu := { pulsed.evu with na := { state := st, pending, ticks }, flags := 1 }
    cmi := { pulsed.cmi with settings := { pulsed.cmi.settings with noticeGap := gap } } }

theorem witness_TimersSweepLateAndNotice :
    (sweeping.ret.sweepDue = true ∧ RowTableLaw sweeping) ∧ (moved.ret.sweepDue = false) ∧
    (∀ e ∈ (tracked State.reset).ret.entries, e.state ≠ .moveFailed) ∧
    (late.ptl.lateDue = true ∧ late.ptl.timer = some 900000 ∧ late.cmi.settings.style .na = .pulse ∧
      late.cmi.settings.routed 8 .na = true ∧ ¬ FlagSet late .scrubLate ∧ (late.evu.line .na).state = .quiet ∧
      late.cmi.settings.routed 8 .nb = false) ∧ (moved.ptl.lateDue = false) ∧
    ((lineA .pulsing false 2 5).cmi.settings.style .na = .pulse ∧
      ((lineA .pulsing false 2 5).evu.line .na).state = .pulsing ∧ 2 ≤ ((lineA .pulsing false 2 5).evu.line .na).ticks ∧
      (lineA .pulsing false 2 5).cmi.settings.noticeGap ≠ 0 ∧ (lineA .pulsing true 2 0).cmi.settings.noticeGap = 0) ∧
    ((lineA .holding true 500 5).cmi.settings.style .na = .pulse ∧
      ((lineA .holding true 500 5).evu.line .na).state = .holding ∧
      (lineA .holding true 500 5).cmi.settings.noticeGap * 100 ≤ ((lineA .holding true 500 5).evu.line .na).ticks) ∧
    (State.reset.cmi.settings.style .na = .level ∧ ((lineA .quiet false 0 5).evu.line .na).state = .quiet ∧
      ((lineA .pulsing false 1 5).evu.line .na).ticks < 2 ∧
      ((lineA .holding false 499 5).evu.line .na).ticks < (lineA .holding false 499 5).cmi.settings.noticeGap * 100) := by
  refine ⟨⟨rfl, by decide, by decide⟩, rfl, by decide, ⟨rfl, rfl, rfl, by decide, ?_, ?_⟩, rfl, ?_⟩
  · unfold FlagSet; decide
  · decide
  · decide

/-! ### The vote -/

/-- A snapshot of three regions. -/
def local76 : Snapshot := { tableDigest := 9, entries := [⟨0, true, 1⟩, ⟨1, true, 2⟩, ⟨5, true, 3⟩] }

/-- A record whose deadline has come. -/
def dueRecord (a b : Option PartnerSet) : VoteRecord :=
  { VoteRecord.new 7 with
    snapshot := some local76, deadline := some 0, expectA := true, expectB := true, setA := a, setB := b }

/-- A state with that record in a mode. -/
def deciding (m : Mode) (a b : Option PartnerSet) : State :=
  linked (absent 1) upRun
    { inMode m with vtu := { Vtu.initial with last := some 7, watchdog := some 0, records := [dueRecord a b] } }

theorem deciding_law (m : Mode) (h : m = .sync ∨ m = .run ∨ m = .repair) (a b : Option PartnerSet) :
    VoteLaw (deciding m a b) := by
  refine ⟨by show 1 ≤ 4; omega, by simp [deciding, linked], ?_, fun h => (by cases h), ?_, ?_⟩
  · exact Nat.le_trans List.countP_le_length (show 1 ≤ 3 by omega)
  · intro h'
    have hm : (deciding m a b).mdc.mode = m := rfl
    rw [hm] at h'
    rcases h with rfl | rfl | rfl <;> simp at h'
  · intro l hl r hr _
    have h1 : r = dueRecord a b := by simpa [deciding, linked] using hr
    have h2 : l = 7 := by simpa [deciding, linked] using hl.symm
    subst h1 h2
    exact .inl ⟨rfl, rfl⟩

/-- A partner set that agrees everywhere, that differs on region 1, and that differs from both there. -/
def agrees : PartnerSet := votes76 1 2 3
def differs : PartnerSet := votes76 1 4 3
def differsMore : PartnerSet := votes76 1 5 3

theorem witness_DeadlineDecidesByMajority :
    (VoteLaw (deciding .run none none) ∧ dueRecord none none ∈ (deciding .run none none).vtu.records ∧
      (dueRecord none none).outcome = none ∧ (dueRecord none none).deadline = some 0 ∧
      (dueRecord none none).snapshot = some local76 ∧
      (∀ q ∈ (deciding .run none none).vtu.records, q.outcome = none → q.deadline = some 0 → q = dueRecord none none) ∧
      (dueRecord none none).expects .a = true ∧ (dueRecord none none).setOf .a = none ∧
      ((deciding .run none none).link .a).partner.absence = 1) ∧
    VoteLaw (deciding .sync (some agrees) none) ∧ VoteLaw (deciding .repair (some differs) none) ∧
    (agrees.votes .run = true ∧ agrees.tableDigest = local76.tableDigest ∧
      ∀ e ∈ local76.entries, localEquals local76 agrees e.region = true) ∧
    (differs.votes .repair = true ∧ differs.tableDigest = local76.tableDigest ∧
      ∃ e ∈ local76.entries, localEquals local76 differs e.region = false) ∧
    ({ agrees with tableDigest := 8 }.tableDigest ≠ local76.tableDigest) ∧
    (∃ e ∈ local76.entries, localEquals local76 differs e.region = false ∧
      localEquals local76 differsMore e.region = false ∧ partnersEqual local76 differs differsMore e.region = false) ∧
    ((∃ e ∈ local76.entries, localEquals local76 differs e.region = false ∧ localEquals local76 differs e.region = false) ∧
      ∀ e ∈ local76.entries, localEquals local76 differs e.region = true ∨ localEquals local76 differs e.region = true ∨
        partnersEqual local76 differs differs e.region = true) := by
  refine ⟨⟨deciding_law _ (.inr (.inl rfl)) _ _, by decide, rfl, rfl, rfl, by decide, rfl, rfl, rfl⟩,
    deciding_law _ (.inl rfl) _ _, deciding_law _ (.inr (.inr rfl)) _ _, ?_⟩
  decide

/-! ### Links -/

/-- A frame as partner 1 sends it to channel 0 on port A. -/
def fromA (f : Frame) : WireFrame := f.wire 1

/-- Frames with a wrong CRC, of another sender, and of a kind that Table 6.3 does not name. -/
def badCrc : WireFrame := { fromA .copyEnd with crc := 0 }
def strange : WireFrame := Frame.copyEnd.wire 2
def malformed : WireFrame := { header := 0x0000FF01, payload := [], crc := crcOf 0x0000FF01 [] }

/-- Port A with a receive queue of this length. -/
def filled (n : Nat) : LinkPort := { upRun with rx := List.replicate n .copyEnd, badRun := 2 }

/-- Port A DOWN with this good run. -/
def waking (n : Nat) : LinkPort := { LinkPort.initial with goodRun := n }

theorem witness_ArrivalIsJudgedAndQueued :
    (crcGood badCrc = false ∧ (linked upRun upRun inRun).chanId ≠ 3 ∧ ((filled 7).up = true ∧ (filled 7).badRun < 3)) ∧
    (crcGood malformed = true ∧ senderOf malformed.header = inRun.partnerId .a ∧
      parseFrame malformed.header malformed.payload = none) ∧
    (crcGood strange = true ∧ senderOf strange.header ≠ inRun.partnerId .a) ∧
    (crcGood (fromA .copyEnd) = true ∧ senderOf (fromA .copyEnd).header = inRun.partnerId .a ∧
      parseFrame (fromA .copyEnd).header (fromA .copyEnd).payload = some .copyEnd ∧ (filled 7).rx.length < 8) ∧
    ((waking 1).up = false ∧ (waking 1).goodRun < 2 ∧ (waking 1).rx.length < 8 ∧ 2 ≤ (waking 2).goodRun) ∧
    ({ filled 7 with badRun := 3 }.up = true ∧ 3 ≤ { filled 7 with badRun := 3 }.badRun ∧ inRun.vtu.records = [] ∧
      inRun.rse = Rse.initial) ∧
    (8 ≤ (filled 8).rx.length ∧ (linked (filled 8) upRun inRun).rse.reentry = none) ∧
    (readyPart.rse.reentry = some (entering .receiving) ∧ (entering .receiving).asked = .a ∧
      readyPart.mdc.mode = .ready) := by
  decide +kernel

/-- A port whose silence has reached 5. -/
def silent : LinkPort := { full 3 upRun with silence := 5 }

theorem witness_LinkStateFollowsRunsAndSilence :
    (crcGood (fromA .copyEnd) = true ∧ (waking 2).up = false ∧ 2 ≤ (waking 2).goodRun ∧ (waking 2).rx.length < 8 ∧
      inRun.chanId ≠ 3) ∧
    ((linked silent upRun inRun).link .a).up = true ∧ 5 ≤ ((linked silent upRun inRun).link .a).silence ∧
    (upRun.silence < 5 ∧ { upRun with badRun := 4 }.up = true ∧ 4 ≤ { upRun with badRun := 4 }.badRun) ∧
    (inRun.vtu.records = [] ∧ inRun.rse = Rse.initial) ∧
    ((serving (Service.newReentry .a [0]) (linked silent upRun inRun)).rse.service =
      some (Service.newReentry .a [0]) ∧ (Service.newReentry .a [0]).port = .a) ∧
    (linked silent upRun readyPart).rse.reentry = some (entering .receiving) ∧
    ({ waking 1 with silence := 5 }.up = false ∧ 5 ≤ { waking 1 with silence := 5 }.silence) ∧
    (waking 1).silence < 5 ∧ (waking 1).badRun < 4 := by
  decide +kernel

theorem witness_TransmitterSendsFrames :
    (let l := { upRun with idleDue := true }
     l.idleDue = true ∧ l.sending = none ∧ l.tx = [] ∧ inRun.chanId ≠ 3) ∧
    (full 1 upRun).tx ≠ [] ∧ ((full 1 upRun).sending = none ∧ (full 1 upRun).tx = .copyEnd :: []) ∧
    running.rse.service = some (Service.newReentry .a [0]) ∧
    (readyPart.rse.service = none ∧ readyPart.rse.reentry ≠ none) ∧
    ((repairing (mending .asking) [] inRun).rse.reentry = none ∧
      (repairing (mending .asking) [] inRun).rse.repair ≠ none) ∧ upRun.tx = [] := by
  decide

/-- A service with this queue and nothing else to do. -/
def queueing (q : List Frame) : Service := { Service.newReentry .a [0] with queue := q }

/-- A service whose buffer is full at segment 15 of block 0. -/
def bufferFull : Service :=
  { Service.newReentry .a [0] with
    map := [(0, .sending)], walk := 1, buffer := some { block := 0, seg := 15, words := List.replicate 64 1 } }

/-- A service whose walk is done. -/
def walkDone : Service := { Service.newReentry .a [0] with map := [(0, .sent)], walk := 1, buffer := none }

theorem witness_ServiceQueueJoinsAndMoves :
    ((queueing [.forward 0 1]).queue = .forward 0 1 :: [] ∧ (Frame.forward 0 1).kind ≠ 11 ∧
      (Frame.repairEnd 0).kind = 11 ∧ (full 12 upRun).tx.length ≤ 12 ∧ 13 ≤ (full 13 upRun).tx.length ∧
      (full 12 upRun).up = true) ∧
    (bufferFull.buffer = some { block := 0, seg := 15, words := List.replicate 64 1 } ∧
      (List.replicate 64 (1 : Word)).length = 64 ∧ bufferFull.queue.countP (fun f => f.kind == 5) < 2 ∧
      bufferFull.walk ≥ bufferFull.map.length ∧ bufferFull.resend = []) ∧
    2 ≤ (List.replicate 2 (Frame.segment 0 [])).countP (fun f => f.kind == 5) ∧
    (walkDone.kind = .reentry ∧ walkDone.map.length ≤ walkDone.walk ∧ walkDone.resend = [] ∧ walkDone.buffer = none ∧
      (∀ e ∈ walkDone.map, e.2 ≠ .sending) ∧ (∀ f ∈ walkDone.queue, f.kind ≠ 5 ∧ f.kind ≠ 7) ∧
      walkDone.endQueued = false) ∧
    bufferFull.buffer ≠ none ∧ (serving bufferFull inRun).rse.service = some bufferFull := by
  decide

/-! ### Frames taken from the receive queues -/

/-- A state in which the next frame of port A is this one. -/
def taking (f : Frame) (s : State) : State := linked (holding [f]) upRun s

theorem witness_IdleUpdatesPartner :
    (NextFrame (taking (.idle (some .run) (some 7) .source) inRun) .a (.idle (some .run) (some 7) .source) ∧
      inRun.rse = Rse.initial) ∧
    NextFrame (taking (.idle none none .none) running) .a (.idle none none .none) ∧
    (running.rse.service = some (Service.newReentry .a [0]) ∧ (Service.newReentry .a [0]).port = .a) ∧
    (readyPart.rse.reentry = some (entering .receiving) ∧ readyPart.rse.service = none ∧
      readyPart.rse.repair = none ∧ readyPart.mdc.mode = .ready) ∧
    (inWork false 1).work ≠ none ∧ (holding []).rx = [] :=
  ⟨⟨⟨rfl, rfl⟩, rfl⟩, ⟨rfl, rfl⟩, ⟨rfl, rfl⟩, ⟨rfl, rfl, rfl, rfl⟩, by decide, rfl⟩

/-- The DIGEST frame of a cycle from a partner that agrees. -/
def digestFrame (m : Word) : Frame := .digest m (some .run) 9 [⟨0, true, 1⟩, ⟨1, true, 2⟩, ⟨5, true, 3⟩]

/-- VERIFY or READY with the audits complete: the digests are those of the source's frame. -/
def mirrored (m : Mode) (join : Option Word) : State :=
  let s := withTable m goodTable
  { ((s.updateRecord 0 (fun _ => { DigestRecord.initial with valid := true, digest := 1 })).updateRecord 1
      (fun _ => { DigestRecord.initial with valid := true, digest := 2 })).updateRecord 5
      (fun _ => { DigestRecord.initial with valid := true, digest := 3 }) with
    rse := { s.rse with reentry := some { entering .receiving with copyEnd := true, auditsDone := true, join } } }

/-- The same with the frame's table digest. -/
def mirror (m : Mode) (join : Option Word) (f : Frame) : State :=
  let s := mirrored m join
  taking f { s with dgu := { s.dgu with tableDigest := 9 } }

theorem witness_DigestIsStoredOrMirrored :
    (let s := taking (digestFrame 7) (deciding .run none none)
     NextFrame s .a (digestFrame 7) ∧ s.rse = Rse.initial ∧ s.mdc.mode = .run ∧ s.vtu.last = some 7 ∧
       dueRecord none none ∈ s.vtu.records ∧ (dueRecord none none).cycle = 7) ∧
    VoteLaw (deciding .run none none) ∧
    ((∀ r ∈ (deciding .run none none).vtu.records, r.cycle ≠ 9) ∧ (9 : Word) = 7 + 2 ∧ (10 : Word) ≠ 7 + 2 ∧
      (10 : Word) ≠ 7 + 1) ∧ (inMode .ready).vtu.last = none ∧
    (let s := mirror .ready (some 7) (digestFrame 7)
     NextFrame s .a (digestFrame 7) ∧ s.rse.service = none ∧ s.rse.repair = none ∧ s.vtu.last = none ∧
       s.mdc.mode = .ready ∧ s.dgu.tableDigest = 9 ∧
       ((7 : Word) - 7).toNat = 0 ∧ 1 ≤ ((8 : Word) - 7).toNat ∧ 2 ^ 31 ≤ ((6 : Word) - 7).toNat) ∧
    (∀ i : Fin 32, (mirrored .ready none).isDigestRegion i = true → i = 0 ∨ i = 1 ∨ i = 5) ∧
    (mirror .verify none (digestFrame 7)).mdc.mode = .verify ∧
    (entering .receiving).auditsDone = false ∧ (8 : Nat) ≠ (mirror .verify none (digestFrame 7)).dgu.tableDigest :=
  ⟨⟨⟨rfl, rfl⟩, rfl, rfl, rfl, by decide, rfl⟩, deciding_law _ (.inr (.inl rfl)) _ _, by decide, rfl,
    ⟨⟨rfl, rfl⟩, rfl, rfl, rfl, rfl, rfl, by decide⟩, by decide, rfl, rfl, by decide⟩

theorem witness_SourceJudgesRequests :
    (let s := taking (.copyRequest 0) inRun
     NextFrame s .a (.copyRequest 0) ∧ s.rse.service = none ∧ s.mdc.mode = .run ∧ s.dgu.tableDigest = 0 ∧
       (s.link .a).up = true ∧ (s.link .a).tx.length < 16) ∧
    16 ≤ (full 16 (holding [.copyRequest 0])).tx.length ∧ (inMode .sync).mdc.mode ≠ .run ∧
    (let s := taking (.copyRequest 0) (serving (Service.newReentry .b [0]) inRun)
     NextFrame s .a (.copyRequest 0) ∧ s.rse.service = some (Service.newReentry .b [0]) ∧
       (Service.newReentry .b [0]).port ≠ .a) ∧
    (let s := taking (.repairRequest 0 0x00200000) inRun
     NextFrame s .a (.repairRequest 0 0x00200000) ∧ 0x00200000 % 4096 = 0 ∧
       s.placeOf 0x00200000 = some { region := 1, cls := .constant, word := 0 } ∧
       s.placeOf 0 = some { region := 0, cls := .vital, word := 0 } ∧ s.placeOf 0x0FFFE000 = none) ∧
    (let s := taking (.joined 9) (serving (Service.newReentry .a [0]) inRun)
     NextFrame s .a (.joined 9) ∧ s.rse.service = some (Service.newReentry .a [0]) ∧
       (Service.newReentry .a [0]).kind = .reentry) := by
  refine ⟨⟨⟨rfl, rfl⟩, rfl, rfl, rfl, rfl, by decide⟩, by decide, by decide, ⟨⟨rfl, rfl⟩, rfl, by decide⟩,
    ⟨⟨rfl, rfl⟩, rfl, ?_⟩, ⟨rfl, rfl⟩, rfl, rfl⟩
  decide

theorem witness_TargetTakesAnswers :
    (let s := taking .copyAccept (reentering (entering .asking) (inMode .reentry))
     NextFrame s .a .copyAccept ∧ s.rse.reentry = some (entering .asking) ∧ (entering .asking).asked = .a) ∧
    (NextFrame (taking .copyAccept inRun) .a .copyAccept ∧ inRun.rse.reentry = none ∧
      (repairing (mending .auditing) [] inRun).rse.reentry = none) ∧
    (let s := taking (.copyRefuse 2) (reentering { entering .asking with time := 10 } (inMode .reentry))
     NextFrame s .a (.copyRefuse 2) ∧ s.rse.service = none ∧ s.rse.repair = none ∧ s.mdc.mode = .reentry ∧
       s.eligibleSource .b = true ∧ (entering .asking).tried .b = false ∧ (entering .asking).tried .a = true ∧
       (s.link .b).tx.length < 16 ∧ 10 ≤ { entering .asking with time := 10 }.time) ∧
    (linked (holding [.abandon 2]) LinkPort.initial (inMode .reentry)).eligibleSource .b = false ∧
    (NextFrame (taking (.abandon 18) readyPart) .a (.abandon 18) ∧ readyPart.rse.reentry = some (entering .receiving)) ∧
    (NextFrame (taking (.abandon 18) running) .a (.abandon 18) ∧
      running.rse.service = some (Service.newReentry .a [0])) ∧
    (let s := linked upRun upRun (repairing { mending .asking with time := 10 } [4096] (inMode .repair))
     s.rse.repair = some { mending .asking with time := 10 } ∧ (mending .asking).tried .a = true ∧
       s.expectedVoter .b = true ∧ (mending .asking).tried .b = false ∧ s.mdc.mode = .repair) ∧
    (inMode .repair).expectedVoter .b = false ∧
    (linked upRun upRun (repairing { mending .receiving with time := 10 } [4096] (inMode .repair))).rse.repair =
      some { mending .receiving with time := 10 } ∧ (entering .asking).time < 10 ∧ (mending .asking).time < 10 := by
  refine ⟨⟨⟨rfl, rfl⟩, rfl, rfl⟩, ⟨⟨rfl, rfl⟩, rfl, rfl⟩, ⟨⟨rfl, rfl⟩, ?_⟩, ?_, ⟨⟨rfl, rfl⟩, ?_⟩, ⟨⟨rfl, rfl⟩, ?_⟩, ?_⟩ <;>
    decide

/-- A repair in RECEIVING with all segments of its block written. -/
def allWritten : Repair := { mending .receiving with written := List.range 16 }

theorem witness_TargetTakesData :
    (let f := Frame.segment 0x01003F00 (List.replicate 64 3)
     let s := taking f (reentering (entering .receiving) (withTable .reentry goodTable))
     NextFrame s .a f ∧ s.rse.repair = none ∧ s.rse.reentry = some (entering .receiving) ∧ 0x01003F00 % 256 = 0 ∧
       s.placeOf 0x01003F00 = some { region := 5, cls := .vital, word := 4032 } ∧ 0x01003F01 % 256 ≠ 0 ∧
       s.placeOf 0x00600000 = some { region := 2, cls := .nonvital, word := 0 } ∧ s.mdc.mode = .reentry) ∧
    (NextFrame (taking (.forward 0x01003FFC 3) readyPart) .a (.forward 0x01003FFC 3) ∧ 0x01003FFC % 4 = 0 ∧
      0x01003FFE % 4 ≠ 0) ∧
    (∀ v, inRun.rse.reentry = some v → v.phase = .asking ∨ v.asked ≠ .a) ∧
    (let f := Frame.segment 0x00200F00 (List.replicate 64 3)
     let s := taking f (repairing (mending .asking) [0x00200000] (withTable .repair goodTable))
     NextFrame s .a f ∧ s.rse.repair = some (mending .asking) ∧
       s.rse.repairList.head? = some (0x00200F00 / 4096 * 4096) ∧
       s.rse.repairList.head? ≠ some (0x00201000 / 4096 * 4096) ∧ s.mdc.mode = .repair) ∧
    (let s := taking .copyEnd (reentering (entering .receiving) (withTable .reentry goodTable))
     NextFrame s .a .copyEnd ∧ (entering .receiving).copyEnd = false ∧ s.digestRegions.head? = some 0) ∧
    (let s := taking (.repairEnd 0x00200000) (repairing allWritten [0x00200000, 0x00201000] (withTable .repair goodTable))
     NextFrame s .a (.repairEnd 0x00200000) ∧ s.rse.repair = some allWritten ∧
       s.rse.repairList = 0x00200000 :: [0x00201000] ∧ (∀ k, k < 16 → k ∈ allWritten.written) ∧
       s.findRegion 0x00200000 = some 1 ∧ s.msq.port = none ∧ (s.link .a).up = true ∧ allWritten.repaired = []) ∧
    (∃ k, k < 16 ∧ k ∉ (mending .receiving).written) := by
  refine ⟨⟨⟨rfl, rfl⟩, rfl, rfl, rfl, by decide, by decide, by decide, rfl⟩, ⟨⟨rfl, rfl⟩, rfl, by decide⟩,
    fun v h => (by cases h), ⟨⟨rfl, rfl⟩, rfl, rfl, by decide, rfl⟩, ⟨⟨rfl, rfl⟩, rfl, rfl⟩,
    ⟨⟨rfl, rfl⟩, rfl, rfl, by decide, by decide, rfl, rfl, rfl⟩, 15, by decide, by decide⟩

end Sys2Proof.Machine.Tests
end

