-- ==== Sys2Proof/Tests/WitnessMoves.lean ====
section
/-! SUPPORT. Further witnesses, of the clauses about the closed table, row moves, the repair target and the results of a
decision. Where a clause says what a state becomes, the witness shows it on its state. -/

namespace Sys2Proof.Machine.Tests

/-! ### The laws -/

/-- Whether two entries of a table are as the close leaves them. -/
def entriesFit (s : State) (i j : Fin 32) : Bool :=
  (s.region i).all (fun r => decide (r.base % 4096 = 0 ∧ 1 ≤ r.length ∧
      r.base + r.length * 4096 ≤ (s.rows - 16) * 1024) &&
    (s.region j).all (fun q => decide (j < i →
      q.base + q.length * 4096 ≤ r.base ∨ r.base + r.length * 4096 ≤ q.base)))

theorem table_law_of {s : State} (h : ∀ i j, entriesFit s i j = true) : TableLaw s := by
  intro _ i r hr
  have h1 := h i i
  rw [entriesFit, hr] at h1
  simp only [Option.all_some, Bool.and_eq_true, decide_eq_true_eq] at h1
  refine ⟨h1.1.1, h1.1.2.1, h1.1.2.2, fun j q hj hq => ?_⟩
  have h2 := h i j
  rw [entriesFit, hr, hq] at h2
  simp only [Option.all_some, Bool.and_eq_true, decide_eq_true_eq] at h2
  exact h2.2 hj

theorem inRun_table : TableLaw inRun := table_law_of (by decide +kernel)

theorem witness_StepKeepsChenAndClosedFlag_table :
    ClosedLaw inRun ∧ TableLaw inRun ∧ inRun.rgt.closed = true ∧ Without 0x04 .isolate inRun ∧
    (∃ t, exec .isolate inRun = .next t) ∧ ¬ Without 0x04 .restart inRun := by
  refine ⟨by unfold ClosedLaw; decide, inRun_table, rfl,
    ⟨fun c m h => (by cases h), ?_, fun a ha => absurd ha List.not_mem_nil⟩, ⟨_, rfl⟩, ?_⟩
  · intro a ha
    have : a = .command 0x0A [] := (Option.some.inj ((show accessOf .isolate = some (.command 0x0A []) from rfl).symm.trans ha)).symm
    subst this
    show ¬ ((0x0A : Word) = 0x04)
    decide
  · intro h
    exact h.2.1 (.command 0x04 []) rfl (show (0x04 : Word) = 0x04 from Eq.refl _)

theorem witness_StepKeepsBounds_counters :
    Without 0x17 .countersClear State.reset → False := fun h =>
  h.2.1 (.command 0x17 []) rfl (show (0x17 : Word) = 0x17 from Eq.refl _)

theorem witness_StepKeepsBounds_tick :
    Without 0x17 .msTick State.reset ∧ ∃ t, exec .msTick State.reset = .next t :=
  ⟨⟨fun c m h => (by cases h), fun a h => absurd ((show accessOf .msTick = none from rfl).symm.trans h) (by simp),
    fun a ha => absurd ha List.not_mem_nil⟩, _, rfl⟩

/-- REPAIR with this list, in the table of section 1.2, both partners announcing RUN. -/
def repairPart (v : Repair) (list : List Nat) : State :=
  linked upRun upRun (repairing v list (withTable .repair goodTable))

theorem witness_StepKeepsRepairList_listed :
    let s := { repairPart (mending .asking) [0x00200000, 0x005FF000] with pending := [.isolate] }
    ListedLaw s ∧ step s = .next (after .isolate { s with pending := [] }) := by
  refine ⟨⟨by unfold ClosedLaw; decide, table_law_of (by decide +kernel), fun h => (by rcases h with h | h <;> cases h),
    fun g h => (by cases h), by unfold RepairLaw; decide, ?_⟩, rfl⟩
  intro b hb
  refine ⟨1, { cls := .constant, scrub := false, base := 0x00200000, length := 1024 }, by decide, rfl, ?_⟩
  have : b = 0x00200000 ∨ b = 0x005FF000 := by simpa [repairPart, linked, repairing] using hb
  rcases this with rfl | rfl <;> decide

/-! ### Bursts and the ms tick -/

/-- The longest burst into the last words, and one whose first word is a command. -/
theorem witness_CommandIsWriteOfWordZero_burst :
    (1 ≤ (List.replicate 7 (3 : Word)).length ∧ (List.replicate 7 (3 : Word)).length ≤ 7 ∧
      8 + 1 + (List.replicate 7 (3 : Word)).length ≤ 16) ∧
    (let u := after (.processorTransaction (.write 0x0FFFF000 [fullWord 0x0A])) inRun
     u.mdc.mode = .isolated ∧
     after (.processorTransaction (.write 0x0FFFF000 [fullWord 0x0A, fullWord 7])) inRun =
       after (.processorTransaction (.write 0x0FFFF004 [fullWord 7])) u) := by
  refine ⟨by decide, by decide +kernel⟩

/-- One tick below the ageing period, and the coverage timer one tick below its limit. -/
theorem witness_MsTickAdvancesTimers_due :
    let s := { State.reset with
      ret := { State.reset.ret with ageing := 29999 }, ptl := { Ptl.initial with timer := some 899999 } }
    (s.cmi.settings.agePeriod = 30 ∧ (after .msTick s).ret.sweepDue = true ∧ (after .msTick s).ptl.lateDue = true) ∧
    (let r := { s with ret := { s.ret with ageing := 29998 }, ptl := { s.ptl with timer := some 899998 } }
     (after .msTick r).ret.sweepDue = false ∧ (after .msTick r).ptl.lateDue = false) := by
  decide

/-! ### Occasions to choose a move -/

/-- An entry at the limit of 3 that is WEAK already, behind one that is still TRACKING at 2. -/
def weakPart (m : Mode) : State :=
  (withTable m goodTable).setEntries [{ row812 2 with row := 5 }, { row812 3 with state := .weak }]

theorem weak_permitted (m : Mode) (h : PermitsMoves m) (n : Mode) : MovePermitted (weakPart n) m :=
  ⟨h, rfl, .inl (by cases n <;> decide)⟩

theorem weak_lowest (m : Mode) : LowestFree (weakPart m).srm 0 := ⟨by cases m <;> decide, fun j h => absurd h (by omega)⟩

theorem witness_SettingsActAtOnce_move :
    (BusFree (weakPart .run) ∧ RowTableLaw (weakPart .run) ∧ MovePermitted (weakPart .run) .run ∧
      LowestFree (weakPart .run).srm 0 ∧ (weakPart .run).msq.port = none ∧
      ∃ e ∈ (weakPart .run).ret.entries, e.state = .tracking ∧ (2 : Word).toNat ≤ e.count) ∧
    (let t := after (.settingsWrite 0x47 2) (weakPart .run)
     t.srm.spares[(0 : Fin 16)] = .moving 5 0 ∧ t.ret.entries.map (·.state) = [.moving, .weak]) :=
  ⟨⟨⟨rfl, rfl⟩, ⟨by decide, by decide⟩, weak_permitted _ (.inr (.inl rfl)) _, weak_lowest _, rfl, { row812 2 with row := 5 }, by decide,
    by decide, by decide⟩, by decide⟩

theorem witness_TimersSweepLateAndNotice_move :
    let s := { weakPart .run with ret := { entries := [{ row812 3 with state := .moveFailed }], ageing := 0, sweepDue := true } }
    (RowTableLaw s ∧ (∃ e ∈ s.ret.entries, e.state = .moveFailed) ∧ MovePermitted s s.mdc.mode ∧ LowestFree s.srm 0) ∧
    (after .ageingSweep s).srm.spares[(0 : Fin 16)] = .moving 812 0 :=
  ⟨⟨⟨by decide, by decide⟩, ⟨{ row812 3 with state := .moveFailed }, by decide, rfl⟩, ⟨.inr (.inl rfl), rfl, .inl (by decide)⟩,
    weak_lowest .run⟩, by decide⟩

theorem witness_IsolateIsolatesChannel_move :
    (BusFree (weakPart .clearing) ∧ RowTableLaw (weakPart .clearing) ∧ MovePermitted (weakPart .clearing) .isolated ∧
      (weakPart .clearing).mdc.mode = .clearing) ∧
    (after .isolate (weakPart .clearing)).srm.spares[(0 : Fin 16)] = .moving 812 0 ∧
    (let s := onPort (grp (.pRead 0)) (weakPart .clearing)
     s.msq.port ≠ none ∧ (after .isolate s).srm.startWaiting = some 812) :=
  ⟨⟨⟨rfl, rfl⟩, ⟨by decide, by decide⟩, weak_permitted _ (.inr (.inr (.inr (.inl rfl)))) _, rfl⟩, by decide, by decide,
    by decide⟩

theorem witness_TargetTakesData_move :
    let s := taking .copyEnd (reentering (entering .receiving) (weakPart .reentry))
    (NextFrame s .a .copyEnd ∧ (entering .receiving).copyEnd = false ∧ s.mdc.mode = .reentry ∧ RowTableLaw s ∧
      MovePermitted s .verify) ∧
    (after (.copyEnd .a) s).srm.spares[(0 : Fin 16)] = .moving 812 0 :=
  ⟨⟨⟨rfl, rfl⟩, rfl, rfl, ⟨by decide, by decide⟩, .inr (.inr (.inr (.inr (.inl rfl)))), rfl, .inl (by decide)⟩, by decide⟩

/-- No FREE spare is left: SPARES_EXHAUSTED fires at the occasion. -/
theorem witness_MoveChosen_exhausted :
    let s := weakPart .run
    let r := { s with srm := { s.srm with spares := Vector.replicate 16 (.retired 4) } }
    (∀ i : Fin 16, r.srm.spares[i] ≠ .free) ∧ FlagSet (after (.settingsWrite 0x47 2) r) .sparesExhausted :=
  ⟨by decide, by unfold FlagSet; decide⟩

/-- A move chosen while a group is performed starts at its end, also where the channel is in REENTRY by then. -/
def chosenPart (m : Mode) (g : Group) : State :=
  let s := onPort g (weakPart m)
  { s with srm := { s.srm with startWaiting := some 812 } }

theorem witness_WaitingStarts :
    let s := chosenPart .reentry (at0 (.pRead 0) .vital)
    (s.msq.port = some (at0 (.pRead 0) .vital) ∧ MemoryLaw s ∧ RowTableLaw s ∧ s.txi.waiting = [] ∧
      wrongBits (found s (at0 (.pRead 0) .vital) (sample 0)).flips = 0 ∧ s.srm.startWaiting = some 812 ∧
      (∀ j : Fin 16, s.srm.spares[j].isMoving = false) ∧ (∃ e ∈ s.ret.entries, e.row = 812 ∧ e.state = .weak) ∧
      LowestFree s.srm 0) ∧
    (let t := after (.processorReadEnd (sample 0)) s
     t.srm.spares[(0 : Fin 16)] = .moving 812 0 ∧ t.srm.startWaiting = none ∧
       t.ret.entries.map (·.state) = [.tracking, .moving]) :=
  ⟨⟨rfl, by unfold MemoryLaw; rfl, ⟨by decide, by decide⟩, rfl, by decide, rfl, by decide,
    ⟨{ row812 3 with state := .weak }, by decide, rfl, rfl⟩, weak_lowest .run⟩, by decide⟩

/-- RESTART drops it, and the group in flight is nobody's. -/
theorem witness_RestartReturnsToStart_group :
    let t := after .restart (chosenPart .run (at0 (.pRead 0) .constant))
    t.srm.startWaiting = none ∧ t.msq.port = some { at0 (.pRead 0) .constant with live := false, place := none } := by
  decide

/-! ### The memory port -/

theorem witness_GrantFollowsArbiterOrder_copy :
    let s := serving (Service.newReentry .a [0, 4096]) { inRun with msq := { inRun.msq with sourceCredit := 1 } }
    (s.msq.port = none ∧ s.background = some (.copyRead 0) ∧ s.opP = none ∧
      s.rse.service = some (Service.newReentry .a [0, 4096])) ∧
    (after .arbiterGrant s).rse.service = some { Service.newReentry .a [0, 4096] with
      walk := 1, map := [(0, .sending), (4096, .unsent)], buffer := some { block := 0, seg := 0, words := [] } } ∧
    (∀ i w a, WordOp.clearWrite 5 1 0 ≠ .scrubRead i w a) ∧ ∀ a, WordOp.clearWrite 5 1 0 ≠ .copyRead a := by
  refine ⟨by decide, by decide, fun i w a h => (by cases h), fun a h => (by cases h)⟩

/-- A read of a CONSTANT word in RUN, both partners voting and a service on one port. -/
def damaged (m : Mode) : State :=
  onPort (at0 (.pRead 0x00200010) .constant) (scrubbing 0 (linked (full 14 upRun) upRun (withTable m goodTable)))

theorem damaged_first : FirstVoter (serving (Service.newReentry .a [0]) (damaged .run)) .a := by
  refine ⟨by decide, fun q hq _ => ?_⟩
  cases q
  · exact absurd rfl hq
  · decide

theorem witness_ReadEndAnswersByOutcome_repair :
    (let s := serving (Service.newReentry .a [0]) (damaged .run)
     s.mdc.mode = .run ∧ s.rse.repairList = [] ∧ s.ptl.kind = .scrub ∧ s.ptl.asked = [] ∧ FirstVoter s .a ∧
       (s.link .a).tx.length < 15 ∧ wrongBits (found s (at0 (.pRead 0x00200010) .constant) (sample 3)).flips = 2 ∧
       (let t := after (.processorReadEnd (sample 3)) s
        t.mdc.mode = .repair ∧ (t.link .a).tx = (s.link .a).tx ++ [.abandon 19, .repairRequest 0 0x00200000] ∧
          t.rse.repair = some (mending .asking) ∧ t.rse.repairList = [0x00200000])) ∧
    (let s := repairing (mending .asking) [0x00201000] (damaged .repair)
     s.mdc.mode = .repair ∧ s.rse.repairList.length < 8 ∧ 0x00200010 / 4096 * 4096 ∉ s.rse.repairList ∧
       (after (.processorReadEnd (sample 3)) s).rse = { s.rse with repairList := [0x00201000, 0x00200000] }) ∧
    (let s := repairing (mending .asking) [0x00200000] (damaged .repair)
     0x00200010 / 4096 * 4096 ∈ s.rse.repairList ∧ (after (.processorReadEnd (sample 3)) s).rse = s.rse) :=
  ⟨⟨rfl, rfl, rfl, rfl, damaged_first, by decide, by decide, by decide⟩, by decide, by decide⟩

theorem witness_ReadEndAnswersByOutcome_weak :
    let g := at0 (.pRead 0) .vital
    let s := onPort g (inRun.setEntries [{ row812 2 with row := 0 }])
    (s.msq.port = some g ∧ RowTableLaw s ∧ ¬ MoveWaits s ∧ wrongBits (found s g (sample 1)).flips = 1 ∧
      s.cmi.settings.weakLimit ≤ countAfter { row812 2 with row := 0 } ∧ MovePermitted s s.mdc.mode ∧
      LowestFree s.srm 0) ∧
    (after (.processorReadEnd (sample 1)) s).srm.spares[(0 : Fin 16)] = .moving 0 0 :=
  ⟨⟨rfl, ⟨by decide, by decide⟩, by unfold MoveWaits; decide, by decide, by decide, ⟨.inr (.inl rfl), rfl, .inl (by decide)⟩,
    weak_lowest .run⟩, by decide⟩

/-- A repair audit of regions 1 and 5, at the last word of region 1. -/
def auditing1 (valid5 : Bool) : State :=
  let s := repairPart (mending .auditing) []
  let g := { grp (.auditRead 1 1048575 0x005FFFFC) with place := some { region := 1, cls := .constant, word := 1048575 } }
  { ((onPort g s).updateRecord 1
      (fun _ => { valid := true, digest := 5 * 1048576, running := true, acc := 0, pointer := 1048575 })).updateRecord 5
      (fun _ => { DigestRecord.initial with valid := valid5 }) with
    ptl := { Ptl.initial with
      kind := .repairAudit, place := some { region := 1, word := 1048575 }, timer := some 0, auditList := [1, 5]
      suspended := some (some { region := 5, word := 7 }, false) } }

theorem witness_AuditAndClearEndsAdvanceWalk_next :
    (let s := auditing1 true
     s.regionWords 1 = 1048575 + 1 ∧ nextRegion s.ptl.auditList 1 = some 5 ∧ (s.record 5).valid = true ∧
       s.mdc.mode = .repair ∧ s.rse.repair ≠ none ∧ s.ptl.suspended ≠ none ∧
       (after (.auditReadEnd (sample 0)) s).ptl.place = some { region := 5, word := 0 }) ∧
    (let s := auditing1 false
     (s.record 5).valid = false ∧ (after (.auditReadEnd (sample 0)) s).mdc.cause = .repairFailed) ∧
    (let s := auditing1 true
     FirstVoter s .a ∧ (s.link .a).tx.length < 16 ∧
       s.wordAddress 5 7 / 4096 * 4096 ≠ 0x005FFFFC / 4096 * 4096 ∧
       wrongBits (found s { grp (.auditRead 1 1048575 0x005FFFFC) with
         place := some { region := 1, cls := .constant, word := 1048575 } } (sample 3)).flips = 2 ∧
       (let t := after (.auditReadEnd (sample 3)) s
        t.rse.repairList = [0x005FF000] ∧ t.rse.repair = some (mending .asking) ∧ t.ptl.kind = .scrub ∧
          t.ptl.place = some { region := 5, word := 7 } ∧ (t.record 1).running = false ∧
          (t.link .a).tx = [.repairRequest 0 0x005FF000])) ∧
    (let s := linked LinkPort.initial LinkPort.initial (auditing1 true)
     (∀ p, s.expectedVoter p = false) ∧ (after (.auditReadEnd (sample 3)) s).mdc.cause = .noSource) := by
  refine ⟨by decide, by decide, ⟨⟨by decide, fun q hq _ => ?_⟩, by decide, by decide, by decide, by decide⟩,
    fun p => by cases p <;> decide, by decide⟩
  cases q
  · exact absurd rfl hq
  · decide

theorem witness_AuditAndClearEndsAdvanceWalk_words :
    (let s := auditing .verifyAudit 4094 false 0 (reentering (entering .receiving) (withTable .verify goodTable))
     RowTableLaw s ∧ wrongBits (found s (auditOf 4094) (sample 1)).flips = 1 ∧ (s.record 5).running = true ∧
       (s.record 5).pointer = 4094 ∧ 4094 + 1 < s.regionWords 5 ∧
       (after (.auditReadEnd (sample 1)) s).record 5 = { s.record 5 with acc := 5 * 4095, pointer := 4095 }) ∧
    (let g := { auditOf 4094 with place := some { region := 5, cls := .vital, word := 4094 } }
     let s := onPort g (auditing .verifyAudit 4094 false 0 (reentering (entering .receiving) (withTable .verify goodTable)))
     s.mdc.mode = .verify ∧ wrongBits (found s g (sample 3)).flips = 2 ∧
       (after (.auditReadEnd (sample 3)) s).mdc.cause = .vitalDamage) := by
  refine ⟨⟨⟨by decide, by decide⟩, by decide, by decide, by decide, by decide, by decide⟩, by decide⟩

theorem witness_RowMoveCopiesWords_next :
    let es := [{ row812 3 with row := 1500, state := .moving }, { row812 3 with row := 7, state := .weak }]
    let s := (copying 255).setEntries es
    let m := sample 0
    let g := { grp (.moveCopy (1500 * 1024 + 4 * 255)) with row := 1500, word := 255, mirror := some 32754 }
    (wrongBits (found s g m).flips = 0 ∧ ¬ MoveWaits s ∧ MoveLaw s ∧ RowMapLaw s ∧ RowTableLaw s ∧
      PermitsMoves s.mdc.mode ∧ wrongBits (found s g (sample 3)).flips = 2) ∧
    (let t := after (.rowMoveCopyEnd m) s
     t.srm.spares[(2 : Fin 16)] = .active 1500 0 ∧ t.srm.spares[(0 : Fin 16)] = .moving 7 0 ∧
       t.ret.entries.map (·.state) = [.replaced, .moving]) ∧
    (let t := after (.rowMoveCopyEnd (sample 3)) s
     t.srm.spares[(2 : Fin 16)] = .free ∧ t.srm.spares[(0 : Fin 16)] = .moving 7 0 ∧
       t.ret.entries.map (·.state) = [.moveFailed, .moving]) :=
  ⟨⟨by decide, by unfold MoveWaits; decide, move_law_of (by decide), row_map_law_of (by decide), ⟨by decide, by decide⟩,
    .inr (.inl rfl), by decide⟩, by decide, by decide⟩

/-! ### The vote -/

/-- A set that differs on region 5 alone. -/
def differsAt5 : PartnerSet := votes76 1 2 4

/-- A alone dissents, and each partner on a region of its own: the captures and the marks. -/
theorem witness_DeadlineDecidesByMajority_dissent :
    ((∀ e ∈ local76.entries, localEquals local76 differs e.region = true ∨ localEquals local76 agrees e.region = true) ∧
      (∃ e ∈ local76.entries, localEquals local76 differs e.region = false) ∧
      (let t := after .voteDeadlineExpiry (deciding .run (some differs) (some agrees))
       (t.link .a).partner.suspect = true ∧ (t.link .b).partner.suspect = false ∧
         (t.evu.capture .vote).fields.map (fun f => (f.requester, f.detail)) =
           some (.linkA, .vote .partnerDissent 1))) ∧
    ((∀ e ∈ local76.entries, localEquals local76 differs e.region = true ∨ localEquals local76 differsAt5 e.region = true) ∧
      (let t := after .voteDeadlineExpiry (deciding .run (some differs) (some differsAt5))
       (t.link .a).partner.suspect = true ∧ (t.link .b).partner.suspect = true ∧ t.mdc.mode = .run)) ∧
    (VoterIs (dueRecord (some differs) none) .run .a (fun _ => True) ∧
      ¬ VoterIs (dueRecord none (some differs)) .run .a (fun _ => True)) ∧
    (let t := after .voteDeadlineExpiry (deciding .run none (some differs))
     (t.recordFor 7).map (·.results) = some [(0, .agree), (1, .split), (5, .agree), (32, .agree)] ∧
       (t.evu.capture .vote).fields.map (fun f => (f.requester, f.detail)) = some (.linkB, .vote .split 1)) := by
  refine ⟨by decide, by decide, ⟨⟨differs, rfl, rfl, trivial⟩, fun ⟨x, h, _⟩ => (by cases h)⟩, by decide⟩

/-- Two voters with one foreign table digest: they differ from each other on every index, the pseudo-region among them. -/
theorem witness_DeadlineDecidesByMajority_table :
    (let x := { agrees with tableDigest := 8 }
     x.votes .run = true ∧ x.tableDigest ≠ local76.tableDigest ∧
     (let t := after .voteDeadlineExpiry (deciding .run (some x) (some x))
      (t.recordFor 7).map (·.results) =
          some [(0, .noMajority), (1, .noMajority), (5, .noMajority), (32, .noMajority)] ∧
        t.mdc.cause = .tableMismatch)) := by
  decide

/-! ### The repair target -/

/-- REPAIR, asking or receiving on port A, with this frame there. -/
def mendingFrom (ph : RepairPhase) (f : Frame) : State := taking f (repairPart (mending ph) [0x00200000])

/-- What the refusals have in common: the other partner is a voter not yet tried. -/
theorem mending_refused (ph : RepairPhase) (f : Frame) :
    (mendingFrom ph f).rse.repair = some (mending ph) ∧ (mendingFrom ph f).mdc.mode = .repair ∧
    (mendingFrom ph f).rse.service = none ∧ (mendingFrom ph f).rse.reentry = none ∧ (mending ph).asked = .a ∧
    (mending ph).tried .a = true ∧ (mending ph).tried .b = false ∧ (mendingFrom ph f).expectedVoter .b = true ∧
    ((mendingFrom ph f).link .b).tx.length < 16 ∧ NextFrame (mendingFrom ph f) .a f :=
  ⟨rfl, rfl, rfl, rfl, rfl, rfl, rfl, rfl, by show 0 < 16; omega, rfl, rfl⟩

theorem witness_TargetTakesAnswers_repair :
    (after (.copyRefuse .a) (mendingFrom .asking (.copyRefuse 2))).rse.repair.map (·.asked) = some .b ∧
    ((after (.abandon .a) (mendingFrom .asking (.abandon 2))).link .b).tx = [.repairRequest 0 0x00200000] ∧
    (after (.abandon .a) (mendingFrom .receiving (.abandon 19))).rse.repair.map (·.asked) = some .b ∧
    (after (.abandon .a) (mendingFrom .receiving (.abandon 1))).mdc.cause = .sourceLost ∧
    (after (.abandon .a) (mendingFrom .auditing (.abandon 19))).rse = (mendingFrom .auditing (.abandon 19)).rse ∧
    (let s := linked (holding [.copyRefuse 2]) LinkPort.initial (repairPart (mending .asking) [0x00200000])
     s.expectedVoter .b = false ∧ (after (.copyRefuse .a) s).mdc.cause = .noSource) := by
  decide

/-- What the free value leaves open of an accept from the port not asked, whichever it is. -/
theorem stray_accept_open :
    let s := linked upRun (holding [.copyAccept]) (repairing (mending .asking) [0x00200000] (inMode .repair))
    ((after (.copyAccept .b) s).link .b).tx = if Config.strayAcceptAnswered then [.abandon 19] else [] := by
  intro s
  have h : after (.copyAccept .b) s = (s.dropFront .b).strayAccept .b := rfl
  rw [h, State.strayAccept_open _ .b (mending .asking) rfl (by decide) (by decide)]
  cases Config.strayAcceptAnswered <;> rfl

theorem witness_TargetTakesAnswers_stray :
    (let s := linked upRun (holding [.copyAccept]) (repairing (mending .asking) [0x00200000] (inMode .repair))
     NextFrame s .b .copyAccept ∧ s.rse.reentry = none ∧ s.rse.repair = some (mending .asking) ∧ (mending .asking).asked ≠ .b ∧
     ((after (.copyAccept .b) s).link .b).tx = if Config.strayAcceptAnswered then [.abandon 19] else []) ∧
    (let s := linked upRun (holding [.copyAccept]) (repairing (mending .auditing) [] (inMode .repair))
     NextFrame s .b .copyAccept ∧ s.rse.repair = some (mending .auditing) ∧
     ((after (.copyAccept .b) s).link .b).tx = [.abandon 19]) ∧
    (let s := linked upRun (holding [.copyRefuse 2]) (repairing (mending .asking) [0x00200000] (inMode .repair))
     NextFrame s .b (.copyRefuse 2) ∧ s.rse.repair = some (mending .asking)) :=
  ⟨⟨⟨rfl, rfl⟩, rfl, rfl, by decide, stray_accept_open⟩, ⟨⟨rfl, rfl⟩, rfl, by decide⟩, ⟨rfl, rfl⟩, rfl⟩

theorem witness_IdleUpdatesPartner_repair :
    let t := after (.idle .a) (mendingFrom .receiving (.idle (some .isolated) none .none))
    (mending .receiving).phase ≠ .auditing ∧ t.rse.repair.map (·.asked) = some .b ∧ (t.link .a).tx = [.abandon 19] := by
  decide

theorem witness_LinkStateFollowsRunsAndSilence_repair :
    let s := linked silent upRun (repairPart (mending .asking) [0x00200000])
    (s.link .a).up = true ∧ 5 ≤ (s.link .a).silence ∧ s.vtu.records = [] ∧
    (after (.linkDown .a) (repairing (mending .asking) [0x00200000] s)).rse.repair.map (·.asked) = some .b ∧
    (after (.linkDown .a) (repairing (mending .receiving) [0x00200000] s)).mdc.cause = .sourceLost := by
  decide

/-- A DIGEST of a decided cycle that announces ISOLATED. -/
def otherDigest : Frame := .digest 7 (some .isolated) 9 []

/-- REPAIR with the record of cycle 7 decided. -/
def decided : State :=
  let s := mendingFrom .asking otherDigest
  { s with vtu := { Vtu.initial with
    last := some 7, watchdog := some 0, records := [{ record7 with outcome := some .agree, deadline := none }] } }

theorem decided_law : VoteLaw decided := by
  refine ⟨by decide, by decide, by decide, by decide, by decide, ?_⟩
  intro l _ r hr ho
  have h1 : r = { record7 with outcome := some .agree, deadline := none } := by simpa [decided] using hr
  subst h1
  exact absurd ho (by decide)

theorem witness_DigestIsStoredOrMirrored_repair :
    (VoteLaw decided ∧ NextFrame decided .a otherDigest ∧ (some Mode.isolated) ≠ some .run ∧
      (∃ r ∈ decided.vtu.records, r.cycle = 7 ∧ r.outcome ≠ none) ∧
      (after (.digest .a) decided).rse.repair.map (·.asked) = some .b) ∧
    (let s := taking otherDigest readyPart
     NextFrame s .a otherDigest ∧ s.rse.reentry = some (entering .receiving) ∧ s.vtu.last = none ∧
       (after (.digest .a) s).mdc.cause = .sourceLost) :=
  ⟨⟨decided_law, ⟨rfl, rfl⟩, by decide, ⟨{ record7 with outcome := some .agree, deadline := none }, by decide, rfl, by decide⟩,
    by decide⟩, ⟨rfl, rfl⟩, rfl, rfl, by decide⟩

end Sys2Proof.Machine.Tests
end

