-- ==== Sys2Proof/Tests/WitnessTargets.lean ====
section
/-! SUPPORT. Witnesses of the clauses about uncorrectable scrub words, the moves chosen at changes of mode, one foreign
table digest, and the frames that a source or a target turns away. Each shows the clause's result on its state. -/

namespace Sys2Proof.Machine.Tests

/-! ### Uncorrectable scrub words (Table 8.4, R81) -/

/-- A scrub read of word 8 of region 5 or of region 1, judged in a class. -/
def scrubAt (i : Fin 32) (cls : RegionClass) (w : Nat) : Group :=
  let a := (if i = 1 then 0x00200000 else 0x01000000) + 4 * w
  { grp (.scrubRead i w a) with place := some { region := i, cls, word := w } }

/-- That read in flight for the SCRUB pass, an entry WEAK, both partners voting. -/
def scrubIn (m : Mode) (i : Fin 32) (cls : RegionClass) (w : Nat) : State :=
  linked upRun upRun { onPort (scrubAt i cls w) (weakPart m) with
    ptl := { Ptl.initial with kind := .scrub, place := some { region := i, word := w }, timer := some 3 } }

/-- The state after that word read uncorrectable. -/
def spoilt (s : State) : State := after (.scrubReadEnd (sample 3)) s

theorem witness_ScrubReadEndAdvancesPass_asked :
    let s := { scrubIn .repair 5 .vital 8 with
      ptl := { (scrubIn .repair 5 .vital 8).ptl with asked := [1] } }
    let r := s.updateRecord 1 (fun _ => { DigestRecord.initial with valid := true })
    (r.msq.port = some (scrubAt 5 .vital 8) ∧ MemoryLaw r ∧ r.ptl.riding = false ∧ r.rse.repairList = [] ∧
      wrongBits (found r (scrubAt 5 .vital 8) (sample 0)).flips = 0 ∧ 8 + 1 < r.regionWords 5 ∧
      (r.record 1).valid = true) ∧
    (let t := after (.scrubReadEnd (sample 0)) r
     t.ptl.kind = .repairAudit ∧ t.ptl.place = some { region := 1, word := 0 } ∧
       t.ptl.suspended = some (some { region := 5, word := 9 }, false) ∧ t.ptl.auditList = [1] ∧ t.ptl.asked = []) :=
  ⟨⟨rfl, by unfold MemoryLaw; rfl, rfl, rfl, by decide, by decide, by decide⟩, by decide⟩

/-- A VITAL word in each mode that uses memory, a CONSTANT one where it isolates too, and the pass after it. -/
theorem witness_ScrubReadEndAdvancesPass_isolating :
    (let s := scrubIn .run 5 .vital 8
     s.msq.port = some (scrubAt 5 .vital 8) ∧ MemoryLaw s ∧ RowTableLaw s ∧ s.ptl.asked = [] ∧
       wrongBits (found s (scrubAt 5 .vital 8) (sample 3)).flips = 2) ∧
    (∀ m, m = .sync ∨ m = .run ∨ m = .repair ∨ m = .ready →
      (spoilt (scrubIn m 5 .vital 8)).mdc = { mode := .isolated, chen := false, cause := .vitalDamage }) ∧
    (∀ m, m = .sync ∨ m = .ready →
      (spoilt (scrubIn m 1 .constant 8)).mdc = { mode := .isolated, chen := false, cause := .vitalDamage }) ∧
    (spoilt (scrubIn .run 5 .vital 8)).ptl.place = some { region := 5, word := 9 } := by
  refine ⟨⟨rfl, by unfold MemoryLaw; rfl, ⟨by decide, by decide⟩, rfl, by decide⟩, ?_, ?_, by decide⟩ <;>
    rintro m h <;> rcases h with rfl | rfl | rfl | rfl <;> decide

theorem scrub_in_voter (m : Mode) : FirstVoter (scrubIn m 1 .constant 8) .a := by
  refine ⟨rfl, fun q hq _ => ?_⟩
  cases q
  · exact absurd rfl hq
  · show (1 : Nat) < 2; omega

/-- In RUN a repair begins, a move is chosen and the pass goes past the block; without a voter nothing is left. -/
theorem witness_ScrubReadEndAdvancesPass_constant :
    (let s := scrubIn .run 1 .constant 8
     FirstVoter s .a ∧ (s.link .a).tx.length < 15 ∧ s.rse.repairList = [] ∧ ¬ MoveWaits s ∧ MovePermitted s .repair ∧
       s.wordAddress 1 9 / 4096 * 4096 = 0x00200000 ∧ (9 / 1024 + 1) * 1024 < s.regionWords 1 ∧
       s.wordAddress 1 ((9 / 1024 + 1) * 1024) / 4096 * 4096 ≠ 0x00200000 ∧
       (let t := spoilt s
        t.mdc.mode = .repair ∧ t.rse.repairList = [0x00200000] ∧ t.rse.repair = some (mending .asking) ∧
          (t.link .a).tx = [.repairRequest 0 0x00200000] ∧ t.ptl.place = some { region := 1, word := 1024 } ∧
          t.srm.spares[(0 : Fin 16)] = .moving 812 0)) ∧
    (let s := scrubIn .run 1 .constant 1023
     s.wordAddress 1 1024 / 4096 * 4096 ≠ 0x00200FFC / 4096 * 4096 ∧
       (spoilt s).ptl.place = some { region := 1, word := 1024 }) ∧
    (let s := linked LinkPort.initial LinkPort.initial (scrubIn .run 1 .constant 8)
     (∀ p, s.expectedVoter p = false) ∧ (spoilt s).mdc.cause = .noSource ∧ (spoilt s).rse.repair = none) := by
  refine ⟨⟨scrub_in_voter _, by decide, rfl, by unfold MoveWaits; decide,
    ⟨.inr (.inr (.inl rfl)), rfl, .inl (by decide)⟩, by decide, by decide, by decide, by decide⟩, by decide,
    fun p => by cases p <;> decide, by decide⟩

/-- In REPAIR a further block joins the list, a ninth isolates, and a listed or NONVITAL word is an event only. -/
theorem witness_ScrubReadEndAdvancesPass_listed :
    (let s := repairing (mending .asking) [0x00201000] (scrubIn .repair 1 .constant 8)
     (spoilt s).rse = { s.rse with repairList := [0x00201000, 0x00200000] } ∧ (spoilt s).mdc = s.mdc ∧
       (spoilt s).lkc = s.lkc) ∧
    (let s := repairing (mending .asking) (List.replicate 8 0x00201000) (scrubIn .repair 1 .constant 8)
     s.rse.repairList.length = 8 ∧ (spoilt s).mdc.cause = .repairOverflow) ∧
    (let s := repairing (mending .asking) [0x00200000] (scrubIn .repair 1 .constant 8)
     (spoilt s).rse = s.rse ∧ (spoilt s).mdc = s.mdc ∧ (spoilt s).lkc = s.lkc) ∧
    (let s := scrubIn .run 5 .nonvital 8
     (spoilt s).rse = s.rse ∧ (spoilt s).mdc = s.mdc) := by
  decide

/-! ### Moves chosen at changes of mode (R45) -/

theorem witness_ReadEndAnswersByOutcome_move :
    let s := onPort (at0 (.pRead 0x00200010) .constant) (scrubbing 0 (linked upRun upRun (weakPart .run)))
    (¬ MoveWaits s ∧ MovePermitted s .repair ∧ LowestFree s.srm 0 ∧ RowTableLaw s) ∧
    (let t := after (.processorReadEnd (sample 3)) s
     t.mdc.mode = .repair ∧ t.srm.spares[(0 : Fin 16)] = .moving 812 0 ∧
       t.ret.entries.map (·.state) = [.tracking, .moving]) :=
  ⟨⟨by unfold MoveWaits; decide, ⟨.inr (.inr (.inl rfl)), rfl, .inl (by decide)⟩, weak_lowest .run,
    ⟨by decide, by decide⟩⟩, by decide⟩

theorem witness_AuditAndClearEndsAdvanceWalk_move :
    (let s := onPort (grp (.clearWrite 5 4095 0x01003FFC)) (weakPart .clearing)
     (s.mdc.mode = .clearing ∧ RowTableLaw s ∧ ¬ MoveWaits s ∧ MovePermitted s .sync ∧ LowestFree s.srm 0) ∧
     (let t := after .clearWriteEnd s
      t.mdc.mode = .sync ∧ t.srm.spares[(0 : Fin 16)] = .moving 812 0 ∧
        t.ret.entries.map (·.state) = [.tracking, .moving])) ∧
    (let s := auditing .repairAudit 4095 true 20480 (repairing (mending .auditing) [] (weakPart .repair))
     (RowTableLaw s ∧ ¬ MoveWaits s ∧ MovePermitted s .run ∧ LowestFree s.srm 0) ∧
     (let t := after (.auditReadEnd (sample 0)) s
      t.mdc = { s.mdc with mode := .run, chen := true } ∧ t.srm.spares[(0 : Fin 16)] = .moving 812 0 ∧
        t.ret.entries.map (·.state) = [.tracking, .moving])) :=
  ⟨⟨⟨rfl, ⟨by decide, by decide⟩, by unfold MoveWaits; decide, ⟨.inl rfl, rfl, .inl (by decide)⟩, weak_lowest .clearing⟩,
    by decide +kernel⟩,
    ⟨⟨by decide, by decide⟩, by unfold MoveWaits; decide, ⟨.inr (.inl rfl), rfl, .inl (by decide)⟩, weak_lowest .repair⟩,
    by decide⟩

/-- The vote leads from SYNC to RUN: the move starts on a free port, and waits for the group of a port in use. -/
theorem witness_DeadlineDecidesByMajority_move :
    let s := { deciding .sync (some agrees) none with ret := (weakPart .sync).ret }
    (VoteLaw s ∧ RowTableLaw s ∧ MovePermitted s .run ∧ LowestFree s.srm 0 ∧ s.msq.port = none) ∧
    (let t := after .voteDeadlineExpiry s
     t.mdc.mode = .run ∧ t.srm.spares[(0 : Fin 16)] = .moving 812 0) ∧
    (let t := after .voteDeadlineExpiry (onPort (grp (.pRead 0)) s)
     t.mdc.mode = .run ∧ t.srm.startWaiting = some 812 ∧ t.srm.spares[(0 : Fin 16)] = .free) :=
  ⟨⟨deciding_law .sync (.inl rfl) _ _, ⟨by decide, by decide⟩, ⟨.inr (.inl rfl), rfl, .inl (by decide)⟩,
    ⟨by decide, fun j h => absurd h (by omega)⟩, rfl⟩, by decide, by decide⟩

theorem witness_DigestIsStoredOrMirrored_move :
    (let s := (mirror .verify none (digestFrame 7)).setEntries (weakPart .run).ret.entries
     (RowTableLaw s ∧ MovePermitted s .ready) ∧
       (let t := after (.digest .a) s
        t.mdc.mode = .ready ∧ FlagSet t .joinReady ∧ t.srm.spares[(0 : Fin 16)] = .moving 812 0)) ∧
    (let s := (mirror .ready (some 7) (digestFrame 7)).setEntries (weakPart .run).ret.entries
     (RowTableLaw s ∧ MovePermitted s .run) ∧
       (let t := after (.digest .a) s
        t.mdc.mode = .run ∧ t.vtu.last = some 7 ∧ t.srm.spares[(0 : Fin 16)] = .moving 812 0)) :=
  ⟨⟨⟨⟨by decide, by decide⟩, .inr (.inr (.inr (.inr (.inr rfl)))), rfl, .inl (by decide)⟩,
    by unfold FlagSet; decide⟩,
    ⟨⟨by decide, by decide⟩, .inr (.inl rfl), rfl, .inl (by decide)⟩, by decide⟩

/-! ### The vote (R108, R111 to R113) -/

/-- A set of another table digest. -/
def foreign : PartnerSet := { agrees with tableDigest := 8 }

/-- One of two voters is foreign: the other agrees, or differs on region 1. -/
theorem witness_DeadlineDecidesByMajority_foreign :
    (foreign.votes .run = true ∧ foreign.tableDigest ≠ local76.tableDigest ∧
      agrees.tableDigest = local76.tableDigest ∧ (∀ e ∈ local76.entries, localEquals local76 agrees e.region = true) ∧
      (let t := after .voteDeadlineExpiry (deciding .run (some foreign) (some agrees))
       (t.recordFor 7).map (·.outcome) = some (some .partnerDissent) ∧
         (t.recordFor 7).map (·.results) = some [(0, .partnerDissent .a), (1, .partnerDissent .a),
           (5, .partnerDissent .a), (32, .partnerDissent .a)] ∧
         (t.link .a).partner.suspect = true ∧ (t.link .b).partner.suspect = false ∧ t.mdc.mode = .run ∧
         t.vtu.unchecked = 0)) ∧
    (let t := after .voteDeadlineExpiry (deciding .run (some differs) (some foreign))
     (t.recordFor 7).map (·.results) = some [(0, .partnerDissent .b), (1, .noMajority), (5, .partnerDissent .b),
         (32, .partnerDissent .b)] ∧
       (t.recordFor 7).map (·.outcome) = some (some .noMajority) ∧ (t.link .b).partner.suspect = true ∧
       (t.link .a).partner.suspect = false ∧ t.mdc = { mode := .isolated, chen := false, cause := .noMajority }) := by
  decide

/-- PARTNER_DISSENT in SYNC, one below the limit of 20 and at it. -/
theorem witness_DeadlineDecidesByMajority_sync :
    let s (n : Nat) : State :=
      { deciding .sync (some differs) (some agrees) with
        vtu := { (deciding .sync (some differs) (some agrees)).vtu with syncCount := n } }
    ((s 18).cmi.settings.syncLimit = 20 ∧ (after .voteDeadlineExpiry (s 18)).vtu.syncCount = 19 ∧
      (after .voteDeadlineExpiry (s 18)).mdc.mode = .sync) ∧
    (after .voteDeadlineExpiry (s 19)).mdc = { mode := .isolated, chen := false, cause := .syncTimeout } := by
  decide

/-! ### A re-entry whose source goes DOWN (R130) -/

theorem witness_LinkStateFollowsRunsAndSilence_reentry :
    (let s := linked silent upRun (reentering (entering .asking) (inMode .reentry))
     (s.link .a).up = true ∧ 5 ≤ (s.link .a).silence ∧ s.vtu.records = [] ∧ (entering .asking).tried .a = true ∧
       (entering .asking).tried .b = false ∧ s.eligibleSource .b = true ∧ (s.link .b).tx.length < 16 ∧
       (let t := after (.linkDown .a) s
        t.rse.reentry.map (·.asked) = some .b ∧ (t.link .b).tx = [.copyRequest 0] ∧ t.mdc = s.mdc)) ∧
    (let s := linked silent LinkPort.initial (reentering (entering .asking) (inMode .reentry))
     s.eligibleSource .b = false ∧ (after (.linkDown .a) s).mdc.cause = .noSource) := by
  decide

/-! ### Frames at a source and at a target -/

/-- A DIGEST of cycle 7 that names the mode of its sender. -/
def digestOf (m : Mode) : Frame := .digest 7 (some m) 9 []

/-- A DIGEST is stored while its target is served, and in REPAIR, from either port. -/
theorem witness_DigestIsStoredOrMirrored_served :
    (let v := Service.newReentry .a [0]
     let s := serving v (taking (digestOf .verify) (deciding .run none none))
     NextFrame s .a (digestOf .verify) ∧ StaysTarget v (some .verify) ∧ VoteLaw (deciding .run none none) ∧
       (let t := after (.digest .a) s
        (t.recordFor 7).map (·.setA) =
            some (some { mode := some .verify, tableDigest := 9, entries := [] }) ∧ t.rse = s.rse)) ∧
    (let s := repairing (mending .asking) [0x00200000] (taking (digestFrame 7) (deciding .repair none none))
     NextFrame s .a (digestFrame 7) ∧
       ((after (.digest .a) s).recordFor 7).map (fun r => r.setA.isSome) = some true) ∧
    (let s := taking (digestFrame 7) (serving (Service.newReentry .b [0]) (deciding .run none none))
     (Service.newReentry .b [0]).port ≠ .a ∧
       ((after (.digest .a) s).recordFor 7).map (fun r => r.setA.isSome) = some true) :=
  ⟨⟨⟨rfl, rfl⟩, .inl ⟨rfl, .inr (.inl rfl)⟩, deciding_law _ (.inr (.inl rfl)) _ _, by decide⟩,
    ⟨⟨rfl, rfl⟩, by decide⟩, by decide, by decide⟩

/-- A DIGEST that ends a service, of a cycle without an OPEN record. -/
theorem witness_DigestIsStoredOrMirrored_ended :
    (let v := Service.newReentry .a [0]
     let s := serving v (taking (digestOf .isolated) inRun)
     NextFrame s .a (digestOf .isolated) ∧ ¬ StaysTarget v (some .isolated) ∧
       (after (.digest .a) s).rse = { s.rse with service := none } ∧ (after (.digest .a) s).mdc = s.mdc) ∧
    (let v := Service.newRepair .a 0x00200000
     let s := serving v (taking (digestOf .run) inRun)
     ¬ StaysTarget v (some .run) ∧ StaysTarget v (some .repair) ∧ (after (.digest .a) s).rse.service = none) := by
  refine ⟨⟨⟨rfl, rfl⟩, ?_, by decide, by decide⟩, ?_, .inr ⟨rfl, rfl⟩, by decide⟩
  · unfold StaysTarget; decide
  · unfold StaysTarget; decide

theorem witness_SourceJudgesRequests_busy :
    (let s := taking (.copyRequest 5) (serving (Service.newReentry .a [0]) inRun)
     NextFrame s .a (.copyRequest 5) ∧ 5 ≠ s.dgu.tableDigest ∧ (after (.copyRequest .a) s).rse.service = none ∧
       ((after (.copyRequest .a) s).link .a).tx = [.copyRefuse 3]) ∧
    (let s := taking (.repairRequest 0 0x00200000) (serving (Service.newReentry .a [0]) inRun)
     (after (.repairRequest .a) s).rse = s.rse ∧ ((after (.repairRequest .a) s).link .a).tx = [.copyRefuse 2]) ∧
    (let s := taking (.repairRequest 0 0x00200000) (serving (Service.newRepair .b 0x00200000) inRun)
     (after (.repairRequest .a) s).rse = s.rse ∧ ((after (.repairRequest .a) s).link .a).tx = [.copyRefuse 2]) ∧
    (let s := taking (.repairRequest 0 0x00201000) (serving (Service.newRepair .a 0x00200000) inRun)
     let t := after (.repairRequest .a) s
     t.rse.service = some (Service.newRepair .a 0x00201000) ∧ FlagSet t .serviceEnded ∧ FlagSet t .serviceStarted ∧
       (t.link .a).tx = []) ∧
    (let s := taking (.repairRequest 0 0) (serving (Service.newRepair .a 0x00200000) inRun)
     (after (.repairRequest .a) s).rse.service = none ∧
       ((after (.repairRequest .a) s).link .a).tx = [.copyRefuse 3]) ∧
    (let s := taking (.joined 9) inRun
     NextFrame s .a (.joined 9) ∧ s.rse.service = none ∧ ((after (.joined .a) s).link .a).rx = [] ∧
       (after (.joined .a) s).evu = s.evu) := by
  refine ⟨⟨⟨rfl, rfl⟩, by decide, by decide, by decide⟩, by decide, by decide, ?_, by decide,
    ⟨⟨rfl, rfl⟩, rfl, by decide, by decide⟩⟩
  unfold FlagSet; decide

/-- Port B holds the frame, port A is the one asked; or there is no record. -/
theorem witness_TargetTakesAnswers_ignored :
    (let s (f : Frame) (ph : ReentryPhase) : State :=
      linked upRun (holding [f]) (reentering (entering ph) (inMode .reentry))
     NextFrame (s (.copyRefuse 2) .asking) .b (.copyRefuse 2) ∧ (entering .asking).asked ≠ .b ∧
     ∀ ph, ph = .asking ∨ ph = .receiving →
       (after (.copyRefuse .b) (s (.copyRefuse 2) ph)).rse = (s (.copyRefuse 2) ph).rse ∧
       (after (.abandon .b) (s (.abandon 2) ph)).rse = (s (.abandon 2) ph).rse ∧
       (after (.abandon .b) (s (.abandon 2) ph)).mdc.mode = .reentry) ∧
    (let s := taking (.copyRefuse 2) (reentering (entering .receiving) (inMode .reentry))
     (after (.copyRefuse .a) s).rse = s.rse) ∧
    (let s := taking (.abandon 19) inRun
     (after (.abandon .a) s).rse = s.rse ∧ (after (.abandon .a) s).evu = s.evu ∧
       ((after (.abandon .a) s).link .a).rx = []) := by
  refine ⟨⟨⟨rfl, rfl⟩, by decide, ?_⟩, by decide, by decide⟩
  rintro ph (rfl | rfl) <;> decide

theorem witness_TargetTakesData_discarded :
    (let s := taking .copyEnd (reentering (entering .asking) (inMode .reentry))
     NextFrame s .a .copyEnd ∧ (after (.copyEnd .a) s).rse = s.rse ∧ (after (.copyEnd .a) s).mdc = s.mdc ∧
       (after (.copyEnd .a) s).evu = s.evu) ∧
    (let s := linked upRun (holding [.copyEnd]) (reentering (entering .receiving) (inMode .reentry))
     NextFrame s .b .copyEnd ∧ (after (.copyEnd .b) s).rse = s.rse ∧ (after (.copyEnd .b) s).mdc = s.mdc) ∧
    (let s := taking (.repairEnd 0x00201000) (repairing allWritten [0x00200000] (inMode .repair))
     NextFrame s .a (.repairEnd 0x00201000) ∧ s.rse.repairList.head? ≠ some 0x00201000 ∧
       (after (.repairEnd .a) s).rse = s.rse) ∧
    (let s := taking (.repairEnd 0x00200000) inRun
     NextFrame s .a (.repairEnd 0x00200000) ∧ (after (.repairEnd .a) s).evu = s.evu) :=
  ⟨⟨⟨rfl, rfl⟩, by decide, by decide, by decide⟩, ⟨⟨rfl, rfl⟩, by decide, by decide⟩,
    ⟨⟨rfl, rfl⟩, by decide, by decide⟩, ⟨rfl, rfl⟩, by decide⟩

/-- The repair audit is asked for and waits for the scrub read in flight. -/
theorem witness_TargetTakesData_scrubbing :
    let s := repairing allWritten [0x00200000] (taking (.repairEnd 0x00200000) (scrubIn .repair 5 .vital 8))
    (NextFrame s .a (.repairEnd 0x00200000) ∧ s.msq.port = some (scrubAt 5 .vital 8) ∧
      (scrubAt 5 .vital 8).live = true ∧ ∀ k, k < 16 → k ∈ allWritten.written) ∧
    (let t := after (.repairEnd .a) s
     t.rse.repair = some { allWritten with phase := .auditing, repaired := [1] } ∧ t.rse.repairList = [] ∧
       t.ptl = { s.ptl with asked := [1] } ∧ t.mdc = s.mdc) :=
  ⟨⟨⟨rfl, rfl⟩, rfl, rfl, by decide⟩, by decide⟩

end Sys2Proof.Machine.Tests
end

section
/-! Bounds that every operation on the state keeps: the counters and repeat counts of the event unit (R163, R166),
the queues of the two ports (R90, R93), and the group in flight with the yield count (R34). One relation says them all, so
that each operation is walked through once. -/

namespace Sys2Proof.Machine

/-! ### The relation -/

/-- What may become of the event unit: no counter and no repeat count passes the higher of its top and what it was, and
where `M` holds no counter goes down. -/
def EvuBounded (M : Prop) (a b : Evu) : Prop :=
  (M → ∀ i : Fin 16, a.counters[i] ≤ b.counters[i]) ∧ (∀ i : Fin 16, b.counters[i] ≤ max 65535 a.counters[i]) ∧
    ∀ k, (b.capture k).repeats ≤ max 255 (a.capture k).repeats

/-- What may become of a port's queues: neither passes the higher of its size and its former length. -/
def QueuesBounded (a b : LinkPort) : Prop :=
  b.tx.length ≤ max 16 a.tx.length ∧ b.rx.length ≤ max 8 a.rx.length

/-- The same of both ports. -/
def LinksBounded (a b : Lkc) : Prop := QueuesBounded a.a b.a ∧ QueuesBounded a.b b.b

/-- The yield count stands, and a group in flight has the operation and the mark that it had. -/
def PortKept (a b : Msq) : Prop :=
  b.yieldCount = a.yieldCount ∧
    ∀ g, b.port = some g → ∃ g₀, a.port = some g₀ ∧ g₀.op = g.op ∧ g₀.counted = g.counted

/-- What an operation between two grants may make of a state `r`: the counters, the queues and the group in flight stay
within their bounds, and with `M` no counter goes down. -/
structure Bounded (M : Prop) (r s : State) : Prop where
  evu : EvuBounded M r.evu s.evu
  lkc : LinksBounded r.lkc s.lkc
  msq : PortKept r.msq s.msq

variable {M : Prop} {r s t : State}

theorem QueuesBounded.refl (a : LinkPort) : QueuesBounded a a := ⟨by omega, by omega⟩

theorem QueuesBounded.trans {a b c : LinkPort} (h : QueuesBounded a b) (k : QueuesBounded b c) : QueuesBounded a c :=
  ⟨by have := h.1; have := k.1; omega, by have := h.2; have := k.2; omega⟩

theorem EvuBounded.refl (M : Prop) (e : Evu) : EvuBounded M e e :=
  ⟨fun _ _ => Nat.le_refl _, fun _ => Nat.le_max_right .., fun _ => Nat.le_max_right ..⟩

theorem EvuBounded.trans {a b c : Evu} (h : EvuBounded M a b) (k : EvuBounded M b c) : EvuBounded M a c :=
  ⟨fun m i => (h.1 m i).trans (k.1 m i),
    fun i => (k.2.1 i).trans (Nat.max_le.2 ⟨Nat.le_max_left .., h.2.1 i⟩),
    fun x => (k.2.2 x).trans (Nat.max_le.2 ⟨Nat.le_max_left .., h.2.2 x⟩)⟩

theorem LinksBounded.refl (l : Lkc) : LinksBounded l l := ⟨.refl _, .refl _⟩

theorem LinksBounded.trans {a b c : Lkc} (h : LinksBounded a b) (k : LinksBounded b c) : LinksBounded a c :=
  ⟨h.1.trans k.1, h.2.trans k.2⟩

theorem PortKept.refl (q : Msq) : PortKept q q := ⟨rfl, fun g hg => ⟨g, hg, rfl, rfl⟩⟩

theorem PortKept.trans {a b c : Msq} (h : PortKept a b) (k : PortKept b c) : PortKept a c := by
  refine ⟨k.1.trans h.1, fun g hg => ?_⟩
  obtain ⟨g₁, h₁, o₁, c₁⟩ := k.2 g hg
  obtain ⟨g₀, h₀, o₀, c₀⟩ := h.2 g₁ h₁
  exact ⟨g₀, h₀, o₀.trans o₁, c₀.trans c₁⟩

theorem Bounded.refl (M : Prop) (s : State) : Bounded M s s := ⟨.refl .., .refl _, .refl _⟩

theorem Bounded.trans (h : Bounded M r s) (k : Bounded M s t) : Bounded M r t :=
  ⟨h.evu.trans k.evu, h.lkc.trans k.lkc, h.msq.trans k.msq⟩

theorem Bounded.of_evu {e : Evu} (h : Bounded M r s) (he : EvuBounded M s.evu e) : Bounded M r { s with evu := e } :=
  ⟨h.evu.trans he, h.lkc, h.msq⟩

theorem Bounded.of_lkc {l : Lkc} (h : Bounded M r s) (hl : LinksBounded s.lkc l) : Bounded M r { s with lkc := l } :=
  ⟨h.evu, h.lkc.trans hl, h.msq⟩

theorem Bounded.of_msq {q : Msq} (h : Bounded M r s) (hq : PortKept s.msq q) : Bounded M r { s with msq := q } :=
  ⟨h.evu, h.lkc, h.msq.trans hq⟩

theorem Bounded.of_frame (h : Bounded M r s) (he : t.evu = s.evu) (hl : t.lkc = s.lkc) (hq : t.msq = s.msq) :
    Bounded M r t := ⟨he ▸ h.evu, hl ▸ h.lkc, hq ▸ h.msq⟩

/-! ### Operations that touch neither the event unit nor the ports nor the group in flight -/

@[simp] theorem Bounded.setPtl (h : Bounded M r s) (x : Ptl) : Bounded M r (s.setPtl x) := h.of_frame rfl rfl rfl
@[simp] theorem Bounded.setRse (h : Bounded M r s) (x : Rse) : Bounded M r (s.setRse x) := h.of_frame rfl rfl rfl
@[simp] theorem Bounded.setVtu (h : Bounded M r s) (x : Vtu) : Bounded M r (s.setVtu x) := h.of_frame rfl rfl rfl
@[simp] theorem Bounded.setMode (h : Bounded M r s) (m : Mode) : Bounded M r (s.setMode m) := h.of_frame rfl rfl rfl
@[simp] theorem Bounded.setEntries (h : Bounded M r s) (es : List RowEntry) : Bounded M r (s.setEntries es) :=
  h.of_frame rfl rfl rfl
@[simp] theorem Bounded.setSpare (h : Bounded M r s) (i : Fin 16) (x : Spare) : Bounded M r (s.setSpare i x) :=
  h.of_frame rfl rfl rfl
@[simp] theorem Bounded.setRegion (h : Bounded M r s) (i : Fin 32) (e : Option Region) :
    Bounded M r (s.setRegion i e) :=
  h.of_frame rfl rfl rfl
@[simp] theorem Bounded.updateRecord (h : Bounded M r s) (i : Fin 32) (f : DigestRecord → DigestRecord) :
    Bounded M r (s.updateRecord i f) :=
  h.of_frame rfl rfl rfl
@[simp] theorem Bounded.setService (h : Bounded M r s) (v : Option Service) : Bounded M r (s.setService v) :=
  h.of_frame rfl rfl rfl
@[simp] theorem Bounded.setReentry (h : Bounded M r s) (v : Option Reentry) : Bounded M r (s.setReentry v) :=
  h.of_frame rfl rfl rfl
@[simp] theorem Bounded.setRepair (h : Bounded M r s) (v : Option Repair) : Bounded M r (s.setRepair v) :=
  h.of_frame rfl rfl rfl
@[simp] theorem Bounded.listBlock (h : Bounded M r s) (b : Nat) : Bounded M r (s.listBlock b) :=
  h.of_frame rfl rfl rfl
@[simp] theorem Bounded.putRecord (h : Bounded M r s) (x : VoteRecord) : Bounded M r (s.putRecord x) :=
  h.of_frame rfl rfl rfl
@[simp] theorem Bounded.storeWord (h : Bounded M r s) (i : Nat) (v : Word) : Bounded M r (s.storeWord i v) :=
  h.of_frame rfl rfl rfl
@[simp] theorem Bounded.answer (h : Bounded M r s) (st : CommandStatus) (rs : List Word) :
    Bounded M r (s.answer st rs) :=
  h.of_frame rfl rfl rfl
@[simp] theorem Bounded.respondTxi (h : Bounded M r s) (st : ResponseStatus) (d : List Word) :
    Bounded M r (s.respondTxi st d) :=
  h.of_frame rfl rfl rfl
@[simp] theorem Bounded.startMove (h : Bounded M r s) (i : Fin 16) (row : Nat) : Bounded M r (s.startMove i row) :=
  h.of_frame rfl rfl rfl
@[simp] theorem Bounded.voteIsolated (h : Bounded M r s) : Bounded M r s.voteIsolated := h.of_frame rfl rfl rfl
@[simp] theorem Bounded.voteSync (h : Bounded M r s) : Bounded M r s.voteSync := h.of_frame rfl rfl rfl
@[simp] theorem Bounded.invalidateAll (h : Bounded M r s) : Bounded M r s.invalidateAll := h.of_frame rfl rfl rfl
@[simp] theorem Bounded.validateCleared (h : Bounded M r s) : Bounded M r s.validateCleared :=
  h.of_frame (by simp) (by simp) (by simp)
@[simp] theorem Bounded.markLast (h : Bounded M r s) (n : Word) : Bounded M r (s.markLast n) :=
  h.of_frame rfl rfl rfl
@[simp] theorem Bounded.voteJoin (h : Bounded M r s) (n : Word) : Bounded M r (s.voteJoin n) :=
  h.of_frame rfl rfl rfl
@[simp] theorem Bounded.startClear (h : Bounded M r s) : Bounded M r s.startClear := h.of_frame rfl rfl rfl
@[simp] theorem Bounded.setWaiting (h : Bounded M r s) (as : List Access) : Bounded M r (s.setWaiting as) :=
  h.of_frame rfl rfl rfl
@[simp] theorem Bounded.enterScrub (h : Bounded M r s) (i : Fin 32) : Bounded M r (s.enterScrub i) :=
  h.of_frame (by simp) (by simp) (by simp)
@[simp] theorem Bounded.beginPass (h : Bounded M r s) : Bounded M r s.beginPass :=
  h.of_frame (by simp) (by simp) (by simp)
@[simp] theorem Bounded.stopRiding (h : Bounded M r s) (i : Fin 32) : Bounded M r (s.stopRiding i) :=
  h.of_frame (by simp) (by simp) (by simp)
@[simp] theorem Bounded.enterAudit (h : Bounded M r s) (i : Fin 32) : Bounded M r (s.enterAudit i) :=
  h.of_frame (by simp) (by simp) (by simp)
@[simp] theorem Bounded.startVerify (h : Bounded M r s) : Bounded M r s.startVerify :=
  h.of_frame (by simp) (by simp) (by simp)
@[simp] theorem Bounded.stopAuditHere (h : Bounded M r s) : Bounded M r s.stopAuditHere :=
  h.of_frame (by simp) (by simp) (by simp)
@[simp] theorem Bounded.abandonRiding (h : Bounded M r s) (i : Fin 32) : Bounded M r (s.abandonRiding i) :=
  h.of_frame (by simp) (by simp) (by simp)
@[simp] theorem Bounded.auditOn (h : Bounded M r s) (i : Fin 32) (w : Nat) : Bounded M r (s.auditOn i w) :=
  h.of_frame (by simp) (by simp) (by simp)
@[simp] theorem Bounded.nextVerify (h : Bounded M r s) (i : Fin 32) : Bounded M r (s.nextVerify i) :=
  h.of_frame (by simp) (by simp) (by simp)
@[simp] theorem Bounded.handAudit (h : Bounded M r s) (i : Fin 32) (w : Nat) (v : Word) :
    Bounded M r (s.handAudit i w v) :=
  h.of_frame (by simp) (by simp) (by simp)
@[simp] theorem Bounded.reportDigest (h : Bounded M r s) (g : Group) (o : ReadOutcome) (a b : Word) :
    Bounded M r (s.reportDigest g o a b) :=
  h.of_frame (by simp) (by simp) (by simp)
@[simp] theorem Bounded.strayAudit (h : Bounded M r s) (g : Group) (i : Fin 32) (w : Nat) (o : ReadOutcome) (v : Word) :
    Bounded M r (s.strayAudit g i w o v) :=
  h.of_frame (by simp) (by simp) (by simp)
@[simp] theorem Bounded.storeSet (h : Bounded M r s) (c : Word) (p : Port) (x : PartnerSet) :
    Bounded M r (s.storeSet c p x) :=
  h.of_frame (by simp) (by simp) (by simp)
@[simp] theorem Bounded.createRecord (h : Bounded M r s) (c d : Word) : Bounded M r (s.createRecord c d) :=
  h.of_frame (by simp) (by simp) (by simp)
@[simp] theorem Bounded.openRecord (h : Bounded M r s) (n : Word) : Bounded M r (s.openRecord n) :=
  h.of_frame (by simp) (by simp) (by simp)
@[simp] theorem Bounded.releaseSpare (h : Bounded M r s) : Bounded M r s.releaseSpare :=
  h.of_frame (by simp) (by simp) (by simp)
@[simp] theorem Bounded.writeRows (h : Bounded M r s) (row w : Nat) (x : Option Nat) (v : Word) :
    Bounded M r (s.writeRows row w x v) :=
  h.of_frame (by simp) (by simp) (by simp)
@[simp] theorem Bounded.writeSlot (h : Bounded M r s) (row w : Nat) (v : Word) : Bounded M r (s.writeSlot row w v) :=
  h.of_frame (by simp) (by simp) (by simp)
@[simp] theorem Bounded.writeBack (h : Bounded M r s) (g : Group) (o : ReadOutcome) (v : Word) :
    Bounded M r (s.writeBack g o v) :=
  h.of_frame (by simp) (by simp) (by simp)
@[simp] theorem Bounded.copyToSpare (h : Bounded M r s) (g : Group) (o : ReadOutcome) (v : Word) :
    Bounded M r (s.copyToSpare g o v) :=
  h.of_frame (by simp) (by simp) (by simp)
@[simp] theorem Bounded.wordDone (h : Bounded M r s) (st : ResponseStatus) (d : List Word) :
    Bounded M r (s.wordDone st d) :=
  h.of_frame (by simp) (by simp) (by simp)
@[simp] theorem Bounded.copyDone (h : Bounded M r s) (o : ReadOutcome) (v : Word) : Bounded M r (s.copyDone o v) :=
  h.of_frame (by simp) (by simp) (by simp)
@[simp] theorem Bounded.readSlot (h : Bounded M r s) (row w : Nat) (m : CellSample) :
    Bounded M r (s.readSlot row w m).1 := h.of_frame rfl rfl rfl

/-! ### The event unit -/

/-- A change that leaves the counters and the captures. -/
theorem EvuBounded.of_keeps {a b : Evu} (hc : b.counters = a.counters) (hk : ∀ k, b.capture k = a.capture k) :
    EvuBounded M a b := by
  unfold EvuBounded; simp only [hc, hk]; exact EvuBounded.refl M a

@[simp] theorem Bounded.fire (h : Bounded M r s) (ev : Event) : Bounded M r (s.fire ev) :=
  h.of_evu (.of_keeps (Evu.report_keeps ..).1 (Evu.report_keeps ..).2.2)

theorem Evu.increment_bounded (e : Evu) (i : Fin 16) : EvuBounded M e (e.increment i) := by
  unfold Evu.increment Config.counterTop
  split
  · rename_i hlt
    have hset : ∀ j : Fin 16, (e.counters.set i (e.counters[i] + 1))[j] =
        if i.val = j.val then e.counters[i] + 1 else e.counters[j] := fun j => by
      simp only [Fin.getElem_fin, Vector.getElem_set]
    refine ⟨fun _ j => ?_, fun j => ?_, fun k => ?_⟩
    · show _ ≤ (e.counters.set i (e.counters[i] + 1))[j]
      rw [hset]; split
      · rename_i hij; rw [Fin.ext hij]; omega
      · exact Nat.le_refl _
    · show (e.counters.set i (e.counters[i] + 1))[j] ≤ _
      rw [hset]; split <;> omega
    · cases k <;> exact Nat.le_max_right ..
  · exact .refl M e

@[simp] theorem Bounded.count (h : Bounded M r s) (c : Counter) : Bounded M r (s.count c) :=
  h.of_evu (Evu.increment_bounded ..)

theorem Capture.offered_repeats (c : Capture) (m : CaptureMode) (f : CaptureFields) :
    (c.offered m f).repeats ≤ max 255 c.repeats := by
  unfold Capture.offered Config.repeatTop; dsimp only; split <;> omega

/-- A capture record replaced by one whose repeat count is within the bound. -/
theorem Evu.setCapture_bounded (e : Evu) (k : CaptureClass) (c : Capture)
    (hc : c.repeats ≤ max 255 (e.capture k).repeats) : EvuBounded M e (e.setCapture k c) := by
  obtain ⟨-, hb, hr⟩ := EvuBounded.refl M e
  have hk := (Evu.setCapture_keeps e k c).2.1
  refine ⟨fun _ i => by rw [hk], fun i => by rw [hk]; exact hb i, fun k' => ?_⟩
  rw [Evu.setCapture_capture]; split
  · rename_i he; rw [he]; exact hc
  · exact hr k'

@[simp] theorem Bounded.offerCapture (h : Bounded M r s) (k : CaptureClass) (q : Requester) (a : Option Nat)
    (d : Detail) : Bounded M r (s.offerCapture k q a d) :=
  h.of_evu (Evu.setCapture_bounded _ _ _ (Capture.offered_repeats ..))

theorem Evu.setLine_bounded (e : Evu) (l : NoticeName) (n : NoticeLine) : EvuBounded M e (e.setLine l n) :=
  .of_keeps (Evu.setLine_keeps ..).2.1 (Evu.setLine_keeps ..).2.2.2

@[simp] theorem Bounded.setNotice (h : Bounded M r s) (l : NoticeName) (n : NoticeLine) :
    Bounded M r (s.setNotice l n) := h.of_evu (Evu.setLine_bounded ..)

/-! ### The ports -/

theorem Bounded.setLink (h : Bounded M r s) (p : Port) (x : LinkPort) (hx : QueuesBounded (s.link p) x) :
    Bounded M r (s.setLink p x) := by
  cases p
  · exact h.of_lkc ⟨hx, .refl _⟩
  · exact h.of_lkc ⟨.refl _, hx⟩

@[simp] theorem Bounded.setPartner (h : Bounded M r s) (p : Port) (x : Partner) : Bounded M r (s.setPartner p x) :=
  h.setLink _ _ (QueuesBounded.refl (s.link p))

@[simp] theorem Bounded.beginWork (h : Bounded M r s) (p : Port) (b : Bool) (a : Nat) (ws : List Word) :
    Bounded M r (s.beginWork p b a ws) := h.setLink _ _ (QueuesBounded.refl (s.link p))

@[simp] theorem Bounded.dropWork (h : Bounded M r s) : Bounded M r s.dropWork :=
  h.of_lkc (LinksBounded.refl s.lkc)

@[simp] theorem Bounded.dropFront (h : Bounded M r s) (p : Port) : Bounded M r (s.dropFront p) :=
  h.setLink _ _ ⟨Nat.le_max_right .., by simp only [List.length_tail]; omega⟩

@[simp] theorem Bounded.offerFrame (h : Bounded M r s) (p : Port) (f : Frame) : Bounded M r (s.offerFrame p f) := by
  unfold State.offerFrame
  split
  · rename_i hq
    have : (s.link p).tx.length < 16 := by
      unfold State.offerResult Config.txQueueSize at hq
      split at hq
      · cases hq
      · split at hq
        · assumption
        · cases hq
    exact h.setLink _ _ ⟨by simp only [List.length_append, List.length_singleton]; omega, Nat.le_max_right ..⟩
  · exact h
  · exact h.count _

/-! ### The group in flight -/

/-- A change of the group in flight that keeps its operation and its mark. -/
theorem PortKept.of_map (q : Msq) (f : Group → Group) (hf : ∀ g, (f g).op = g.op ∧ (f g).counted = g.counted) :
    PortKept q { q with port := q.port.map f } := by
  refine ⟨rfl, fun g hg => ?_⟩
  obtain ⟨g₀, h₀, rfl⟩ := Option.map_eq_some_iff.1 hg
  exact ⟨g₀, h₀, (hf g₀).1.symm, (hf g₀).2.symm⟩

@[simp] theorem Bounded.forget (h : Bounded M r s) (who : WordOp → Bool) : Bounded M r (s.forget who) :=
  h.of_msq (.of_map _ _ fun g => by split <;> exact ⟨rfl, rfl⟩)

@[simp] theorem Bounded.orphanGroup (h : Bounded M r s) : Bounded M r s.orphanGroup :=
  h.of_msq (.of_map _ _ fun _ => ⟨rfl, rfl⟩)

theorem PortKept.free (q : Msq) : PortKept q { q with port := none } := ⟨rfl, fun _ hg => by cases hg⟩

end Sys2Proof.Machine
end

section
namespace Sys2Proof.Machine
variable {M : Prop} {r s t : State}

/-! ### Rows and moves -/

@[simp] theorem Bounded.chooseMove (h : Bounded M r s) : Bounded M r s.chooseMove := by
  unfold State.chooseMove
  split
  · exact h
  · split
    · exact h.fire _
    · split
      · exact h.of_frame rfl rfl rfl
      · exact h.startMove _ _

@[simp] theorem Bounded.startChosen (h : Bounded M r s) (row : Nat) : Bounded M r (s.startChosen row) := by
  unfold State.startChosen
  split
  · split <;> simp [h]
  · exact h

@[simp] theorem Bounded.hitRow (h : Bounded M r s) (e : RowEntry) (w : Nat) : Bounded M r (s.hitRow e w) := by
  unfold State.hitRow
  dsimp only
  split
  · exact ((h.setEntries _).fire _).chooseMove
  · exact h.setEntries _

@[simp] theorem Bounded.reportRow (h : Bounded M r s) (row w : Nat) : Bounded M r (s.reportRow row w) := by
  unfold State.reportRow State.newRow
  split
  · exact h.hitRow _ _
  · split <;> simp [h]

/-- A sweep changes the row entries, and may choose a move. -/
@[simp] theorem Bounded.sweep (h : Bounded M r s) : Bounded M r s.sweep := by
  unfold State.sweep
  dsimp only
  have hs : Bounded M r { s with ret := { entries := sweepEntries s.ret.entries, ageing := 0, sweepDue := false } } :=
    h.of_frame rfl rfl rfl
  split
  · exact hs.chooseMove
  · exact hs

@[simp] theorem Bounded.applyWeakLimit (h : Bounded M r s) : Bounded M r s.applyWeakLimit := by
  unfold State.applyWeakLimit
  dsimp only
  split
  · exact ((h.setEntries _).fire _).chooseMove
  · exact h.setEntries _

@[simp] theorem Bounded.completeMove (h : Bounded M r s) (i : Fin 16) (row : Nat) :
    Bounded M r (s.completeMove i row) := by
  unfold State.completeMove
  split
  · exact h.setSpare _ _
  · dsimp only
    refine ((Bounded.setEntries (Bounded.setSpare ?_ _ _) _).fire _).chooseMove
    split
    · split <;> simp [h]
    · exact h

@[simp] theorem Bounded.advanceMove (h : Bounded M r s) : Bounded M r s.advanceMove := by
  unfold State.advanceMove
  split
  · exact h
  · split <;> simp [h]

@[simp] theorem Bounded.failMove (h : Bounded M r s) : Bounded M r s.failMove := by
  unfold State.failMove
  split
  · exact h
  · exact (((h.setSpare _ _).setEntries _).fire _).chooseMove

@[simp] theorem Bounded.endGroup (h : Bounded M r s) : Bounded M r s.endGroup := by
  have hf : Bounded M r { s with msq := { s.msq with port := none }, srm := { s.srm with startWaiting := none } } :=
    (h.of_msq (.free s.msq)).of_frame rfl rfl rfl
  unfold State.endGroup
  dsimp only
  split
  · exact hf.startChosen _
  · exact hf

/-! ### The patrol -/

@[simp] theorem Bounded.completePass (h : Bounded M r s) : Bounded M r s.completePass := by
  unfold State.completePass; exact ((h.count _).setPtl _).beginPass

@[simp] theorem Bounded.nextScrubRegion (h : Bounded M r s) (i : Fin 32) : Bounded M r (s.nextScrubRegion i) := by
  unfold State.nextScrubRegion
  split <;> simp [h]

@[simp] theorem Bounded.scrubTo (h : Bounded M r s) (i : Fin 32) (w : Nat) : Bounded M r (s.scrubTo i w) := by
  unfold State.scrubTo
  split <;> simp [h]

theorem Bounded.skipListed (k : Nat) (h : Bounded M r s) : Bounded M r (State.skipListed k s) := by
  induction k generalizing s with
  | zero => exact h
  | succ k ih =>
    unfold State.skipListed
    split
    · split
      · exact ih (h.scrubTo _ _)
      · exact h
    · exact h

@[simp] theorem Bounded.skip (h : Bounded M r s) : Bounded M r s.skip := h.skipListed _

@[simp] theorem Bounded.startScrub (h : Bounded M r s) : Bounded M r s.startScrub := by
  unfold State.startScrub; exact (h.setPtl _).beginPass.skip

@[simp] theorem Bounded.resumeScrub (h : Bounded M r s) : Bounded M r s.resumeScrub := by
  unfold State.resumeScrub
  split
  · exact h
  · dsimp only
    split
    · split
      · exact ((h.setPtl _).enterScrub _).skip
      · exact (h.setPtl _).skip
    · exact h.setPtl _

@[simp] theorem Bounded.patrolIsolated (h : Bounded M r s) (m : Mode) : Bounded M r (s.patrolIsolated m) := by
  unfold State.patrolIsolated
  split
  · exact (h.forget _).startScrub
  · exact h.startScrub
  · split
    · exact (h.forget _).stopAuditHere.startScrub
    · exact h.startScrub
  · split
    · exact (h.forget _).stopAuditHere.resumeScrub
    · exact h.setPtl _

@[simp] theorem Bounded.patrolFollows (h : Bounded M r s) (m n : Mode) : Bounded M r (s.patrolFollows m n) := by
  unfold State.patrolFollows
  split <;> simp [h]

/-! ### The restoration engine as source -/

@[simp] theorem Bounded.endService (h : Bounded M r s) (w : Option Word) : Bounded M r (s.endService w) := by
  unfold State.endService
  split
  · exact h
  · dsimp only
    split
    · exact (((h.offerFrame _ _).forget _).setService _).fire _
    · exact ((h.forget _).setService _).fire _

@[simp] theorem Bounded.endReentry (h : Bounded M r s) (w : Word) : Bounded M r (s.endReentry w) := by
  unfold State.endReentry
  split
  · exact h
  · exact ((h.offerFrame _ _).setReentry _).fire _

@[simp] theorem Bounded.endRepair (h : Bounded M r s) (w : Word) (b : Bool) : Bounded M r (s.endRepair w b) := by
  unfold State.endRepair
  split
  · exact h
  · refine Bounded.fire (Bounded.setRepair ?_ _) _
    split
    · exact h.offerFrame _ _
    · exact h

@[simp] theorem Bounded.endServices (h : Bounded M r s) (w : Word) (b : Bool) : Bounded M r (s.endServices w b) := by
  unfold State.endServices
  exact ((((h.endService _).endReentry _).endRepair _ _).forget _).dropWork.setRse _

@[simp] theorem Bounded.queueForward (h : Bounded M r s) (v : Service) (a : Nat) (w : Word) :
    Bounded M r (s.queueForward v a w) := by
  unfold State.queueForward
  split
  · simp [h]
  · split <;> simp [h]

@[simp] theorem Bounded.sourceWrite (h : Bounded M r s) (a : Nat) (w : Word) : Bounded M r (s.sourceWrite a w) := by
  unfold State.sourceWrite
  split
  · exact h
  · split
    · exact h
    · split <;> simp [h]

@[simp] theorem Bounded.offerMark (h : Bounded M r s) (v : Service) (f : Frame) : Bounded M r (s.offerMark v f) := by
  unfold State.offerMark
  split <;> simp [h]

/-! ### Changes of mode -/

@[simp] theorem Bounded.moveOccasion (h : Bounded M r s) (m : Mode) : Bounded M r (s.moveOccasion m) := by
  unfold State.moveOccasion
  split <;> simp [h]

@[simp] theorem Bounded.requestMode (h : Bounded M r s) (m : Mode) : Bounded M r (s.requestMode m) := by
  unfold State.requestMode State.enterMode
  dsimp only
  split
  · refine ((Bounded.fire ?_ _).patrolFollows _ _).moveOccasion _
    split <;> simp [h]
  · exact h

@[simp] theorem Bounded.isolateFor (h : Bounded M r s) (c : Cause) : Bounded M r (s.isolateFor c) := by
  unfold State.isolateFor State.enterIsolated
  dsimp only
  split
  · have hm : Bounded M r { s.setMode .isolated with mdc := { (s.setMode .isolated).mdc with cause := c } } :=
      h.of_frame rfl rfl rfl
    exact ((((hm.voteIsolated.endServices _ _).fire _).fire _).patrolFollows _ _).moveOccasion _
  · exact h

/-! ### The vote -/

@[simp] theorem Bounded.markLost (h : Bounded M r s) (p : Port) : Bounded M r (s.markLost p) := by
  unfold State.markLost; simp [h]

@[simp] theorem Bounded.countAbsence (h : Bounded M r s) (x : VoteRecord) (p : Port) :
    Bounded M r (s.countAbsence x p) := by
  unfold State.countAbsence
  split
  · simp [h]
  · split
    · dsimp only; split <;> simp [h]
    · exact h

@[simp] theorem Bounded.markSuspect (h : Bounded M r s) (rs : List (Nat × RegionResult)) (p : Port) :
    Bounded M r (s.markSuspect rs p) := by
  unfold State.markSuspect
  split <;> simp [h]

@[simp] theorem Bounded.fireDissent (h : Bounded M r s) (rs : List (Nat × RegionResult)) :
    Bounded M r (s.fireDissent rs) := by
  unfold State.fireDissent
  split <;> simp [h]

@[simp] theorem Bounded.fireFailed (h : Bounded M r s) (o : VoteOutcome) : Bounded M r (s.fireFailed o) := by
  unfold State.fireFailed
  split <;> simp [h]

@[simp] theorem Bounded.captureVote (h : Bounded M r s) (rs : List (Nat × RegionResult)) (o : VoteOutcome)
    (a : Option PartnerSet) : Bounded M r (s.captureVote rs o a) := by
  unfold State.captureVote
  split
  · exact h
  · split <;> simp [h]

@[simp] theorem Bounded.uncheckedLimit (h : Bounded M r s) : Bounded M r s.uncheckedLimit := by
  unfold State.uncheckedLimit
  split <;> simp [h]

@[simp] theorem Bounded.syncLimit (h : Bounded M r s) : Bounded M r s.syncLimit := by
  unfold State.syncLimit
  split <;> simp [h]

@[simp] theorem Bounded.voteConsequence (h : Bounded M r s) (o : VoteOutcome) (x : RegionResult) :
    Bounded M r (s.voteConsequence o x) := by
  unfold State.voteConsequence State.syncOutcome State.runOutcome
  split
  · simp [h]
  · split <;> split <;> simp [h]

@[simp] theorem Bounded.decideWith (h : Bounded M r s) (x : VoteRecord) (l : Snapshot) :
    Bounded M r (s.decideWith x l) := by
  unfold State.decideWith
  dsimp only
  have hs := ((h.countAbsence x .a).countAbsence x .b).putRecord
  exact ((((((hs _).markSuspect _ _).markSuspect _ _).fireDissent _).fireFailed _).captureVote _ _ _).voteConsequence _ _

@[simp] theorem Bounded.decideRecord (h : Bounded M r s) (c : Word) : Bounded M r (s.decideRecord c) := by
  unfold State.decideRecord
  split
  · exact h
  · split
    · split <;> simp [h]
    · exact h

@[simp] theorem Bounded.decideIfComplete (h : Bounded M r s) (c : Word) : Bounded M r (s.decideIfComplete c) := by
  unfold State.decideIfComplete
  split
  · exact h
  · split <;> simp [h]

@[simp] theorem Bounded.takeSet (h : Bounded M r s) (l m : Word) (p : Port) (x : PartnerSet) :
    Bounded M r (s.takeSet l m p x) := by
  unfold State.takeSet
  split
  · split
    · simp [h]
    · split <;> simp [h]
  · split <;> simp [h]

@[simp] theorem Bounded.voteDigest (h : Bounded M r s) (p : Port) (m : Word) (x : PartnerSet) :
    Bounded M r (s.voteDigest p m x) := by
  unfold State.voteDigest
  dsimp only
  split
  · split <;> simp [h]
  · simp [h]

@[simp] theorem Bounded.voteLinkDown (h : Bounded M r s) (p : Port) : Bounded M r (s.voteLinkDown p) := by
  unfold State.voteLinkDown
  dsimp only
  split <;> simp [h]

@[simp] theorem Bounded.offerDigest (h : Bounded M r s) (p : Port) (f : Frame) : Bounded M r (s.offerDigest p f) := by
  unfold State.offerDigest
  split
  · split
    · split <;> simp [h]
    · simp [h]
  · exact h

@[simp] theorem Bounded.decideOthers (h : Bounded M r s) (n : Word) : Bounded M r (s.decideOthers n) := by
  unfold State.decideOthers
  generalize s.vtu.records.map (·.cycle) = cs
  induction cs generalizing s with
  | nil => exact h
  | cons c cs ih =>
    rw [List.foldl_cons]
    split
    · exact ih h
    · exact ih (h.decideRecord c)

@[simp] theorem Bounded.acceptMark (h : Bounded M r s) (n : Word) : Bounded M r (s.acceptMark n) := by
  unfold State.acceptMark
  exact (((((h.markLast n).openRecord n).offerDigest _ _).offerDigest _ _).decideOthers n).decideIfComplete n

@[simp] theorem Bounded.isolatedMark (h : Bounded M r s) (n : Word) : Bounded M r (s.isolatedMark n) := by
  unfold State.isolatedMark
  split <;> simp [h]

/-! ### Requests, repair audits and uncorrectable words -/

@[simp] theorem Bounded.seekCopy (k : Nat) (h : Bounded M r s) : Bounded M r (State.seekCopy k s) := by
  induction k generalizing s with
  | zero => exact h.isolateFor _
  | succ k ih =>
    unfold State.seekCopy
    split
    · exact h
    · split
      · exact h.isolateFor _
      · dsimp only
        split
        · simp [h]
        · exact ih (by simp [h])

@[simp] theorem Bounded.copyRefused (h : Bounded M r s) : Bounded M r s.copyRefused := h.seekCopy 3

@[simp] theorem Bounded.askBlock (h : Bounded M r s) (v : Repair) (p : Port) : Bounded M r (s.askBlock v p) := by
  unfold State.askBlock; simp [h]

theorem Bounded.seekBlock (k : Nat) (h : Bounded M r s) : Bounded M r (State.seekBlock k s) := by
  induction k generalizing s with
  | zero => exact h.isolateFor _
  | succ k ih =>
    unfold State.seekBlock
    split
    · exact h
    · split
      · exact h.isolateFor _
      · split
        · exact h.askBlock _ _
        · exact ih (h.askBlock _ _)

@[simp] theorem Bounded.blockRefused (h : Bounded M r s) : Bounded M r s.blockRefused := h.seekBlock 3

@[simp] theorem Bounded.askFrom (h : Bounded M r s) (p : Port) : Bounded M r (s.askFrom p) := by
  unfold State.askFrom
  split
  · exact h
  · split <;> simp [h]

@[simp] theorem Bounded.askFirst (h : Bounded M r s) : Bounded M r s.askFirst := by
  unfold State.askFirst
  split
  · exact h
  · exact (h.setRepair _).blockRefused

@[simp] theorem Bounded.repairFailed (h : Bounded M r s) : Bounded M r s.repairFailed := h.isolateFor _

@[simp] theorem Bounded.repairSucceeded (h : Bounded M r s) : Bounded M r s.repairSucceeded := by
  unfold State.repairSucceeded; exact ((h.requestMode _).setRepair _).fire _

@[simp] theorem Bounded.enterRepairAudit (h : Bounded M r s) (i : Fin 32) : Bounded M r (s.enterRepairAudit i) := by
  unfold State.enterRepairAudit
  split <;> simp [h]

@[simp] theorem Bounded.nextRepairAudit (h : Bounded M r s) (i : Fin 32) : Bounded M r (s.nextRepairAudit i) := by
  unfold State.nextRepairAudit
  split <;> simp [h]

@[simp] theorem Bounded.beginRepairAudit (h : Bounded M r s) (is : List (Fin 32)) :
    Bounded M r (s.beginRepairAudit is) := by
  unfold State.beginRepairAudit
  dsimp only
  split
  · exact (h.setPtl _).enterRepairAudit _
  · exact (h.setPtl _).repairSucceeded.resumeScrub

@[simp] theorem Bounded.askRepairAudit (h : Bounded M r s) (is : List (Fin 32)) :
    Bounded M r (s.askRepairAudit is) := by
  unfold State.askRepairAudit
  split <;> simp [h]

@[simp] theorem Bounded.blockJoined (h : Bounded M r s) (i : Fin 32) : Bounded M r (s.blockJoined i) := by
  unfold State.blockJoined State.repairStopped
  dsimp only
  split
  · exact (((h.abandonRiding i).forget _).stopAuditHere.askFirst).resumeScrub
  · split
    · exact ((h.abandonRiding i).setPtl _).askFirst
    · split
      · exact h.abandonRiding i
      · exact (h.abandonRiding i).skip

@[simp] theorem Bounded.consequence (h : Bounded M r s) (pl : WordPlace) (a : Nat) :
    Bounded M r (s.consequence pl a) := by
  have hr : ∀ i b, Bounded M r (s.enterRepair i b) := fun i b => by
    unfold State.enterRepair
    exact (((((h.endService _).listBlock b).requestMode .repair).blockJoined i).setRepair _).askFirst
  have hj : ∀ i b, Bounded M r (s.joinRepair i b) := fun i b => by
    unfold State.joinRepair
    split
    · exact h
    · split <;> simp [h]
  unfold State.consequence
  split
  all_goals first | exact h.isolateFor _ | exact hr _ _ | exact hj _ _ | exact h

@[simp] theorem Bounded.ridingAnswer (h : Bounded M r s) (a : AuditAnswer) : Bounded M r (s.ridingAnswer a) := by
  unfold State.ridingAnswer State.ridingDrift
  dsimp only
  split
  · simp [h]
  · split <;> simp [h]
  · exact h

@[simp] theorem Bounded.scrubWord (h : Bounded M r s) (i : Fin 32) (w : Nat) (o : ReadOutcome) (v : Word) :
    Bounded M r (s.scrubWord i w o v) := by
  unfold State.scrubWord
  split
  · exact h
  · split <;> simp [h]

@[simp] theorem Bounded.scrubEnd (h : Bounded M r s) (i : Fin 32) (w : Nat) (o : ReadOutcome) (v : Word) :
    Bounded M r (s.scrubEnd i w o v) := by
  unfold State.scrubEnd State.beginAsked State.scrubOn
  have hs := ((h.scrubWord i w o v).scrubTo i (w + 1)).skip
  split
  · exact hs
  · exact hs.beginRepairAudit _

@[simp] theorem Bounded.repairAnswer (h : Bounded M r s) (i : Fin 32) (w : Nat) (a : AuditAnswer) :
    Bounded M r (s.repairAnswer i w a) := by
  unfold State.repairAnswer
  split
  · exact h.auditOn i w
  · exact h.nextRepairAudit i
  · exact (h.fire _).repairFailed.resumeScrub
  · exact h.repairFailed.resumeScrub
  · exact h.repairFailed.resumeScrub

@[simp] theorem Bounded.auditEnd (h : Bounded M r s) (i : Fin 32) (w : Nat) (o : ReadOutcome) (v : Word) :
    Bounded M r (s.auditEnd i w o v) := by
  unfold State.auditEnd State.verifyAnswer
  dsimp only
  split
  · simp [h]
  · split
    · split <;> simp [h]
    · split <;> simp [h]

@[simp] theorem Bounded.clearEnd (h : Bounded M r s) (i : Fin 32) (w : Nat) : Bounded M r (s.clearEnd i w) := by
  unfold State.clearEnd
  split
  · simp [h]
  · split <;> simp [h]

/-! ### Settings -/

@[simp] theorem Bounded.cutGap (h : Bounded M r s) (l : NoticeName) : Bounded M r (s.cutGap l) := by
  unfold State.cutGap
  dsimp only
  split
  · exact h.setNotice _ _
  · exact h

theorem Evu.earlyEnd_keeps (e : Evu) (c : Settings) (l : NoticeName) :
    (e.earlyEnd c l).flags = e.flags ∧ (e.earlyEnd c l).counters = e.counters ∧
      (e.earlyEnd c l).msTime = e.msTime ∧ ∀ k, (e.earlyEnd c l).capture k = e.capture k := by
  unfold Evu.earlyEnd
  split
  · exact Evu.setLine_keeps ..
  · exact ⟨rfl, rfl, rfl, fun _ => rfl⟩

/-- The early ends of pulses change the lines alone. -/
theorem Evu.earlyEnds_keeps (e : Evu) (c : Settings) :
    (e.earlyEnds c).flags = e.flags ∧ (e.earlyEnds c).counters = e.counters ∧
      (e.earlyEnds c).msTime = e.msTime ∧ ∀ k, (e.earlyEnds c).capture k = e.capture k := by
  obtain ⟨fa, ca, ta, ka⟩ := Evu.earlyEnd_keeps e c .na
  obtain ⟨fb, cb, tb, kb⟩ := Evu.earlyEnd_keeps (e.earlyEnd c .na) c .nb
  exact ⟨fb.trans fa, cb.trans ca, tb.trans ta, fun k => (kb k).trans (ka k)⟩

@[simp] theorem Bounded.settingActs (h : Bounded M r s) (st : Setting) : Bounded M r (s.settingActs st) := by
  unfold State.settingActs
  split
  · exact h.applyWeakLimit
  · exact h.setNotice _ _
  · simp [h]
  · exact h.of_evu (.of_keeps (Evu.earlyEnds_keeps ..).2.1 (Evu.earlyEnds_keeps ..).2.2.2)
  · exact h

@[simp] theorem Bounded.storeSetting (h : Bounded M r s) (st : Setting) (v : Nat) :
    Bounded M r (s.storeSetting st v) := by
  unfold State.storeSetting
  dsimp only
  split
  · exact h
  · exact Bounded.settingActs (s := { s with cmi := { s.cmi with settings := s.cmi.settings.put st v } })
      (h.of_frame rfl rfl rfl) st

/-! ### Reports of a group -/

@[simp] theorem Bounded.reportOutcome (h : Bounded M r s) (g : Group) (o : ReadOutcome) :
    Bounded M r (s.reportOutcome g o) := by
  unfold State.reportOutcome State.reportCorrected State.reportUncorrectable
  split
  · exact h
  · exact ((h.count _).fire _).reportRow _ _
  · have hu := ((h.count .uncorrectable).fire .memUncorrectable).offerCapture .memory g.op.requester (some g.op.addr)
      (.memory g.op.detail)
    dsimp only
    split
    · exact hu.consequence _ _
    · exact hu

@[simp] theorem Bounded.reportSource (h : Bounded M r s) (g : Group) (c : Bool) (v : Word) :
    Bounded M r (s.reportSource g c v) := by
  unfold State.reportSource
  split
  · split <;> simp [h]
  · exact h

end Sys2Proof.Machine
end

section
/-! The bounds through the commands, the frames taken, the links and the clocks. -/

namespace Sys2Proof.Machine

variable {M : Prop} {r s t : State}

/-! ### Management commands -/

/-- A command that its mode may refuse. -/
theorem Bounded.acceptedIn (h : Bounded M r s) (ms : Mode → Bool) (f : State → State) (hf : Bounded M r (f s)) :
    Bounded M r (s.acceptedIn ms f) := by
  unfold State.acceptedIn State.notNow
  split
  · exact hf
  · exact h.answer _ _

theorem Bounded.cmdSettingsWrite (h : Bounded M r s) : Bounded M r s.cmdSettingsWrite := by
  unfold State.cmdSettingsWrite
  split
  · exact h.answer _ _
  · exact h.acceptedIn _ _ ((h.storeSetting _ _).answer _ _)

theorem Bounded.cmdEventsClear (h : Bounded M r s) : Bounded M r s.cmdEventsClear := by
  have hc (e : Evu) (hc : e.counters = s.evu.counters) (hk : ∀ k, e.capture k = s.evu.capture k) :
      Bounded M r { s with evu := e.earlyEnds s.cmi.settings } :=
    h.of_evu (.of_keeps ((Evu.earlyEnds_keeps ..).2.1.trans hc) fun k => ((Evu.earlyEnds_keeps ..).2.2.2 k).trans (hk k))
  exact (hc { s.evu with flags := clearFlags s.evu.flags (s.param 1) } rfl fun k => by cases k <;> rfl).answer _ _

theorem Bounded.cmdCaptureClear (h : Bounded M r s) : Bounded M r s.cmdCaptureClear := by
  unfold State.cmdCaptureClear State.badParam
  split
  · exact (h.of_evu (Evu.setCapture_bounded _ _ _ (Nat.zero_le _))).answer _ _
  · exact h.answer _ _

/-- Clearing the counters keeps the bounds, but not their order. -/
theorem Bounded.cmdCountersClear (h : Bounded M r s) (hM : ¬ M) : Bounded M r s.cmdCountersClear := by
  have hc : EvuBounded M s.evu { s.evu with counters := Vector.replicate 16 0 } := by
    refine ⟨fun m => absurd m hM, fun i => ?_, fun k => ?_⟩
    · show (Vector.replicate 16 0)[i] ≤ _
      simp
    · cases k <;> exact Nat.le_max_right ..
  exact (h.of_evu hc).answer _ _

theorem Bounded.cmdTableOpen (h : Bounded M r s) : Bounded M r s.cmdTableOpen := by
  have ho : Bounded M r { s with rgt := Rgt.initial } := h.of_frame rfl rfl rfl
  unfold State.cmdTableOpen
  refine h.acceptedIn _ _ ?_
  split
  · exact h.answer _ _
  · exact (ho.requestMode _).answer _ _

theorem Bounded.closeTable (h : Bounded M r s) : Bounded M r s.closeTable := by
  unfold State.closeTable
  refine Bounded.requestMode ?_ _
  exact h.of_frame rfl rfl rfl

theorem Bounded.cmdTableClose (h : Bounded M r s) : Bounded M r s.cmdTableClose := by
  unfold State.cmdTableClose
  refine h.acceptedIn _ _ ?_
  split
  · exact h.answer _ _
  · exact h.closeTable.answer _ _

theorem Bounded.cmdColdStart (h : Bounded M r s) : Bounded M r s.cmdColdStart :=
  h.acceptedIn _ _ ((h.requestMode .clearing).answer _ _)

theorem Bounded.cmdIsolate (h : Bounded M r s) : Bounded M r s.cmdIsolate :=
  h.acceptedIn _ _ ((h.isolateFor .commanded).answer _ _)

theorem Bounded.cmdRestart (h : Bounded M r s) : Bounded M r s.cmdRestart := by
  have hm : Bounded M r ((s.endServices serviceEndedReason false).orphanGroup).restartMove :=
    Bounded.of_frame (h.endServices serviceEndedReason false).orphanGroup (by simp) (by simp) (by simp)
  have hq (l : LinkPort) : QueuesBounded l l.restarted := .refl l
  have hb : Bounded M r s.restartBlocks := ⟨hm.evu, hm.lkc.trans ⟨hq _, hq _⟩, hm.msq⟩
  exact ((hb.setMode _).fire _).answer _ _

theorem Bounded.cmdCycleMark (h : Bounded M r s) : Bounded M r s.cmdCycleMark := by
  unfold State.cmdCycleMark State.acceptedIn State.notNow
  split
  · exact (h.isolatedMark _).answer _ _
  · split
    · dsimp only
      split
      · exact (h.acceptMark _).answer _ _
      · exact h.answer _ _
    · exact h.answer _ _

theorem Bounded.cmdReenter (h : Bounded M r s) : Bounded M r s.cmdReenter := by
  have hr : Bounded M r s.reenter := by
    unfold State.reenter
    exact (((h.requestMode _).invalidateAll.setVtu _).setReentry _).seekCopy 3
  unfold State.cmdReenter
  refine h.acceptedIn _ _ ?_
  split
  · exact h.answer _ _
  · exact hr.answer _ _

theorem Bounded.cmdJoinAt (h : Bounded M r s) : Bounded M r s.cmdJoinAt :=
  h.of_frame (by simp) (by simp) (by simp)

/-- The command of word 0; only COUNTERS_CLEAR takes a counter down. -/
theorem Bounded.carryOut (h : Bounded M r s) (hM : M → (s.apertureWord 0).toNat ≠ 0x17) : Bounded M r s.carryOut := by
  unfold State.carryOut
  split
  case h_2 => exact h.cmdSettingsWrite
  case h_4 => exact h.cmdRestart
  case h_5 => exact h.cmdTableOpen
  case h_7 => exact h.cmdTableClose
  case h_9 => exact h.cmdColdStart
  case h_10 => exact h.cmdIsolate
  case h_11 => exact h.cmdCycleMark
  case h_13 => exact h.cmdReenter
  case h_14 => exact h.cmdJoinAt
  case h_19 => exact h.cmdEventsClear
  case h_21 => exact h.cmdCaptureClear
  case h_23 hc => exact h.cmdCountersClear fun m => hM m hc
  all_goals exact h.of_frame (by simp) (by simp) (by simp)

/-! ### Accesses -/

theorem Bounded.writeWord (h : Bounded M r s) (i : Nat) (v : Word) (hM : M → i = 0 → v ≠ 0x17) :
    Bounded M r (s.writeWord i v) := by
  unfold State.writeWord
  split
  · rename_i hi
    refine (h.storeWord 0 v).carryOut fun m hc => hM m hi ?_
    rw [State.storeWord_code] at hc
    exact BitVec.eq_of_toNat_eq hc
  · split
    · exact h.storeWord _ _
    · exact h

theorem Bounded.writeWords (h : Bounded M r s) (i : Nat) (vs : List Word)
    (hM : M → i = 0 → vs.head? ≠ some 0x17) : Bounded M r (s.writeWords i vs) := by
  induction vs generalizing s i with
  | nil => exact h
  | cons v vs ih =>
    unfold State.writeWords
    refine ih (h.writeWord i v fun m hi hv => hM m hi (by rw [hv]; rfl)) _ ?_
    intro _ hi
    exact absurd hi (Nat.succ_ne_zero i)

theorem Bounded.refuse (h : Bounded M r s) (tr : Transaction) (d : AccessDetail) : Bounded M r (s.refuse tr d) := by
  unfold State.refuse
  exact (((h.fire _).count _).offerCapture _ _ _ _).respondTxi _ _

theorem Bounded.hold (h : Bounded M r s) (tr : Transaction) (i : Fin 32) (c : RegionClass) :
    Bounded M r (s.hold tr i c) := h.of_frame (by simp) (by simp) (by simp)

/-- A transaction is admitted to the aperture only at an aligned address in it. -/
theorem State.admission_aperture (s : State) (tr : Transaction) (h : s.admission tr = .aperture) :
    txnAddress tr % 4 = 0 ∧ apertureBase ≤ txnAddress tr ∧ txnAddress tr < apertureEnd := by
  unfold State.admission at h
  split at h
  · cases h
  · split at h
    · cases h
    · split at h
      · unfold State.admitMemory at h
        repeat' split at h
        all_goals cases h
      · rename_i ha _ hs
        refine ⟨by omega, ?_, ?_⟩
        · by_contra hb
          exact hs (by unfold spaceOf; rw [if_pos (by omega)])
        · by_contra hb
          unfold admitAperture at h
          rw [if_pos (by omega)] at h
          cases h

theorem Bounded.transaction (h : Bounded M r s) (tr : Transaction) (hM : M → ¬ carries 0x17 (.transaction tr)) :
    Bounded M r (s.transaction tr) := by
  unfold State.transaction
  split
  · exact h.refuse _ _
  · rename_i ha
    obtain ⟨h4, hlo, hhi⟩ := s.admission_aperture tr ha
    unfold State.aperture
    split
    · exact h.respondTxi _ _
    · rename_i a ws
      split
      · exact h.respondTxi _ _
      · refine (h.writeWords _ _ fun m hi hv => hM m ⟨?_, by rw [← List.head?_map]; exact hv⟩).respondTxi _ _
        unfold apertureIndex apertureBase at *
        simp only [txnAddress] at *
        apply BitVec.eq_of_toNat_eq
        show a.toNat = 0x0FFFF000
        omega
  · exact h.hold _ _ _

theorem Bounded.take (h : Bounded M r s) (a : Access) (hM : M → ¬ carries 0x17 a) : Bounded M r (s.take a) := by
  cases a with
  | transaction tr => exact h.transaction tr hM
  | word i v =>
    refine (h.writeWord _ _ fun m hi hv => hM m ⟨Fin.ext hi, hv⟩).respondTxi _ _
  | command code ps =>
    have hp : Bounded M r (s.storeParams ps) := h.writeWords 1 ps fun _ hi => absurd hi (by decide)
    refine ((hp.storeWord 0 code).carryOut fun m hc => hM m ?_).respondTxi _ _
    rw [State.storeWord_code] at hc
    exact BitVec.eq_of_toNat_eq hc

theorem Bounded.takeAll (h : Bounded M r s) (as : List Access) (hM : M → ∀ a ∈ as, ¬ carries 0x17 a) :
    Bounded M r (s.takeAll as) := by
  induction as generalizing s with
  | nil => exact h
  | cons a as ih =>
    have ht := h.take a fun m => hM m a (List.mem_cons_self ..)
    unfold State.takeAll
    split
    · exact h.setWaiting _
    · refine ih ?_ fun m b hb => hM m b (List.mem_cons_of_mem _ hb)
      unfold State.takeNext
      dsimp only
      split
      · exact ht
      · exact ht.of_frame rfl rfl rfl

end Sys2Proof.Machine
end

section
/-! The bounds through the frames taken, the links, the clocks and the ends of the groups. -/

namespace Sys2Proof.Machine

variable {M : Prop} {r s t : State}

/-! ### Frames taken -/

@[simp] theorem Bounded.release (h : Bounded M r s) (p : Port) : Bounded M r (s.release p) := h.offerFrame _ _

@[simp] theorem Bounded.serviceHears (h : Bounded M r s) (p : Port) (m : Option Mode) :
    Bounded M r (s.serviceHears p m) := by
  unfold State.serviceHears
  split
  · exact h
  · split
    · split <;> split <;> simp [h]
    · exact h

@[simp] theorem Bounded.reentryHears (h : Bounded M r s) (p : Port) (b : Bool) : Bounded M r (s.reentryHears p b) := by
  unfold State.reentryHears
  split
  · exact h
  · split <;> simp [h]

@[simp] theorem Bounded.repairHears (h : Bounded M r s) (p : Port) (m : Option Mode) :
    Bounded M r (s.repairHears p m) := by
  unfold State.repairHears
  split
  · exact h
  · split <;> simp [h]

theorem Bounded.takeIdle (h : Bounded M r s) (p : Port) (m : Option Mode) (c : Option Word) (x : Role) :
    Bounded M r (s.takeIdle p m c x) := by
  unfold State.takeIdle State.announceIdle
  exact (((h.setPartner _ _).serviceHears _ _).reentryHears _ _).repairHears _ _

theorem Bounded.joinNow (h : Bounded M r s) (p : Port) (n : Word) : Bounded M r (s.joinNow p n) := by
  unfold State.joinNow
  exact (((((h.requestMode _).voteJoin n).offerFrame _ _).setPartner _ _).setReentry _).fire _

theorem Bounded.targetDigest (h : Bounded M r s) (p : Port) (m : Word) (x : PartnerSet) :
    Bounded M r (s.targetDigest p m x) := by
  unfold State.targetDigest
  split
  · exact h
  · dsimp only
    split
    · split
      · split
        · unfold State.mirrorAgrees State.tryJoin
          split
          · exact ((h.setReentry _).requestMode _).fire _
          · split
            · exact h.setReentry _
            · split
              · exact (h.setReentry _).joinNow _ _
              · split
                · exact ((h.setReentry _).setReentry _).fire _
                · exact h.setReentry _
          · exact h.setReentry _
        · unfold State.mirrorDiffers
          split <;> simp [h]
      · exact h.setReentry _
    · exact h

theorem Bounded.takeDigest (h : Bounded M r s) (p : Port) (m : Word) (x : PartnerSet) :
    Bounded M r (s.takeDigest p m x) := by
  unfold State.takeDigest State.announceDigest
  exact (((((h.setPartner _ _).voteDigest _ _ _).serviceHears _ _).reentryHears _ _).repairHears _ _).targetDigest _ _ _

@[simp] theorem Bounded.requestAgain (h : Bounded M r s) (p : Port) (f : ServiceKind → Bool) :
    Bounded M r (s.requestAgain p f) := by
  unfold State.requestAgain
  split
  · split <;> simp [h]
  · exact h

theorem Bounded.startService (h : Bounded M r s) (v : Service) : Bounded M r (s.startService v) :=
  (h.setService _).fire _

theorem Bounded.takeCopyRequest (h : Bounded M r s) (p : Port) (td : Nat) : Bounded M r (s.takeCopyRequest p td) := by
  unfold State.takeCopyRequest State.acceptCopy State.refuseCopy
  have ha := h.requestAgain p fun _ => true
  dsimp only
  split
  · exact ha.offerFrame _ _
  · split
    · exact (ha.offerFrame _ _).startService _
    · exact ha.offerFrame _ _

theorem Bounded.takeRepairRequest (h : Bounded M r s) (p : Port) (td b : Nat) :
    Bounded M r (s.takeRepairRequest p td b) := by
  unfold State.takeRepairRequest State.refuseCopy
  have ha := h.requestAgain p (· == .repair)
  dsimp only
  split
  · exact ha.offerFrame _ _
  · split
    · exact ha.startService _
    · exact ha.offerFrame _ _

theorem Bounded.takeJoined (h : Bounded M r s) (p : Port) : Bounded M r (s.takeJoined p) := by
  unfold State.takeJoined
  split
  · split <;> simp [h]
  · exact h

theorem Bounded.takeCopyAccept (h : Bounded M r s) (p : Port) : Bounded M r (s.takeCopyAccept p) := by
  unfold State.takeCopyAccept State.strayAccept
  split
  · split <;> simp [h]
  · split
    · split <;> simp [h]
    · exact h.release p

theorem Bounded.takeCopyRefuse (h : Bounded M r s) (p : Port) : Bounded M r (s.takeCopyRefuse p) := by
  unfold State.takeCopyRefuse
  split
  · split <;> simp [h]
  · split <;> simp [h]
  · exact h

theorem Bounded.serviceAbandoned (h : Bounded M r s) (p : Port) : Bounded M r (s.serviceAbandoned p) := by
  unfold State.serviceAbandoned
  split
  · split <;> simp [h]
  · exact h

theorem Bounded.reentryAbandoned (h : Bounded M r s) (p : Port) (w : Word) : Bounded M r (s.reentryAbandoned p w) := by
  unfold State.reentryAbandoned
  split
  · exact h
  · split
    · exact h
    · split <;> simp [h]

theorem Bounded.repairAbandoned (h : Bounded M r s) (p : Port) (w : Word) : Bounded M r (s.repairAbandoned p w) := by
  unfold State.repairAbandoned
  split
  · exact h
  · split
    · exact h
    · split
      · exact h.blockRefused
      · split <;> simp [h]
      · exact h

theorem Bounded.takeAbandon (h : Bounded M r s) (p : Port) (w : Word) : Bounded M r (s.takeAbandon p w) :=
  ((h.serviceAbandoned p).reentryAbandoned p w).repairAbandoned p w

theorem Bounded.takeSegment (h : Bounded M r s) (p : Port) (a : Nat) (ws : List Word) :
    Bounded M r (s.takeSegment p a ws) := by
  unfold State.takeSegment State.repairSegment State.discardData
  split
  · split
    · exact h.count _
    · split
      · exact h.isolateFor _
      · dsimp only
        split
        · exact ((h.setRepair _).fire _).beginWork _ _ _ _
        · exact (h.setRepair _).beginWork _ _ _ _
  · split
    · exact h.count _
    · split <;> simp [h]

theorem Bounded.takeForward (h : Bounded M r s) (p : Port) (a : Nat) (w : Word) : Bounded M r (s.takeForward p a w) := by
  unfold State.takeForward State.discardData
  split
  · exact h.count _
  · split <;> simp [h]

theorem Bounded.takeCopyEnd (h : Bounded M r s) (p : Port) : Bounded M r (s.takeCopyEnd p) := by
  unfold State.takeCopyEnd
  split
  · exact h
  · split <;> simp [h]

theorem Bounded.takeRepairEnd (h : Bounded M r s) (p : Port) (b : Nat) : Bounded M r (s.takeRepairEnd p b) := by
  unfold State.takeRepairEnd State.blockRestored
  split
  · exact h
  · split
    · split
      · dsimp only
        split
        · exact (((h.setRse _).fire _).setRepair _).askRepairAudit _
        · exact ((h.setRse _).fire _).askFrom _
      · exact h.askFrom p
    · exact h

/-! ### Links -/

@[simp] theorem Bounded.goDown (h : Bounded M r s) (p : Port) (d : LinkDetail) : Bounded M r (s.goDown p d) := by
  have hs (s) (h : Bounded M r s) : Bounded M r (s.serviceLinkDown p) := by
    unfold State.serviceLinkDown
    split
    · split <;> simp [h]
    · exact h
  have he (s) (h : Bounded M r s) : Bounded M r (s.reentryLinkDown p) := by
    unfold State.reentryLinkDown
    split
    · split
      · split <;> simp [h]
      · exact h
    · exact h
  have hr (s) (h : Bounded M r s) : Bounded M r (s.repairLinkDown p) := by
    unfold State.repairLinkDown
    split
    · split
      · split <;> simp [h]
      · exact h
    · exact h
  unfold State.goDown
  exact hr _ (he _ (hs _ (((h.fire _).offerCapture _ _ _ _).setLink _ _ ⟨Nat.zero_le _, Nat.zero_le _⟩ |>.voteLinkDown _)))

theorem LinkPort.badFrame_bounded (l : LinkPort) : QueuesBounded l l.badFrame := by
  unfold LinkPort.badFrame; split <;> exact .refl l

theorem LinkPort.wrongFrame_bounded (l : LinkPort) : QueuesBounded l l.wrongFrame := by
  unfold LinkPort.wrongFrame; split <;> exact .refl l

theorem LinkPort.goodFrame_bounded (l : LinkPort) : QueuesBounded l l.goodFrame := by
  unfold LinkPort.goodFrame; repeat' split
  all_goals exact .refl l

theorem Bounded.offerRx (h : Bounded M r s) (p : Port) (f : Frame) : Bounded M r (s.offerRx p f) := by
  unfold State.offerRx State.overrun State.linkFault Config.rxQueueSize
  dsimp only
  split
  · exact h
  · split
    · refine h.setLink _ _ ⟨Nat.le_max_right .., ?_⟩
      simp only [List.length_append, List.length_singleton]
      omega
    · have ho := ((h.count (overrunCounter p)).fire .linkFault).offerCapture .link (linkRequester p) none
        (.rxOverrun f.kind)
      split
      · exact ho.isolateFor _
      · exact ho

theorem Bounded.arrival (h : Bounded M r s) (p : Port) (w : WireFrame) : Bounded M r (s.arrival p w) := by
  have hb (d : LinkDetail) : Bounded M r (s.badArrival p d) := by
    unfold State.badArrival State.linkFault
    have hl := Bounded.setLink (((h.count (crcCounter p)).fire .linkFault).offerCapture .link (linkRequester p) none
      (.link d)) p (s.link p).badFrame (LinkPort.badFrame_bounded (s.link p))
    dsimp only
    split
    · exact hl.goDown _ _
    · exact hl
  unfold State.arrival
  split
  · exact hb _
  · unfold State.wrongArrival State.linkFault
    exact Bounded.setLink (((h.count _).fire _).offerCapture _ _ _ _) _ _ (LinkPort.wrongFrame_bounded (s.link p))
  · exact hb _
  · exact (h.setLink _ _ (LinkPort.goodFrame_bounded _)).offerRx _ _

/-- An entry moves only to a transmit queue with four free places (R92). -/
theorem Bounded.moveEntry (h : Bounded M r s) (v : Service) (f : Frame) (fs : List Frame)
    (ht : s.takesEntry v.port = true) : Bounded M r (s.moveEntry v f fs) := by
  have hroom : (s.link v.port).tx.length + 4 ≤ 16 := by
    unfold State.takesEntry Config.servicePlaces Config.txQueueSize at ht
    simp only [Bool.and_eq_true, decide_eq_true_eq] at ht
    exact ht.2
  have hl : Bounded M r ((s.setService (some { v with queue := fs })).setLink v.port
      { s.link v.port with tx := (s.link v.port).tx ++ [f] }) := by
    refine (h.setService _).setLink _ _ ⟨?_, Nat.le_max_right ..⟩
    simp only [List.length_append, List.length_singleton]
    omega
  unfold State.moveEntry
  dsimp only
  split
  · exact hl.endService _
  · exact hl

/-! ### Groups that end -/

theorem Bounded.segmentWritten (h : Bounded M r s) (a : Nat) : Bounded M r (s.segmentWritten a) :=
  h.of_frame (by simp) (by simp) (by simp)

theorem Bounded.workDone (h : Bounded M r s) (p : Port) : Bounded M r (s.workDone p) := by
  unfold State.workDone
  split
  · exact h
  · have hl (x : LinkPort) (hx : QueuesBounded (s.link p) x) := h.setLink p x hx
    split
    · dsimp only
      split
      · refine Bounded.segmentWritten (hl _ ?_) _
        exact .refl (s.link p)
      · exact hl _ (.refl (s.link p))
    · exact hl _ (.refl (s.link p))

/-- A read slot, with its write-back and its report. -/
theorem Bounded.readReported (h : Bounded M r s) (g : Group) (row w : Nat) (m : CellSample) (o : ReadOutcome) (v : Word) :
    Bounded M r (((s.readSlot row w m).1.writeBack g o v).reportOutcome g o) :=
  ((h.readSlot _ _ _).writeBack _ _ _).reportOutcome _ _

/-- A read slot and the write over it, with the report to the digest unit and that of the old word. -/
theorem Bounded.writeReported (h : Bounded M r s) (g : Group) (m : CellSample) (o : ReadOutcome) (old v : Word) :
    Bounded M r ((((s.readSlot g.row g.word m).1.writeRows g.row g.word g.mirror v).reportDigest g o old v).reportOutcome
      g o) :=
  (((h.readSlot _ _ _).writeRows _ _ _ _).reportDigest _ _ _ _).reportOutcome _ _

theorem Bounded.processorWriteEnd (h : Bounded M r s) (g : Group) (v : Word) (m : CellSample) :
    Bounded M r (s.processorWriteEnd g v m) := by
  unfold State.processorWriteEnd
  dsimp only
  split
  · exact (((h.writeReported g m _ _ v).reportSource _ _ _).wordDone _ _).endGroup
  · exact (((h.writeRows _ _ _ _).reportSource _ _ _).wordDone _ _).endGroup

theorem Bounded.partialWriteEnd (h : Bounded M r s) (g : Group) (v : Word) (k : BitVec 4) (m : CellSample) :
    Bounded M r (s.partialWriteEnd g v k m) := by
  unfold State.partialWriteEnd
  exact (((h.writeReported g m _ _ _).reportSource _ _ _).wordDone _ _).endGroup

theorem Bounded.scrubReadEnd (h : Bounded M r s) (g : Group) (i : Fin 32) (w : Nat) (m : CellSample) :
    Bounded M r (s.scrubReadEnd g i w m) := by
  unfold State.scrubReadEnd
  have hs := h.readReported g g.row g.word m
  refine Bounded.endGroup ?_
  split
  · exact (hs _ _).scrubEnd _ _ _ _
  · exact (hs _ _).strayAudit _ _ _ _ _

theorem Bounded.auditReadEnd (h : Bounded M r s) (g : Group) (i : Fin 32) (w : Nat) (m : CellSample) :
    Bounded M r (s.auditReadEnd g i w m) := by
  unfold State.auditReadEnd
  have hs := h.readReported g g.row g.word m
  refine Bounded.endGroup ?_
  split
  · exact (hs _ _).auditEnd _ _ _ _
  · exact (hs _ _).strayAudit _ _ _ _ _

theorem Bounded.clearWriteEnd (h : Bounded M r s) (g : Group) (i : Fin 32) (w : Nat) :
    Bounded M r (s.clearWriteEnd g i w) := by
  unfold State.clearWriteEnd
  refine Bounded.endGroup ?_
  split
  · exact (h.writeRows _ _ _ _).clearEnd _ _
  · exact h.writeRows _ _ _ _

theorem Bounded.copyReadEnd (h : Bounded M r s) (g : Group) (m : CellSample) : Bounded M r (s.copyReadEnd g m) := by
  unfold State.copyReadEnd
  have hs := h.readReported g g.row g.word m
  refine Bounded.endGroup ?_
  split
  · exact (hs _ _).copyDone _ _
  · exact hs _ _

theorem Bounded.frameWriteEnd (h : Bounded M r s) (g : Group) (p : Port) (v : Word) (m : CellSample) :
    Bounded M r (s.frameWriteEnd g p v m) := by
  have hw (x : State) (hx : Bounded M r x) : Bounded M r (if x.groupLive then x.workDone p else x) := by
    split
    · exact hx.workDone p
    · exact hx
  unfold State.frameWriteEnd
  refine (hw _ ?_).endGroup
  split
  · exact h.writeReported g m _ _ v
  · exact h.writeRows _ _ _ _

theorem Bounded.restoringWriteEnd (h : Bounded M r s) (g : Group) (p : Port) (v : Word) :
    Bounded M r (s.restoringWriteEnd g p v) := by
  unfold State.restoringWriteEnd
  refine Bounded.endGroup ?_
  split
  · exact (h.writeRows _ _ _ _).workDone p
  · exact h.writeRows _ _ _ _

theorem Bounded.rowMoveCopyEnd (h : Bounded M r s) (g : Group) (m : CellSample) :
    Bounded M r (s.rowMoveCopyEnd g m) := by
  unfold State.rowMoveCopyEnd
  have hs := (h.readSlot g.row g.word m).copyToSpare g
  dsimp only
  split
  · refine Bounded.endGroup ?_
    split
    · exact ((hs _ _).reportOutcome _ _).failMove
    · exact ((hs _ _).reportOutcome _ _).advanceMove
  · exact ((hs _ _).releaseSpare.reportOutcome _ _).endGroup

end Sys2Proof.Machine
end

section
/-! Every command as the bounds see it, and the laws of StepKeepsBounds (O6). -/

namespace Sys2Proof.Machine

variable {M : Prop} {r s t : State}

/-! ### Commands that present an access -/

/-- A management command presented while TXI holds a transaction waits. -/
theorem State.issue_held (s : State) (code : Word) (ps : List Word) (f : State → State) (a : Access) (h : Held)
    (hh : s.txi.held = some h) (ha : some (Access.command code ps) = some a) :
    (.next (s.issue code ps f) : Host.Outcome State Fault Refusal) = .next (s.setWaiting (s.txi.waiting ++ [a])) := by
  cases ha
  exact congrArg _ (State.present_held _ _ _ h hh)

/-- While TXI holds a transaction every access waits (R9). -/
theorem exec_of_held (i : Instr) (a : Access) (s : State) (h : Held) (ha : accessOf i = some a)
    (hh : s.txi.held = some h) : exec i s = .next (s.setWaiting (s.txi.waiting ++ [a])) := by
  cases i
  case processorTransaction tr =>
    simp only [accessOf, Option.ite_none_right_eq_some, Option.some.injEq] at ha
    obtain ⟨hwf, rfl⟩ := ha
    simp only [exec, execProcessorTransaction, if_pos hwf, State.present_held _ _ _ h hh]
  case apertureWordWrite k v =>
    simp only [accessOf, Option.ite_none_left_eq_some, Option.some.injEq] at ha
    obtain ⟨hk, rfl⟩ := ha
    simp only [exec, execApertureWordWrite, ne_eq, hk, not_false_eq_true, if_true, State.present_held _ _ _ h hh]
  case unknownCommand code =>
    simp only [accessOf, Option.ite_none_left_eq_some, Option.some.injEq] at ha
    obtain ⟨hn, rfl⟩ := ha
    simp only [exec, execUnknownCommand, if_neg hn, State.present_held _ _ _ h hh]
  all_goals first
    | exact State.issue_held _ _ _ _ _ h hh ha
    | cases ha

/-- An access presented is taken at once, or waits while TXI holds a transaction (R9). -/
theorem exec_of_access (i : Instr) (a : Access) (s : State) (ha : accessOf i = some a) :
    exec i s = .next (if s.txi.held.isSome then s.setWaiting (s.txi.waiting ++ [a]) else s.take a) := by
  cases hh : s.txi.held with
  | none => exact exec_eq_take i a s ha hh
  | some h => exact exec_of_held i a s h ha hh

/-- A transaction, a plain word write or an unknown code with operands that the outside cannot present does nothing. -/
theorem exec_of_malformed (s : State) :
    (∀ tr, accessOf (.processorTransaction tr) = none → exec (.processorTransaction tr) s = .next s) ∧
    (∀ k v, accessOf (.apertureWordWrite k v) = none → exec (.apertureWordWrite k v) s = .next s) ∧
    ∀ code, accessOf (.unknownCommand code) = none → exec (.unknownCommand code) s = .next s := by
  refine ⟨fun tr ha => ?_, fun k v ha => ?_, fun code ha => ?_⟩
  · simp only [accessOf, ite_eq_right_iff, reduceCtorEq, imp_false] at ha
    exact congrArg _ (if_neg ha)
  · simp only [accessOf, ite_eq_left_iff, reduceCtorEq, imp_false, Decidable.not_not] at ha
    exact congrArg _ (if_neg (not_not.2 ha))
  · simp only [accessOf, ite_eq_left_iff, reduceCtorEq, imp_false, Decidable.not_not] at ha
    exact congrArg _ (if_pos ha)

/-! ### Groups that end

The end of a group is the step of the group in flight; where none of its kind is in flight nothing happens (log entry 2). -/

theorem exec_processorReadEnd_cases (m : CellSample) (s : State) : exec (.processorReadEnd m) s = .next s ∨
    ∃ g a, s.msq.port = some g ∧ g.op = .pRead a ∧
      exec (.processorReadEnd m) s = .next (s.thenTake (State.processorReadEnd · g m)) := by
  simp only [exec, execProcessorReadEnd]
  split
  · rename_i g hp
    split
    · rename_i ho
      exact .inr ⟨g, _, hp, ho, rfl⟩
    · exact .inl rfl
  · exact .inl rfl

theorem exec_processorWriteEnd_cases (m : CellSample) (s : State) : exec (.processorWriteEnd m) s = .next s ∨
    ∃ g a v, s.msq.port = some g ∧ g.op = .pWrite a v ∧
      exec (.processorWriteEnd m) s = .next (s.thenTake (State.processorWriteEnd · g v m)) := by
  simp only [exec, execProcessorWriteEnd]
  split
  · rename_i g hp
    split
    · rename_i ho
      exact .inr ⟨g, _, _, hp, ho, rfl⟩
    · exact .inl rfl
  · exact .inl rfl

theorem exec_partialWriteEnd_cases (m : CellSample) (s : State) : exec (.partialWriteEnd m) s = .next s ∨
    ∃ g a v k, s.msq.port = some g ∧ g.op = .pPartial a v k ∧
      exec (.partialWriteEnd m) s = .next (s.thenTake (State.partialWriteEnd · g v k m)) := by
  simp only [exec, execPartialWriteEnd]
  split
  · rename_i g hp
    split
    · rename_i ho
      exact .inr ⟨g, _, _, _, hp, ho, rfl⟩
    · exact .inl rfl
  · exact .inl rfl

theorem exec_scrubReadEnd_cases (m : CellSample) (s : State) : exec (.scrubReadEnd m) s = .next s ∨
    ∃ g i w a, s.msq.port = some g ∧ g.op = .scrubRead i w a ∧
      exec (.scrubReadEnd m) s = .next (s.scrubReadEnd g i w m) := by
  simp only [exec, execScrubReadEnd]
  split
  · rename_i g hp
    split
    · rename_i ho
      exact .inr ⟨g, _, _, _, hp, ho, rfl⟩
    · exact .inl rfl
  · exact .inl rfl

theorem exec_auditReadEnd_cases (m : CellSample) (s : State) : exec (.auditReadEnd m) s = .next s ∨
    ∃ g i w a, s.msq.port = some g ∧ g.op = .auditRead i w a ∧
      exec (.auditReadEnd m) s = .next (s.auditReadEnd g i w m) := by
  simp only [exec, execAuditReadEnd]
  split
  · rename_i g hp
    split
    · rename_i ho
      exact .inr ⟨g, _, _, _, hp, ho, rfl⟩
    · exact .inl rfl
  · exact .inl rfl

theorem exec_clearWriteEnd_cases (s : State) : exec .clearWriteEnd s = .next s ∨
    ∃ g i w a, s.msq.port = some g ∧ g.op = .clearWrite i w a ∧
      exec .clearWriteEnd s = .next (s.clearWriteEnd g i w) := by
  simp only [exec, execClearWriteEnd]
  split
  · rename_i g hp
    split
    · rename_i ho
      exact .inr ⟨g, _, _, _, hp, ho, rfl⟩
    · exact .inl rfl
  · exact .inl rfl

theorem exec_copyReadEnd_cases (m : CellSample) (s : State) : exec (.copyReadEnd m) s = .next s ∨
    ∃ g a, s.msq.port = some g ∧ g.op = .copyRead a ∧
      exec (.copyReadEnd m) s = .next (s.copyReadEnd g m) := by
  simp only [exec, execCopyReadEnd]
  split
  · rename_i g hp
    split
    · rename_i ho
      exact .inr ⟨g, _, hp, ho, rfl⟩
    · exact .inl rfl
  · exact .inl rfl

theorem exec_frameWriteEnd_cases (m : CellSample) (s : State) : exec (.frameWriteEnd m) s = .next s ∨
    ∃ g p a v, s.msq.port = some g ∧ g.op = .frameWrite p a v ∧
      exec (.frameWriteEnd m) s = .next (s.frameWriteEnd g p v m) := by
  simp only [exec, execFrameWriteEnd]
  split
  · rename_i g hp
    split
    · rename_i ho
      exact .inr ⟨g, _, _, _, hp, ho, rfl⟩
    · exact .inl rfl
  · exact .inl rfl

theorem exec_restoringWriteEnd_cases (s : State) : exec .restoringWriteEnd s = .next s ∨
    ∃ g p a v, s.msq.port = some g ∧ g.op = .restoringWrite p a v ∧
      exec .restoringWriteEnd s = .next (s.restoringWriteEnd g p v) := by
  simp only [exec, execRestoringWriteEnd]
  split
  · rename_i g hp
    split
    · rename_i ho
      exact .inr ⟨g, _, _, _, hp, ho, rfl⟩
    · exact .inl rfl
  · exact .inl rfl

theorem exec_rowMoveCopyEnd_cases (m : CellSample) (s : State) : exec (.rowMoveCopyEnd m) s = .next s ∨
    ∃ g a, s.msq.port = some g ∧ g.op = .moveCopy a ∧
      exec (.rowMoveCopyEnd m) s = .next (s.rowMoveCopyEnd g m) := by
  simp only [exec, execRowMoveCopyEnd]
  split
  · rename_i g hp
    split
    · rename_i ho
      exact .inr ⟨g, _, hp, ho, rfl⟩
    · exact .inl rfl
  · exact .inl rfl

/-! ### Every command -/

/-- The accesses of a step that is not COUNTERS_CLEAR (R166), taken or left to wait. -/
theorem Bounded.access (i : Instr) (a : Access) (s : State) (ha : accessOf i = some a) (hM : M → Without 0x17 i s) :
    ∃ t, exec i s = .next t ∧ Bounded M s t := by
  refine ⟨_, exec_of_access i a s ha, ?_⟩
  split
  · exact (Bounded.refl M s).setWaiting _
  · exact (Bounded.refl M s).take a fun m => (hM m).2.1 a ha

/-- A processor group that ends within the bounds, and the accesses that wait for its transaction. -/
theorem Bounded.thenTake (f : State → State) (hf : ∀ x, Bounded M s x → Bounded M s (f x))
    (hM : M → ∀ a ∈ s.txi.waiting, ¬ carries 0x17 a) : Bounded M s (s.thenTake f) :=
  (hf _ ((Bounded.refl M s).setWaiting [])).takeAll _ hM

/-- The ms tick changes no counter, no queue and no group. -/
theorem Bounded.tick (s : State) : Bounded M s s.tick := by
  have hq (l : LinkPort) (b : Bool) : QueuesBounded l (l.tick b) := .refl l
  exact ⟨.of_keeps rfl fun k => by cases k <;> rfl, ⟨hq _ _, hq _ _⟩, .refl _⟩

/-- Every command but POR, a grant and the end of a processor read keeps the bounds. -/
theorem exec_bounded (i : Instr) (s : State) (hM : M → Without 0x17 i s) (hp : ∀ c m, i ≠ .por c m)
    (hg : i ≠ .arbiterGrant) (hr : ∀ m, i ≠ .processorReadEnd m) : ∃ t, exec i s = .next t ∧ Bounded M s t := by
  have h := Bounded.refl M s
  cases ha : accessOf i with
  | some a => exact Bounded.access i a s ha hM
  | none =>
    cases i
    case por c m => exact absurd rfl (hp c m)
    case arbiterGrant => exact absurd rfl hg
    case processorReadEnd m => exact absurd rfl (hr m)
    case processorTransaction tr => exact ⟨s, (exec_of_malformed s).1 tr ha, h⟩
    case apertureWordWrite k v => exact ⟨s, (exec_of_malformed s).2.1 k v ha, h⟩
    case unknownCommand code => exact ⟨s, (exec_of_malformed s).2.2 code ha, h⟩
    case msTick => exact ⟨_, rfl, Bounded.tick s⟩
    case pacingTick => exact ⟨_, rfl, .of_keeps rfl fun k => by cases k <;> rfl, h.lkc, ⟨rfl, h.msq.2⟩⟩
    case processorWriteEnd m =>
      obtain hs | ⟨g, _, _, -, -, hs⟩ := exec_processorWriteEnd_cases m s
      · exact ⟨s, hs, h⟩
      · exact ⟨_, hs, .thenTake _ (fun _ hx => hx.processorWriteEnd _ _ _) fun m => (hM m).2.2⟩
    case partialWriteEnd m =>
      obtain hs | ⟨g, _, _, _, -, -, hs⟩ := exec_partialWriteEnd_cases m s
      · exact ⟨s, hs, h⟩
      · exact ⟨_, hs, .thenTake _ (fun _ hx => hx.partialWriteEnd _ _ _ _) fun m => (hM m).2.2⟩
    case scrubReadEnd m =>
      obtain hs | ⟨g, _, _, _, -, -, hs⟩ := exec_scrubReadEnd_cases m s
      · exact ⟨s, hs, h⟩
      · exact ⟨_, hs, h.scrubReadEnd _ _ _ _⟩
    case auditReadEnd m =>
      obtain hs | ⟨g, _, _, _, -, -, hs⟩ := exec_auditReadEnd_cases m s
      · exact ⟨s, hs, h⟩
      · exact ⟨_, hs, h.auditReadEnd _ _ _ _⟩
    case clearWriteEnd =>
      obtain hs | ⟨g, _, _, _, -, -, hs⟩ := exec_clearWriteEnd_cases s
      · exact ⟨s, hs, h⟩
      · exact ⟨_, hs, h.clearWriteEnd _ _ _⟩
    case copyReadEnd m =>
      obtain hs | ⟨g, _, -, -, hs⟩ := exec_copyReadEnd_cases m s
      · exact ⟨s, hs, h⟩
      · exact ⟨_, hs, h.copyReadEnd _ _⟩
    case frameWriteEnd m =>
      obtain hs | ⟨g, _, _, _, -, -, hs⟩ := exec_frameWriteEnd_cases m s
      · exact ⟨s, hs, h⟩
      · exact ⟨_, hs, h.frameWriteEnd _ _ _ _⟩
    case restoringWriteEnd =>
      obtain hs | ⟨g, _, _, _, -, -, hs⟩ := exec_restoringWriteEnd_cases s
      · exact ⟨s, hs, h⟩
      · exact ⟨_, hs, h.restoringWriteEnd _ _ _⟩
    case rowMoveCopyEnd m =>
      obtain hs | ⟨g, _, -, -, hs⟩ := exec_rowMoveCopyEnd_cases m s
      · exact ⟨s, hs, h⟩
      · exact ⟨_, hs, h.rowMoveCopyEnd _ _⟩
    all_goals first | (cases ha; done) | refine ⟨_, rfl, ?_⟩
    case ageingSweep => split <;> simp [h]
    case coverageTimerExpiry =>
      split
      · exact ((h.fire _).count _).setPtl _
      · exact h
    case cycleWatchdogExpiry => split <;> simp [h]
    case voteDeadlineExpiry => split <;> simp [h]
    case partnerLost p => split <;> simp [h]
    case uncheckedRunLimit => exact h.uncheckedLimit
    case syncTimeout => exact h.syncLimit
    case frameArrival p f => exact h.arrival p f
    case linkUp p f =>
      split
      · exact h.arrival p f
      · exact h
    case linkDown p =>
      split
      · exact h.goDown _ _
      · split <;> simp [h]
    case silenceResetInDown p =>
      split
      · exact h.setLink _ _ (.refl (s.link p))
      · exact h
    case idleFrameSend p =>
      split
      · exact h.setLink _ _ (.refl (s.link p))
      · exact h
    case txFrameStart p =>
      split
      · rename_i _ f fs _ htx
        refine h.setLink _ _ ⟨?_, Nat.le_max_right ..⟩
        simp only [htx, List.length_cons]
        omega
      · exact h
    case txFrameEnd p => exact h.setLink _ _ (.refl (s.link p))
    case serviceQueueMove =>
      split
      · split
        · split
          · exact h.moveEntry _ _ _ ‹_›
          · exact h
        · exact h
      · exact h
    case segmentEntryJoin =>
      split
      · split <;> simp [h]
      · exact h
    case copyEndEntryJoin =>
      split
      · split <;> simp [h]
      · exact h
    case idle p =>
      split
      · exact (h.dropFront p).takeIdle _ _ _ _
      · exact h
    case digest p =>
      split
      · exact (h.dropFront p).takeDigest _ _ _
      · exact h
    case copyRequest p =>
      split
      · exact (h.dropFront p).takeCopyRequest _ _
      · exact h
    case copyAccept p =>
      split
      · exact (h.dropFront p).takeCopyAccept _
      · exact h
    case copyRefuse p =>
      split
      · exact (h.dropFront p).takeCopyRefuse _
      · exact h
    case segment p =>
      split
      · exact (h.dropFront p).takeSegment _ _ _
      · exact h
    case forward p =>
      split
      · exact (h.dropFront p).takeForward _ _ _
      · exact h
    case copyEnd p =>
      split
      · exact (h.dropFront p).takeCopyEnd _
      · exact h
    case joined p =>
      split
      · exact (h.dropFront p).takeJoined _
      · exact h
    case abandon p =>
      split
      · exact (h.dropFront p).takeAbandon _ _
      · exact h
    case repairRequest p =>
      split
      · exact (h.dropFront p).takeRepairRequest _ _ _
      · exact h
    case repairEnd p =>
      split
      · exact (h.dropFront p).takeRepairEnd _ _
      · exact h
    case copyRequestTimeout =>
      split
      · split <;> simp [h]
      · exact h
    case repairAnswerTimeout =>
      split
      · split <;> simp [h]
      · exact h
    case repairSegmentTimeout =>
      split
      · split <;> simp [h]
      · exact h
    case noticePulseEnd l => split <;> simp [h]
    case noticeGapEnd l => split <;> simp [h]

end Sys2Proof.Machine
end

section
/-! The grant, the end of a processor read, and the laws of StepKeepsBounds. -/

namespace Sys2Proof.Machine

variable {M : Prop} {r s t : State}

/-! ### The yield count (R34) -/

/-- The bounds keep the yield count's law: the count stands, and no counted processor read appears. -/
theorem Bounded.yieldLaw (h : Bounded M s t) (hs : YieldLaw s) : YieldLaw t := by
  obtain ⟨hy, hp⟩ := h.msq
  refine ⟨hy ▸ hs.1, fun g a hg hc ho => ?_⟩
  obtain ⟨g₀, h₀, o₀, c₀⟩ := hp g hg
  exact hy ▸ hs.2 g₀ a h₀ (c₀.trans hc) (o₀.trans ho)

/-- A group takes at most three slots, a read one. -/
theorem Group.slots_le (g : Group) : g.slots ≤ 3 ∧ ∀ a, g.op = .pRead a → g.slots = 1 := by
  have hw : (if g.mirror.isSome then 2 else 1) ≤ 2 := by split <;> omega
  refine ⟨?_, fun a ha => by unfold Group.slots; rw [ha]⟩
  unfold Group.slots
  dsimp only
  split
  · omega
  · omega
  · split <;> omega

/-- A grant leaves the event unit and the ports, and keeps the yield count's law: P is granted beside a waiting background
requester only below 8. -/
theorem State.arbitrate_kept (s : State) :
    s.arbitrate.evu = s.evu ∧ s.arbitrate.lkc = s.lkc ∧ (YieldLaw s → YieldLaw s.arbitrate) := by
  refine ⟨by simp, by simp, fun hs => ?_⟩
  have hP (op : WordOp) (hb : s.background.isSome → s.msq.yieldCount < 8) : YieldLaw (s.grantP op) := by
    obtain ⟨h3, h1⟩ := (s.groupOf op s.background.isSome).slots_le
    cases hw : s.background.isSome with
    | true =>
      have hlt := hb hw
      rw [hw] at h3 h1
      simp only [YieldLaw, State.grantP, hw, if_true, Option.some.injEq]
      refine ⟨by omega, ?_⟩
      rintro g a rfl - ho
      have := h1 a ho
      omega
    | false => simp [YieldLaw, State.grantP, hw]
  have hB (op : WordOp) : YieldLaw (s.grantBackground op) := by
    have hq : (s.grantBackground op).msq =
        { s.msq.draw op with port := some (s.groupOf op false), yieldCount := 0 } := by
      unfold State.grantBackground; simp only [State.startCopy_frame]
    simp only [YieldLaw, hq, Nat.zero_le, implies_true, and_self]
  unfold State.arbitrate
  split
  · exact hs
  · split
    · split
      · exact hB _
      · exact hP _ fun _ => by omega
    · rename_i hb
      exact hP _ fun h => by rw [hb] at h; cases h
    · exact hB _
    · exact hs

theorem State.endGroup_msq (s : State) : s.endGroup.msq = { s.msq with port := none } := by
  unfold State.endGroup
  dsimp only
  split
  · simp only [State.startChosen_frame]
  · rfl

/-- A processor read that ends: the event unit and the ports within their bounds, the port free, and the yield count grown
by the slots of a write-back (R27). -/
theorem State.processorReadEnd_bounded (s : State) (g : Group) (m : CellSample) :
    EvuBounded M s.evu (s.processorReadEnd g m).evu ∧ LinksBounded s.lkc (s.processorReadEnd g m).lkc ∧
      (s.processorReadEnd g m).msq.port = none ∧
      (s.processorReadEnd g m).msq.yieldCount ≤ s.msq.yieldCount + (if g.counted then 2 else 0) := by
  have h := Bounded.readReported (Bounded.refl M s) g g.row g.word m (s.readSlot g.row g.word m).2.1
    (s.readSlot g.row g.word m).2.2
  have hc (x : State) (o : ReadOutcome) :
      (x.countBack g o).msq.yieldCount ≤ x.msq.yieldCount + (if g.counted then 2 else 0) := by
    unfold State.countBack Group.backSlots
    split
    · rename_i ho
      rw [Bool.and_eq_true] at ho
      rw [if_pos ho.1]
      dsimp only
      split <;> omega
    · omega
  unfold State.processorReadEnd
  dsimp only
  rw [State.endGroup_msq]
  simp only [State.endGroup_frame, State.wordDone_frame, State.countBack_frame, true_and]
  exact ⟨h.evu, h.lkc, h.msq.1 ▸ hc _ _⟩

/-! ### A step -/

/-- What every command but POR keeps. -/
theorem exec_kept (i : Instr) (s : State) (hM : M → Without 0x17 i s) (hp : ∀ c m, i ≠ .por c m) :
    ∃ t, exec i s = .next t ∧ EvuBounded M s.evu t.evu ∧ LinksBounded s.lkc t.lkc ∧ (YieldLaw s → YieldLaw t) := by
  by_cases hg : i = .arbiterGrant
  · obtain ⟨he, hl, hy⟩ := s.arbitrate_kept
    exact ⟨_, by rw [hg]; rfl, he ▸ .refl .., hl ▸ .refl _, hy⟩
  by_cases hr : ∃ m, i = .processorReadEnd m
  · obtain ⟨m, rfl⟩ := hr
    obtain hs | ⟨g, a, hport, ho, hs⟩ := exec_processorReadEnd_cases m s
    · exact ⟨s, hs, .refl .., .refl _, id⟩
    · obtain ⟨he, hl, hfree, hy⟩ := State.processorReadEnd_bounded (M := M) (s.setWaiting []) g m
      have ht := (Bounded.refl M ((s.setWaiting []).processorReadEnd g m)).takeAll s.txi.waiting fun m => (hM m).2.2
      refine ⟨_, hs, he.trans ht.evu, hl.trans ht.lkc, fun hs => ht.yieldLaw ⟨?_, fun g' _ hg' => ?_⟩⟩
      · have h10 := hs.1
        have h8 := hs.2 g a hport
        have heq : (s.setWaiting []).msq = s.msq := rfl
        rw [heq] at hy
        split at hy
        · have := h8 ‹_› ho
          omega
        · omega
      · rw [hfree] at hg'; cases hg'
  · obtain ⟨t, ht, hb⟩ := exec_bounded i s hM hp hg fun m hm => hr ⟨m, hm⟩
    exact ⟨t, ht, hb.evu, hb.lkc, hb.yieldLaw⟩

theorem EvuBounded.countersLaw (h : EvuBounded M s.evu t.evu) (hs : CountersLaw s) : CountersLaw t :=
  ⟨fun i => by have := h.2.1 i; have := hs.1 i; omega, fun k => by have := h.2.2 k; have := hs.2 k; omega⟩

theorem LinksBounded.linkQueuesLaw (h : LinksBounded s.lkc t.lkc) (hs : LinkQueuesLaw s) : LinkQueuesLaw t := by
  have hq (a b : LinkPort) (h : QueuesBounded a b) (ha : a.tx.length ≤ 16 ∧ a.rx.length ≤ 8) :
      b.tx.length ≤ 16 ∧ b.rx.length ≤ 8 := ⟨by have := h.1; omega, by have := h.2; omega⟩
  intro p
  cases p
  · exact hq _ _ h.1 (hs .a)
  · exact hq _ _ h.2 (hs .b)

end Sys2Proof.Machine
end

section
namespace Sys2Proof.Machine

/-! ### What commands other than accesses leave alone -/

/-- A step leaves TXI, the aperture and the settings, and the queue; and it keeps the canonical form of memory. -/
def Outside (s t : State) : Prop :=
  t.txi = s.txi ∧ t.cmi = s.cmi ∧ t.pending = s.pending ∧ (MemoryLaw s → MemoryLaw t)

theorem Outside.refl (s : State) : Outside s s := ⟨rfl, rfl, rfl, id⟩

/-- A step that leaves memory too. -/
theorem Outside.of_frame {s t : State} (ht : t.txi = s.txi) (hc : t.cmi = s.cmi) (hp : t.pending = s.pending)
    (hm : t.mem = s.mem) : Outside s t := ⟨ht, hc, hp, fun h => by unfold MemoryLaw; rw [hm]; exact h⟩

theorem State.readSlot_writeBack_wf (s : State) (g : Group) (m : CellSample) (o : ReadOutcome) (v : Word)
    (h : MemoryLaw s) : memWf ((s.readSlot g.row g.word m).1.writeBack g o v).mem = true := by
  have hr := s.readSlot_wf g.row g.word m h
  unfold State.writeBack
  split
  · exact State.writeRows_wf _ _ _ _ _ hr
  · exact hr

theorem State.readSlot_writeRows_wf (s : State) (g : Group) (m : CellSample) (v : Word) (h : MemoryLaw s) :
    memWf ((s.readSlot g.row g.word m).1.writeRows g.row g.word g.mirror v).mem = true :=
  State.writeRows_wf _ _ _ _ _ (s.readSlot_wf g.row g.word m h)

theorem State.processorReadEnd_wf (s : State) (g : Group) (m : CellSample) (h : MemoryLaw s) :
    MemoryLaw (s.processorReadEnd g m) := by
  unfold MemoryLaw State.processorReadEnd
  simpa using s.readSlot_writeBack_wf g m _ _ h

theorem State.processorWriteEnd_wf (s : State) (g : Group) (v : Word) (m : CellSample) (h : MemoryLaw s) :
    MemoryLaw (s.processorWriteEnd g v m) := by
  unfold MemoryLaw State.processorWriteEnd
  dsimp only
  split
  · simpa using s.readSlot_writeRows_wf g m v h
  · simpa using s.writeRows_wf g.row g.word g.mirror v h

theorem State.partialWriteEnd_wf (s : State) (g : Group) (v : Word) (k : BitVec 4) (m : CellSample)
    (h : MemoryLaw s) : MemoryLaw (s.partialWriteEnd g v k m) := by
  unfold MemoryLaw State.partialWriteEnd
  simpa using s.readSlot_writeRows_wf g m _ h

theorem State.scrubReadEnd_wf (s : State) (g : Group) (i : Fin 32) (w : Nat) (m : CellSample) (h : MemoryLaw s) :
    MemoryLaw (s.scrubReadEnd g i w m) := by
  have hb := s.readSlot_writeBack_wf g m (s.readSlot g.row g.word m).2.1 (s.readSlot g.row g.word m).2.2 h
  unfold MemoryLaw State.scrubReadEnd
  dsimp only
  split <;> simpa using hb

theorem State.auditReadEnd_wf (s : State) (g : Group) (i : Fin 32) (w : Nat) (m : CellSample) (h : MemoryLaw s) :
    MemoryLaw (s.auditReadEnd g i w m) := by
  have hb := s.readSlot_writeBack_wf g m (s.readSlot g.row g.word m).2.1 (s.readSlot g.row g.word m).2.2 h
  unfold MemoryLaw State.auditReadEnd
  dsimp only
  split <;> simpa using hb

theorem State.copyReadEnd_wf (s : State) (g : Group) (m : CellSample) (h : MemoryLaw s) :
    MemoryLaw (s.copyReadEnd g m) := by
  have hb := s.readSlot_writeBack_wf g m (s.readSlot g.row g.word m).2.1 (s.readSlot g.row g.word m).2.2 h
  unfold MemoryLaw State.copyReadEnd
  dsimp only
  split <;> simpa using hb

theorem State.clearWriteEnd_wf (s : State) (g : Group) (i : Fin 32) (w : Nat) (h : MemoryLaw s) :
    MemoryLaw (s.clearWriteEnd g i w) := by
  have hb := s.writeRows_wf g.row g.word g.mirror 0 h
  unfold MemoryLaw State.clearWriteEnd
  dsimp only
  split <;> simpa using hb

theorem State.frameWriteEnd_wf (s : State) (g : Group) (p : Port) (v : Word) (m : CellSample) (h : MemoryLaw s) :
    MemoryLaw (s.frameWriteEnd g p v m) := by
  have hw (x : State) (hx : memWf x.mem = true) : MemoryLaw (if x.groupLive then x.workDone p else x).endGroup := by
    unfold MemoryLaw
    split <;> simpa using hx
  unfold State.frameWriteEnd
  refine hw _ ?_
  split
  · simpa using s.readSlot_writeRows_wf g m v h
  · exact s.writeRows_wf g.row g.word g.mirror v h

theorem State.restoringWriteEnd_wf (s : State) (g : Group) (p : Port) (v : Word) (h : MemoryLaw s) :
    MemoryLaw (s.restoringWriteEnd g p v) := by
  have hb := s.writeRows_wf g.row g.word g.mirror v h
  unfold MemoryLaw State.restoringWriteEnd
  dsimp only
  split <;> simpa using hb

theorem State.rowMoveCopyEnd_wf (s : State) (g : Group) (m : CellSample) (h : MemoryLaw s) :
    MemoryLaw (s.rowMoveCopyEnd g m) := by
  have hb (o : ReadOutcome) (v : Word) : memWf ((s.readSlot g.row g.word m).1.copyToSpare g o v).mem = true := by
    have hr := s.readSlot_wf g.row g.word m h
    unfold State.copyToSpare
    split
    · split
      · exact hr
      · exact State.writeSlot_wf _ _ _ _ hr
    · exact hr
  unfold MemoryLaw State.rowMoveCopyEnd
  dsimp only
  split
  · split <;> simpa using hb _ _
  · simpa using hb _ _

/-- The commands that end a processor's group, after which TXI may take the accesses that wait. -/
def endsProcessorGroup : Instr → Prop
  | .processorReadEnd _ => True
  | .processorWriteEnd _ => True
  | .partialWriteEnd _ => True
  | _ => False

/-- A command that presents no access, is not POR and ends no processor group. -/
theorem exec_outside (i : Instr) (s : State) (ha : accessOf i = none) (hp : ∀ c m, i ≠ .por c m)
    (he : ¬ endsProcessorGroup i) : ∃ t, exec i s = .next t ∧ Outside s t := by
  cases i
  case por c m => exact absurd rfl (hp c m)
  case processorReadEnd m => exact absurd trivial he
  case processorWriteEnd m => exact absurd trivial he
  case partialWriteEnd m => exact absurd trivial he
  case processorTransaction tr => exact ⟨s, (exec_of_malformed s).1 tr ha, .refl s⟩
  case apertureWordWrite k v => exact ⟨s, (exec_of_malformed s).2.1 k v ha, .refl s⟩
  case unknownCommand code => exact ⟨s, (exec_of_malformed s).2.2 code ha, .refl s⟩
  case scrubReadEnd m =>
    obtain hs | ⟨g, _, _, _, -, -, hs⟩ := exec_scrubReadEnd_cases m s
    · exact ⟨s, hs, .refl s⟩
    · exact ⟨_, hs, by simp, by simp, by simp, s.scrubReadEnd_wf _ _ _ _⟩
  case auditReadEnd m =>
    obtain hs | ⟨g, _, _, _, -, -, hs⟩ := exec_auditReadEnd_cases m s
    · exact ⟨s, hs, .refl s⟩
    · exact ⟨_, hs, by simp, by simp, by simp, s.auditReadEnd_wf _ _ _ _⟩
  case clearWriteEnd =>
    obtain hs | ⟨g, _, _, _, -, -, hs⟩ := exec_clearWriteEnd_cases s
    · exact ⟨s, hs, .refl s⟩
    · exact ⟨_, hs, by simp, by simp, by simp, s.clearWriteEnd_wf _ _ _⟩
  case copyReadEnd m =>
    obtain hs | ⟨g, _, -, -, hs⟩ := exec_copyReadEnd_cases m s
    · exact ⟨s, hs, .refl s⟩
    · exact ⟨_, hs, by simp, by simp, by simp, s.copyReadEnd_wf _ _⟩
  case frameWriteEnd m =>
    obtain hs | ⟨g, _, _, _, -, -, hs⟩ := exec_frameWriteEnd_cases m s
    · exact ⟨s, hs, .refl s⟩
    · exact ⟨_, hs, by simp, by simp, by simp, s.frameWriteEnd_wf _ _ _ _⟩
  case restoringWriteEnd =>
    obtain hs | ⟨g, _, _, _, -, -, hs⟩ := exec_restoringWriteEnd_cases s
    · exact ⟨s, hs, .refl s⟩
    · exact ⟨_, hs, by simp, by simp, by simp, s.restoringWriteEnd_wf _ _ _⟩
  case rowMoveCopyEnd m =>
    obtain hs | ⟨g, _, -, -, hs⟩ := exec_rowMoveCopyEnd_cases m s
    · exact ⟨s, hs, .refl s⟩
    · exact ⟨_, hs, by simp, by simp, by simp, s.rowMoveCopyEnd_wf _ _⟩
  all_goals first | (cases ha; done) | refine ⟨_, rfl, ?_⟩
  case arbiterGrant => exact .of_frame (by simp) (by simp) (by simp) (by simp)
  all_goals repeat' split
  case idleFrameSend.isTrue p _ => unfold State.sendIdle; exact .of_frame (by simp) (by simp) (by simp) (by simp)
  all_goals exact .of_frame (by simp) (by simp) (by simp) (by simp)


/-! ### The settings (R177, R178) -/

/-- An enumerated setting lies in its range whatever it is. -/
theorem Settings.enumerated_range (c : Settings) :
    (∀ l, (c.style l).code ≤ 1) ∧ (∀ i : Fin 24, c.route[i].code ≤ 3) ∧ ∀ k : Fin 4, c.captureMode[k].code ≤ 1 := by
  refine ⟨fun l => ?_, fun i => ?_, fun k => ?_⟩
  · cases c.style l <;> simp [LineStyle.code]
  · cases c.route[i] <;> simp [Route.code]
  · cases c.captureMode[k] <;> simp [CaptureMode.code]

/-- The ranges that a stored number can leave: those of the nine numeric settings. -/
def NumbersInRange (c : Settings) : Prop :=
  c.scrubRate ≤ 64 ∧ (1 ≤ c.coverLimit ∧ c.coverLimit ≤ 3600) ∧ (1 ≤ c.sourceRate ∧ c.sourceRate ≤ 64) ∧
    (10 ≤ c.cycleLimit ∧ c.cycleLimit ≤ 5000) ∧ (2 ≤ c.voteDeadline ∧ c.voteDeadline ≤ c.cycleLimit / 2) ∧
    (2 ≤ c.syncLimit ∧ c.syncLimit ≤ 64) ∧ c.agePeriod ≤ 255 ∧ (2 ≤ c.weakLimit ∧ c.weakLimit ≤ 15) ∧ c.noticeGap ≤ 255

theorem settingsLaw_iff (s : State) : SettingsLaw s ↔ NumbersInRange s.cmi.settings := by
  obtain ⟨hstyle, hroute, hmode⟩ := s.cmi.settings.enumerated_range
  constructor
  · intro h
    exact ⟨(h .scrubRate).2, h .coverLimit, h .sourceRate, h .cycleLimit, h .voteDeadline, h .syncLimit,
      (h .agePeriod).2, h .weakLimit, (h .noticeGap).2⟩
  · rintro ⟨h1, h2, h3, h4, h5, h6, h7, h8, h9⟩ st
    cases st with
    | scrubRate => exact ⟨Nat.zero_le _, h1⟩
    | coverLimit => exact h2
    | sourceRate => exact h3
    | cycleLimit => exact h4
    | voteDeadline => exact h5
    | syncLimit => exact h6
    | agePeriod => exact ⟨Nat.zero_le _, h7⟩
    | weakLimit => exact h8
    | noticeGap => exact ⟨Nat.zero_le _, h9⟩
    | style l => exact ⟨Nat.zero_le _, hstyle l⟩
    | route i => exact ⟨Nat.zero_le _, hroute i⟩
    | captureMode k => exact ⟨Nat.zero_le _, hmode k.index⟩

/-- A clamped value put into a setting keeps every range; CYCLE_LIMIT re-clamps VOTE_DEADLINE (R178). -/
theorem NumbersInRange.put {c : Settings} (h : NumbersInRange c) (st : Setting) (v : Nat) :
    NumbersInRange (c.put st (c.clamp st v)) := by
  have hin (hr : st.lower ≤ st.upper c) : st.lower ≤ c.clamp st v ∧ c.clamp st v ≤ st.upper c := by
    unfold Settings.clamp
    split
    · exact ⟨Nat.le_refl _, hr⟩
    · split
      · exact ⟨hr, Nat.le_refl _⟩
      · omega
  unfold NumbersInRange at *
  cases st
  case style l => cases l <;> exact h
  case route i => exact h
  case captureMode k => exact h
  all_goals
    simp only [Setting.lower, Setting.upper] at hin
    simp only [Settings.put]
    omega

/-- The effects of a new value leave the settings as stored. -/
theorem State.storeSetting_settings (s : State) (st : Setting) (v : Nat) :
    (s.storeSetting st v).cmi.settings = s.cmi.settings.put st v := by
  unfold State.storeSetting
  dsimp only
  split
  · rename_i h; exact h.symm
  · simp

theorem State.carryOut_settings {s : State} (h : NumbersInRange s.cmi.settings) :
    NumbersInRange s.carryOut.cmi.settings := by
  unfold State.carryOut
  split
  case h_2 =>
    unfold State.cmdSettingsWrite State.acceptedIn State.notNow
    split
    · exact h
    · split
      · dsimp only
        rw [(State.answer_frame ..).2.2.2.2.2.2.2.2.2.2.2.2.2.2.1, State.storeSetting_settings]
        exact h.put _ _
      · exact h
  all_goals simpa using h

theorem State.writeWord_settings {s : State} (i : Nat) (v : Word) (h : NumbersInRange s.cmi.settings) :
    NumbersInRange (s.writeWord i v).cmi.settings := by
  unfold State.writeWord
  split
  · exact State.carryOut_settings h
  · split
    · exact h
    · exact h

theorem State.writeWords_settings {s : State} (i : Nat) (vs : List Word) (h : NumbersInRange s.cmi.settings) :
    NumbersInRange (s.writeWords i vs).cmi.settings := by
  induction vs generalizing s i with
  | nil => exact h
  | cons v vs ih => exact ih _ (State.writeWord_settings i v h)

theorem State.take_settings {s : State} (a : Access) (h : NumbersInRange s.cmi.settings) :
    NumbersInRange (s.take a).cmi.settings := by
  cases a with
  | transaction tr =>
    simp only [State.take, State.transaction]
    split
    · simpa using h
    · unfold State.aperture
      split
      · exact h
      · split
        · exact h
        · exact State.writeWords_settings _ _ h
    · simpa using h
  | word i v => exact State.writeWord_settings _ _ h
  | command code ps => exact State.carryOut_settings (State.writeWords_settings (s := s) 1 ps h)

theorem State.takeAll_settings {s : State} (as : List Access) (h : NumbersInRange s.cmi.settings) :
    NumbersInRange (s.takeAll as).cmi.settings := by
  induction as generalizing s with
  | nil => exact h
  | cons a as ih =>
    unfold State.takeAll
    split
    · exact h
    · refine ih ?_
      unfold State.takeNext
      dsimp only
      split <;> exact State.take_settings a h

/-! ### The laws through a step -/

/-- The end of a processor group takes none of the accesses that wait. -/
@[simp] theorem State.processorEnd_waiting (s : State) (g : Group) (m : CellSample) :
    (s.processorReadEnd g m).txi.waiting = s.txi.waiting ∧
      (∀ v, (s.processorWriteEnd g v m).txi.waiting = s.txi.waiting) ∧
      ∀ v k, (s.partialWriteEnd g v k m).txi.waiting = s.txi.waiting := by
  refine ⟨by simp [State.processorReadEnd], fun v => ?_, fun v k => by simp [State.partialWriteEnd]⟩
  unfold State.processorWriteEnd
  dsimp only
  split <;> simp

/-- The three commands that end a processor group. -/
theorem exec_processorEnd (i : Instr) (s : State) (he : endsProcessorGroup i) : ∃ t, exec i s = .next t ∧
    (t = s ∨ ∃ f : State → State, t = s.thenTake f ∧ (∀ x, (f x).cmi = x.cmi ∧ (f x).txi.waiting = x.txi.waiting ∧
      (f x).pending = x.pending) ∧ ∀ x, MemoryLaw x → MemoryLaw (f x)) := by
  cases i
  case processorReadEnd m =>
    obtain hs | ⟨g, a, -, -, hs⟩ := exec_processorReadEnd_cases m s
    · exact ⟨s, hs, .inl rfl⟩
    · exact ⟨_, hs, .inr ⟨_, rfl, fun x => by simp, fun x => x.processorReadEnd_wf _ _⟩⟩
  case processorWriteEnd m =>
    obtain hs | ⟨g, a, v, -, -, hs⟩ := exec_processorWriteEnd_cases m s
    · exact ⟨s, hs, .inl rfl⟩
    · exact ⟨_, hs, .inr ⟨_, rfl, fun x => by simp, fun x => x.processorWriteEnd_wf _ _ _⟩⟩
  case partialWriteEnd m =>
    obtain hs | ⟨g, a, v, k, -, -, hs⟩ := exec_partialWriteEnd_cases m s
    · exact ⟨s, hs, .inl rfl⟩
    · exact ⟨_, hs, .inr ⟨_, rfl, fun x => by simp, fun x => x.partialWriteEnd_wf _ _ _ _⟩⟩
  all_goals exact he.elim

/-- The queue, memory, the settings and the bus through every command (R9, R177). -/
theorem exec_kept_rest (i : Instr) (s : State) (hp : ∀ c m, i ≠ .por c m) :
    ∃ t, exec i s = .next t ∧ t.pending = s.pending ∧ (MemoryLaw s → MemoryLaw t) ∧ (SettingsLaw s → SettingsLaw t) ∧
      (BusLaw s → BusLaw t) := by
  simp only [settingsLaw_iff]
  cases ha : accessOf i with
  | some a =>
    refine ⟨_, exec_of_access i a s ha, ?_⟩
    split
    · rename_i hh
      exact ⟨rfl, id, id, fun _ hn => by rw [State.setWaiting_held] at hn; rw [hn] at hh; cases hh⟩
    · rename_i hh
      have hn : s.txi.held = none := by simpa using hh
      refine ⟨by simp, fun hm => ?_, State.take_settings a, fun hb _ => ?_⟩
      · unfold MemoryLaw; rw [(s.take_frame a).2.2.2.1]; exact hm
      · rw [(s.take_frame a).2.2.1]; exact hb hn
  | none =>
    by_cases he : endsProcessorGroup i
    · obtain ⟨t, ht, rfl | ⟨f, rfl, hf, hm⟩⟩ := exec_processorEnd i s he
      · exact ⟨t, ht, rfl, id, id, id⟩
      · obtain ⟨hc, hw, hq⟩ := hf (s.setWaiting [])
        refine ⟨_, ht, (State.takeAll_frame ..).2.2.2.trans hq, fun h => ?_, fun h => ?_, fun _ => ?_⟩
        · have hx := hm (s.setWaiting []) h
          unfold MemoryLaw State.thenTake
          rw [(State.takeAll_frame ..).2.2.1]
          exact hx
        · exact State.takeAll_settings _ (hc ▸ h)
        · exact State.takeAll_bus _ _ hw
    · obtain ⟨t, ht, htxi, hcmi, hq, hm⟩ := exec_outside i s ha hp he
      exact ⟨t, ht, hq, hm, fun h => hcmi ▸ h, fun h => by unfold BusLaw; rw [htxi]; exact h⟩

/-- What POR leaves keeps each of these laws. -/
theorem afterPor_bounds (c m : BitVec 2) (p : List Instr) :
    let t := State.afterPor c m p
    CountersLaw t ∧ LinkQueuesLaw t ∧ MemoryLaw t ∧ YieldLaw t ∧ SettingsLaw t ∧ BusLaw t := by
  refine ⟨⟨fun i => ?_, fun k => ?_⟩, fun q => ?_, rfl, ⟨Nat.zero_le _, fun g a hg => by cases hg⟩, ?_, fun _ => rfl⟩
  · show (Vector.replicate 16 0)[i] ≤ _
    simp
  · cases k <;> exact Nat.zero_le _
  · cases q <;> exact ⟨Nat.zero_le _, Nat.zero_le _⟩
  · rw [settingsLaw_iff]
    simp [NumbersInRange, State.afterPor, Settings.initial]

/-- A law that POR establishes and every other command keeps is kept by a step. -/
theorem law_kept_by_step {L : State → Prop} (hq : ∀ s cs, L s → L (s.withPending cs))
    (hpor : ∀ c m p, L (State.afterPor c m p))
    (hexec : ∀ i s, (∀ c m, i ≠ .por c m) → ∃ t, exec i s = .next t ∧ (L s → L t)) :
    ∀ s t, L s → step s = .next t → L t := by
  intro s t hs ht
  unfold step at ht
  split at ht
  · cases ht; exact hs
  · rename_i c cs _
    by_cases hp : ∃ x m, c = .por x m
    · obtain ⟨x, m, rfl⟩ := hp
      cases ht
      exact hpor _ _ _
    · obtain ⟨u, hu, hl⟩ := hexec c (s.withPending cs) fun x m h => hp ⟨x, m, h⟩
      rw [hu] at ht
      cases ht
      exact hl (hq _ _ hs)

/-- Settles O6: the bounds are said once of every operation (`Bounded`), and each law follows from what a command keeps. -/
theorem stepKeepsBounds : Obligations.StepKeepsBounds := by
  have hk (i : Instr) (s : State) (hp : ∀ c m, i ≠ .por c m) := exec_kept (M := False) i s False.elim hp
  refine ⟨law_kept_by_step (fun _ _ => id) (fun c m p => (afterPor_bounds c m p).1) fun i s hp => ?_,
    law_kept_by_step (fun _ _ => id) (fun c m p => (afterPor_bounds c m p).2.1) fun i s hp => ?_,
    law_kept_by_step (fun _ _ => id) (fun c m p => (afterPor_bounds c m p).2.2.1) fun i s hp => ?_,
    law_kept_by_step (fun _ _ => id) (fun c m p => (afterPor_bounds c m p).2.2.2.1) fun i s hp => ?_,
    law_kept_by_step (fun _ _ => id) (fun c m p => (afterPor_bounds c m p).2.2.2.2.1) fun i s hp => ?_,
    law_kept_by_step (fun _ _ => id) (fun c m p => (afterPor_bounds c m p).2.2.2.2.2) fun i s hp => ?_,
    fun i s t hw ht => ?_⟩
  · obtain ⟨t, ht, he, -, -⟩ := hk i s hp
    exact ⟨t, ht, he.countersLaw⟩
  · obtain ⟨t, ht, -, hl, -⟩ := hk i s hp
    exact ⟨t, ht, hl.linkQueuesLaw⟩
  · obtain ⟨t, ht, -, hm, -⟩ := exec_kept_rest i s hp
    exact ⟨t, ht, hm⟩
  · obtain ⟨t, ht, -, -, hy⟩ := hk i s hp
    exact ⟨t, ht, hy⟩
  · obtain ⟨t, ht, -, -, hc, -⟩ := exec_kept_rest i s hp
    exact ⟨t, ht, hc⟩
  · obtain ⟨t, ht, -, -, -, hb⟩ := exec_kept_rest i s hp
    exact ⟨t, ht, hb⟩
  · obtain ⟨u, hu, he, -⟩ := exec_kept (M := True) i s (fun _ => hw) hw.1
    rw [hu] at ht
    cases ht
    exact he.1 trivial

/-- Settles O2: a command other than POR answers by `exec_kept_rest`, POR with the values it leaves. -/
theorem everyCommandCompletes : Obligations.EveryCommandCompletes := by
  intro i s
  by_cases hp : ∃ c m, i = .por c m
  · obtain ⟨c, m, rfl⟩ := hp
    exact ⟨_, rfl, rfl⟩
  · obtain ⟨t, ht, hq, -⟩ := exec_kept_rest i s fun c m h => hp ⟨c, m, h⟩
    exact ⟨t, ht, hq⟩

end Sys2Proof.Machine
end

section
/-! Processor transactions (Tables 1.4 to 1.6): each check of admission in the words of the statements, and what a refused, a
held and an aperture transaction leave. -/

namespace Sys2Proof.Machine

/-! ### The checks -/

theorem burstMasksFull_iff (tr : Transaction) : burstMasksFull tr = true ↔ MasksFull tr := by
  cases tr with
  | read a n => simp [burstMasksFull, MasksFull]
  | write a ws =>
    simp only [burstMasksFull, MasksFull, fullMask, Transaction.write.injEq, Bool.or_eq_true, decide_eq_true_eq,
      List.all_eq_true, beq_iff_eq]
    constructor
    · rintro h _ _ ⟨rfl, rfl⟩ h2
      exact h.resolve_left (by omega)
    · intro h
      by_cases h1 : ws.length ≤ 1
      · exact .inl h1
      · exact .inr (h a ws ⟨rfl, rfl⟩ (by omega))

theorem singleMaskWhole_iff (tr : Transaction) : singleMaskWhole tr = true ↔ MaskWhole tr := by
  unfold singleMaskWhole MaskWhole
  split
  · rename_i a w
    simp [fullMask, emptyMask]
  · rename_i hn
    simp only [true_iff]
    intro a w h
    exact absurd h (hn a w)

theorem matrixAllows_iff (m : Mode) (c : RegionClass) (w : Bool) : matrixAllows m c w = true ↔ TableAllows m c w := by
  unfold TableAllows
  cases m <;> cases c <;> simp [matrixAllows]

theorem State.touchesListed_iff (s : State) (c : RegionClass) (tr : Transaction) :
    s.touchesListed c tr = true ↔ TouchesListed s c tr := by
  unfold State.touchesListed TouchesListed blockOf txnWordAddress Config.blockBytes
  simp only [Bool.and_eq_true, beq_iff_eq, Bool.not_eq_true', List.any_eq_true, List.mem_range, decide_eq_true_eq]
  tauto

theorem Region.contains_iff (r : Region) (a : Nat) :
    r.contains a = true ↔ r.base ≤ a ∧ a < r.base + r.length * 4096 := by
  unfold Region.contains Region.finish Config.blockBytes
  exact decide_eq_true_iff

/-- The region found for an address contains it. -/
theorem State.findRegion_belongs (s : State) (a : Nat) (i : Fin 32) (r : Region) (h : BelongsTo s a i r) :
    s.findRegion a = some i := by
  obtain ⟨hi, hc, hu⟩ := h
  have hj (j : Fin 32) (hj : (s.region j).any (·.contains a) = true) : j = i := by
    cases hq : s.region j with
    | none => rw [hq] at hj; cases hj
    | some q =>
      rw [hq, Option.any_some, Region.contains_iff] at hj
      exact hu j q hq hj.1 hj.2
  unfold State.findRegion
  cases hf : allRegions.find? (fun i => (s.region i).any (·.contains a)) with
  | some j => rw [hj j (List.find?_some (p := fun i => (s.region i).any (·.contains a)) hf)]
  | none =>
    have := List.find?_eq_none.1 hf i (List.mem_finRange i)
    rw [hi, Option.any_some, Region.contains_iff] at this
    exact absurd hc this

theorem State.findRegion_none (s : State) (a : Nat)
    (h : ∀ i r, s.region i = some r → ¬ (r.base ≤ a ∧ a < r.base + r.length * 4096)) : s.findRegion a = none := by
  unfold State.findRegion
  rw [List.find?_eq_none]
  intro i _
  cases hi : s.region i with
  | none => simp
  | some r =>
    rw [Option.any_some, Region.contains_iff]
    exact h i r hi

/-- A burst stays in its region where its last word does. -/
theorem Region.holdsBurst_of_le (r : Region) (tr : Transaction) (h1 : r.base ≤ txnAddress tr)
    (h2 : txnAddress tr + 4 * txnLength tr ≤ r.base + r.length * 4096) : r.holdsBurst tr = true := by
  unfold Region.holdsBurst txnWordAddress
  rw [List.all_eq_true]
  intro k hk
  rw [List.mem_range] at hk
  rw [Region.contains_iff]
  omega

/-- An aligned burst that reaches past its region's end has a word beyond it. -/
theorem Region.holdsBurst_of_lt (r : Region) (tr : Transaction) (hl : 1 ≤ txnLength tr) (ha : txnAddress tr % 4 = 0)
    (hb : r.base % 4 = 0) (h2 : r.base + r.length * 4096 < txnAddress tr + 4 * txnLength tr) :
    r.holdsBurst tr = false := by
  unfold Region.holdsBurst txnWordAddress
  rw [List.all_eq_false]
  refine ⟨txnLength tr - 1, List.mem_range.2 (by omega), ?_⟩
  rw [Region.contains_iff]
  omega

theorem txnLength_of_wellFormed (tr : Transaction) (h : tr.wellFormed = true) :
    1 ≤ txnLength tr ∧ txnLength tr ≤ 8 := by
  cases tr <;> simpa [Transaction.wellFormed, txnLength] using h

/-! ### Admission, space by space -/

/-- Checks 1 and 2 passed, an aperture or unused-aperture transaction meets checks 3 to 5 (Table 1.4). -/
theorem State.admission_of_high (s : State) (tr : Transaction) (h4 : txnAddress tr % 4 = 0) (hm : MasksFull tr)
    (ha : 0x0FFFF000 ≤ txnAddress tr) : s.admission tr = admitAperture tr := by
  have hs : spaceOf (txnAddress tr) ≠ .memory := by
    unfold spaceOf apertureBase
    split
    · omega
    · split <;> simp
  unfold State.admission
  rw [if_neg (by omega), if_neg (by simp [(burstMasksFull_iff tr).2 hm])]
  split
  · contradiction
  · rfl

/-- Checks 1 and 2 passed, a memory transaction meets checks 6 to 9. -/
theorem State.admission_of_low (s : State) (tr : Transaction) (h4 : txnAddress tr % 4 = 0) (hm : MasksFull tr)
    (ha : txnAddress tr < 0x0FFFF000) : s.admission tr = s.admitMemory tr := by
  unfold State.admission spaceOf apertureBase
  rw [if_neg (by omega), if_neg (by simp [(burstMasksFull_iff tr).2 hm]), if_pos ha]

/-- Checks 7 to 9 of a transaction that belongs to a region. -/
theorem State.admitMemory_belongs (s : State) (tr : Transaction) (i : Fin 32) (r : Region)
    (h : BelongsTo s (txnAddress tr) i r) : s.admitMemory tr =
      (if !r.holdsBurst tr then .refused .regionCrossing
      else if !matrixAllows s.mdc.mode r.cls (txnWrites tr) then .refused .modeClass
      else if s.touchesListed r.cls tr then .refused .repairBlock
      else .memory i r.cls) := by
  unfold State.admitMemory
  rw [s.findRegion_belongs _ i r h]
  dsimp only
  rw [h.1]

/-! ### Refusal -/

theorem State.refuse_effects (s : State) (tr : Transaction) (d : AccessDetail) :
    Fired s (s.refuse tr d) [.accessRefused] ∧ Counted s (s.refuse tr d) [.refused] ∧
      Captured s (s.refuse tr d) .access .p (some (txnAddress tr)) (.access d) := by
  have he : (s.refuse tr d).evu = (((s.fire .accessRefused).count .refused).offerCapture .access .p
      (some (txnAddress tr)) (.access d)).evu := rfl
  refine ⟨fun ev => ?_, fun c => ?_, ?_, ?_, fun k hk => ?_⟩
  · unfold FlagSet
    rw [he, (State.offerCapture_evu ..).1, (State.count_evu ..).1, State.fire_flag]
    simp
  · rw [he]
    simp
  · rw [he, State.offerCapture_capture, if_pos rfl, (State.count_evu ..).2.2.2.2, (State.fire_evu ..).2.2]
    simp [Capture.offered]
  · rw [he, State.offerCapture_capture, if_pos rfl, (State.count_evu ..).2.2.2.2, (State.fire_evu ..).2.2]
    simp only [Capture.offered, Config.repeatTop]
    rfl
  · rw [he, State.offerCapture_capture, if_neg hk, (State.count_evu ..).2.2.2.2, (State.fire_evu ..).2.2]

/-- A well-formed transaction on a free bus is taken at once. -/
theorem exec_transaction_free (s : State) (tr : Transaction) (hw : tr.wellFormed = true) (hb : BusFree s) :
    exec (.processorTransaction tr) s = .next (s.transaction tr) :=
  exec_eq_take _ (.transaction tr) s (if_pos hw) hb.1

/-- An answer given on a free bus is all that TXI then holds. -/
theorem BusFree.respondTxi {s : State} (hb : BusFree s) (st : ResponseStatus) (d : List Word) :
    (s.respondTxi st d).txi = { held := none, response := some { status := st, data := d } } := by
  unfold State.respondTxi
  dsimp only
  rw [hb.1, hb.2]

/-- A transaction that admission refuses is refused as R15 lays down. -/
theorem refusedAs_of_admission (s : State) (tr : Transaction) (d : AccessDetail) (hw : tr.wellFormed = true)
    (hb : BusFree s) (ha : s.admission tr = .refused d) : RefusedAs s tr d := by
  obtain ⟨hf, hc, hk⟩ := s.refuse_effects tr d
  refine ⟨s.refuse tr d, ?_, hf, hc, hk, BusFree.respondTxi hb _ _, rfl⟩
  rw [exec_transaction_free s tr hw hb]
  unfold State.transaction
  rw [ha]

/-- Settles O17: each check is that of the model in the statement's words, and a failed one refuses. -/
theorem checksRefuseInOrder : Obligations.ChecksRefuseInOrder := by
  intro s tr hw hb
  obtain ⟨hl1, hl8⟩ := txnLength_of_wellFormed tr hw
  have hr (d : AccessDetail) := refusedAs_of_admission s tr d hw hb
  refine ⟨fun h4 => hr _ ?_, fun h4 hm => hr _ ?_, fun h4 hm => ⟨fun ha => hr _ ?_, fun ha ha' => ⟨fun hc => hr _ ?_,
    fun hc hp => hr _ ?_⟩, fun ha => ⟨fun hn => hr _ ?_, fun i r hi => ⟨fun hc hb4 => hr _ ?_, fun hc => ⟨fun ht => hr _ ?_,
    fun ht hlist => hr _ ?_⟩⟩⟩⟩⟩
  · unfold State.admission; rw [if_pos h4]
  · unfold State.admission
    rw [if_neg (by omega), if_pos (by simpa using fun h => hm ((burstMasksFull_iff tr).1 h))]
  · rw [s.admission_of_high tr h4 hm (by omega)]
    unfold admitAperture apertureEnd
    rw [if_pos ha]
  · rw [s.admission_of_high tr h4 hm ha]
    unfold admitAperture apertureEnd txnWordAddress
    rw [if_neg (by omega), if_pos hc]
  · rw [s.admission_of_high tr h4 hm ha]
    unfold admitAperture apertureEnd txnWordAddress
    rw [if_neg (by omega), if_neg (by omega), if_pos (by simpa using fun h => hp ((singleMaskWhole_iff tr).1 h))]
  · rw [s.admission_of_low tr h4 hm ha]
    unfold State.admitMemory
    rw [s.findRegion_none _ hn]
  all_goals rw [s.admission_of_low tr h4 hm ha, s.admitMemory_belongs tr i r hi]
  · rw [r.holdsBurst_of_lt tr hl1 h4 hb4 hc]; rfl
  all_goals rw [r.holdsBurst_of_le tr hi.2.1.1 hc]
  · rw [← matrixAllows_iff, Bool.not_eq_true] at ht
    rw [ht]; rfl
  · rw [(matrixAllows_iff _ _ _).2 ht, (s.touchesListed_iff _ _).2 hlist]; rfl

end Sys2Proof.Machine
end

section
/-! A memory transaction that TXI holds (O18), and the words of the aperture read and written one by one or in a burst
(O19, O14). -/

namespace Sys2Proof.Machine

/-! ### A transaction that passes every check -/

theorem writesNothing_iff (tr : Transaction) : writesNothing tr = true ↔ ∃ a w, tr = .write a [(w, 0)] := by
  unfold writesNothing emptyMask
  constructor
  · intro h
    split at h
    · rename_i a x
      exact ⟨a, x.1, by rw [← eq_of_beq h]⟩
    · cases h
  · rintro ⟨a, w, rfl⟩
    rfl

theorem State.admission_memory (s : State) (tr : Transaction) (i : Fin 32) (r : Region) (h4 : txnAddress tr % 4 = 0)
    (hm : MasksFull tr) (ha : txnAddress tr < 0x0FFFF000) (hb : BelongsTo s (txnAddress tr) i r)
    (hc : txnAddress tr + 4 * txnLength tr ≤ r.base + r.length * 4096)
    (ht : TableAllows s.mdc.mode r.cls (txnWrites tr)) (hl : ¬ TouchesListed s r.cls tr) :
    s.admission tr = .memory i r.cls := by
  rw [← s.touchesListed_iff, Bool.not_eq_true] at hl
  rw [s.admission_of_low tr h4 hm ha, s.admitMemory_belongs tr i r hb, r.holdsBurst_of_le tr hb.2.1.1 hc,
    (matrixAllows_iff _ _ _).2 ht, hl]
  rfl

/-- The transaction as TXI takes it into its holding register (R17). -/
theorem State.hold_of_writes (s : State) (tr : Transaction) (i : Fin 32) (cls : RegionClass)
    (h : writesNothing tr = false) :
    s.hold tr i cls = { s with txi := { s.txi with held := some (heldOf tr i cls) } } := by
  unfold State.hold
  rw [h]
  rfl

theorem exec_processorReadEnd_of {s : State} {g : Group} {a : Nat} (m : CellSample) (hp : s.msq.port = some g)
    (ho : g.op = .pRead a) :
    exec (.processorReadEnd m) s = .next (s.thenTake (State.processorReadEnd · g m)) := by
  simp only [exec, execProcessorReadEnd, hp, ho]

theorem exec_processorWriteEnd_of {s : State} {g : Group} {a : Nat} {v : Word} (m : CellSample)
    (hp : s.msq.port = some g) (ho : g.op = .pWrite a v) :
    exec (.processorWriteEnd m) s = .next (s.thenTake (State.processorWriteEnd · g v m)) := by
  simp only [exec, execProcessorWriteEnd, hp, ho]

theorem exec_partialWriteEnd_of {s : State} {g : Group} {a : Nat} {v : Word} {k : BitVec 4} (m : CellSample)
    (hp : s.msq.port = some g) (ho : g.op = .pPartial a v k) :
    exec (.partialWriteEnd m) s = .next (s.thenTake (State.partialWriteEnd · g v k m)) := by
  simp only [exec, execPartialWriteEnd, hp, ho]

/-- A group end takes the accesses that wait once the same end with none waiting is done (R9). -/
theorem takenInOrder_of_thenTake {i : Instr} {s : State} {cs : List Instr} {f : State → State}
    (hf : ∀ w, exec i (s.setWaiting w) = .next ((s.setWaiting w).thenTake f))
    (hcs : cs.map accessOf = s.txi.waiting.map some) :
    ∃ u t, exec i (s.setWaiting []) = .next u ∧ exec i s = .next t ∧ TakenInOrder cs u t :=
  ⟨_, _, (hf []).trans (congrArg _ (State.thenTake_none _ _ rfl)), hf s.txi.waiting,
    State.takeAll_inOrder cs _ _ hcs⟩

/-- Settles O18: admission leads to TXI's register, and the accesses that wait are taken behind the group's end. -/
theorem passingTransactionIsHeld : Obligations.PassingTransactionIsHeld := by
  refine ⟨fun s tr i r hw hb h4 hm ha hi hc ht hl => ?_, fun s h i a hh ha => exec_of_held i a s h ha hh, ?_⟩
  · have he : exec (.processorTransaction tr) s = .next (s.hold tr i r.cls) := by
      rw [exec_transaction_free s tr hw hb]
      unfold State.transaction
      rw [s.admission_memory tr i r h4 hm ha hi hc ht hl]
    refine ⟨_, he, ?_⟩
    cases hn : writesNothing tr with
    | true =>
      obtain ⟨a', w, rfl⟩ := (writesNothing_iff tr).1 hn
      refine ⟨rfl, hb.2, ?_, ?_, fun _ _ _ => BusFree.respondTxi hb _ _⟩
      · rintro _ _ ⟨⟩
      · rintro _ _ ⟨⟩ h
        exact absurd rfl (h w)
    | false =>
      rw [s.hold_of_writes tr i r.cls hn]
      refine ⟨rfl, hb.2, ?_, ?_, ?_⟩
      · rintro a n rfl
        rfl
      · rintro a ws rfl -
        rfl
      · rintro a w rfl
        cases hn
  · intro s g i m cs hp hcs hop
    obtain ⟨rfl, a, ho⟩ | ⟨rfl, a, v, ho⟩ | ⟨rfl, a, v, k, ho⟩ := hop
    · exact takenInOrder_of_thenTake (fun _ => exec_processorReadEnd_of m hp ho) hcs
    · exact takenInOrder_of_thenTake (fun _ => exec_processorWriteEnd_of m hp ho) hcs
    · exact takenInOrder_of_thenTake (fun _ => exec_partialWriteEnd_of m hp ho) hcs

/-! ### Aperture transactions -/

/-- The address of an aperture word. -/
theorem apertureAddress_toNat (k : Nat) (h : k < 16) :
    (0x0FFFF000 + 4 * BitVec.ofNat 28 k).toNat = 0x0FFFF000 + 4 * k := by
  have hk : (BitVec.ofNat 28 k).toNat = k := Nat.mod_eq_of_lt (by omega)
  generalize BitVec.ofNat 28 k = x at hk ⊢
  bv_omega

theorem apertureIndex_of (tr : Transaction) (k : Nat) (h : txnAddress tr = 0x0FFFF000 + 4 * k) :
    apertureIndex tr = k := by
  unfold apertureIndex apertureBase
  omega

/-- A transaction inside the aperture passes checks 1 to 5 (Table 1.5). -/
theorem State.admission_inside (s : State) (tr : Transaction) (k : Nat) (ha : txnAddress tr = 0x0FFFF000 + 4 * k)
    (hl : 1 ≤ txnLength tr) (hk : k + txnLength tr ≤ 16) (hm : MasksFull tr) (hp : MaskWhole tr) :
    s.admission tr = .aperture := by
  rw [s.admission_of_high tr (by omega) hm (by omega)]
  unfold admitAperture apertureEnd txnWordAddress
  rw [if_neg (by omega), if_neg (by omega), if_neg (by simpa using (singleMaskWhole_iff tr).2 hp)]

/-- The same on a free bus: CMI takes the words (R11). -/
theorem exec_aperture (s : State) (tr : Transaction) (k : Nat) (hb : BusFree s) (hw : tr.wellFormed = true)
    (ha : txnAddress tr = 0x0FFFF000 + 4 * k) (hk : k + txnLength tr ≤ 16) (hm : MasksFull tr) (hp : MaskWhole tr) :
    exec (.processorTransaction tr) s = .next (s.aperture tr) := by
  rw [exec_transaction_free s tr hw hb]
  unfold State.transaction
  rw [s.admission_inside tr k ha (txnLength_of_wellFormed tr hw).1 hk hm hp]

theorem exec_aperture_read (s : State) (k n : Nat) (hb : BusFree s) (h1 : 1 ≤ n) (h8 : n ≤ 8) (hk : k + n ≤ 16) :
    exec (.processorTransaction (.read (0x0FFFF000 + 4 * BitVec.ofNat 28 k) n)) s =
      .next (s.respondTxi .okay ((List.range n).map (fun j => s.apertureWord (k + j)))) := by
  have ha := apertureAddress_toNat k (by omega)
  rw [exec_aperture s (.read (0x0FFFF000 + 4 * BitVec.ofNat 28 k) n) k hb (by simp [Transaction.wellFormed, h1, h8]) ha hk
    (by rintro _ _ ⟨⟩) (by rintro _ _ ⟨⟩)]
  unfold State.aperture
  dsimp only
  rw [apertureIndex_of (.read _ n) k ha]

/-- Words written in full, from word k of the aperture on. -/
theorem exec_aperture_write (s : State) (k : Nat) (vs : List Word) (hb : BusFree s) (h1 : 1 ≤ vs.length)
    (h8 : vs.length ≤ 8) (hk : k + vs.length ≤ 16) :
    exec (.processorTransaction (.write (0x0FFFF000 + 4 * BitVec.ofNat 28 k) (vs.map fullWord))) s =
      .next ((s.writeWords k vs).respondTxi .okay []) := by
  have ha := apertureAddress_toNat k (by omega)
  have hfull (w : Word × BitVec 4) (h : w ∈ vs.map fullWord) : w.2 = 15 := by
    obtain ⟨v, -, rfl⟩ := List.mem_map.1 h
    rfl
  have hn : writesNothing (.write (0x0FFFF000 + 4 * BitVec.ofNat 28 k) (vs.map fullWord)) = false := by
    rw [← Bool.not_eq_true, writesNothing_iff]
    rintro ⟨a, w, h⟩
    simp only [Transaction.write.injEq] at h
    have := hfull (w, 0) (by simp [h.2])
    exact absurd this (by decide : (0 : BitVec 4) ≠ 15)
  rw [exec_aperture s (.write (0x0FFFF000 + 4 * BitVec.ofNat 28 k) (vs.map fullWord)) k hb
    (by simp [Transaction.wellFormed, h1, h8]) ha (by simpa [txnLength] using hk)]
  · unfold State.aperture
    dsimp only
    rw [apertureIndex_of (.write _ (vs.map fullWord)) k ha, hn]
    simp [Function.comp_def, fullWord]
  · rintro _ _ ⟨⟩ - w hw
    exact hfull w hw
  · intro a w h
    simp only [Transaction.write.injEq] at h
    exact .inl (hfull w (by simp [h.2]))

/-! ### Words written one by one -/

/-- A word written with the value it holds. -/
theorem State.storeWord_same (s : State) (i : Nat) (h : i < 16) : s.storeWord i (s.apertureWord i) = s := by
  have hw : s.cmi.words.setIfInBounds i (s.apertureWord i) = s.cmi.words := by
    ext j hj
    rw [Vector.getElem_setIfInBounds]
    split
    · subst i
      simp [State.apertureWord, hj]
    · rfl
  unfold State.storeWord
  rw [hw]

theorem State.writeWord_of_param (s : State) (i : Nat) (v : Word) (h1 : 1 ≤ i) (h8 : i < 8) :
    s.writeWord i v = s.storeWord i v := by
  unfold State.writeWord
  rw [if_neg (by omega), if_pos h8]

/-- Parameters written over themselves. -/
theorem State.writeWords_same (s : State) (i : Nat) (vs : List Word) (h1 : 1 ≤ i) (h8 : i + vs.length ≤ 8)
    (h : ∀ k, k < vs.length → s.apertureWord (k + i) = (vs[k]?).getD 0) : s.writeWords i vs = s := by
  induction vs generalizing i with
  | nil => rfl
  | cons v vs ih =>
    simp only [List.length_cons] at h8 h
    have hv : s.apertureWord i = v := by simpa using h 0 (by omega)
    unfold State.writeWords
    rw [s.writeWord_of_param i v h1 (by omega), ← hv, s.storeWord_same i (by omega)]
    refine ih (i + 1) (by omega) (by omega) fun k hk => ?_
    have := h (k + 1) (by omega)
    rwa [List.getElem?_cons_succ, Nat.add_right_comm] at this

theorem State.writeWord_respondTxi (s : State) (i : Nat) (v : Word) (st : ResponseStatus) (d : List Word) (h : 1 ≤ i) :
    (s.respondTxi st d).writeWord i v = (s.writeWord i v).respondTxi st d := by
  have hi : i ≠ 0 := by omega
  simp only [State.writeWord, if_neg hi]
  split <;> rfl

/-- TXI's answer and the words past the first do not meet. -/
theorem State.writeWords_respondTxi (s : State) (i : Nat) (vs : List Word) (st : ResponseStatus) (d : List Word)
    (h : 1 ≤ i) : (s.respondTxi st d).writeWords i vs = (s.writeWords i vs).respondTxi st d := by
  induction vs generalizing s i with
  | nil => rfl
  | cons v vs ih =>
    unfold State.writeWords
    rw [s.writeWord_respondTxi i v st d h, ih _ _ (by omega)]

theorem commandWords_length (i : Instr) (code : Word) (ps : List Word) (h : commandWords i = some (code, ps)) :
    ps.length ≤ 7 := by
  have hl : (commandWords i).all (fun c => decide (c.2.length ≤ 7)) = true := by cases i <;> rfl
  rw [h] at hl
  simpa using hl

theorem accessOf_command (i : Instr) (code : Word) (ps : List Word) (h : commandWords i = some (code, ps)) :
    accessOf i = some (.command code ps) := by
  cases i
  case processorTransaction => cases h
  case apertureWordWrite => cases h
  case unknownCommand => cases h
  all_goals (simp only [accessOf, h, Option.map_some])

/-- The write of a code to word 0 with the parameters in place. -/
theorem exec_write_code (s : State) (code : Word) (ps : List Word) (hb : BusFree s) (hl : ps.length ≤ 7)
    (h : ∀ k, k < ps.length → s.apertureWord (k + 1) = (ps[k]?).getD 0) :
    exec (.processorTransaction (.write 0x0FFFF000 [fullWord code])) s = .next (s.take (.command code ps)) := by
  have hp : s.storeParams ps = s := s.writeWords_same 1 ps (Nat.le_refl 1) (by omega) h
  have hw := exec_aperture_write s 0 [code] hb (by simp) (by simp) (by simp)
  refine hw.trans (congrArg _ ?_)
  unfold State.take State.issued
  dsimp only
  rw [hp]
  rfl

/-- Settles O14: both sides are the taking of one access, and a burst's words after the first are parameter words. -/
theorem commandIsWriteOfWordZero : Obligations.CommandIsWriteOfWordZero := by
  refine ⟨fun i s code ps hi hb h => ?_, fun code s hb hn => ?_, fun k v s hb hk => ?_, fun k v vs s hb h1 h7 hk => ?_⟩
  · rw [exec_write_code s code ps hb (commandWords_length i code ps hi) h,
      exec_eq_take i _ s (accessOf_command i code ps hi) hb.1]
  · rw [exec_write_code s code [] hb (by simp) (by simp), exec_eq_take (.unknownCommand code) _ s ?_ hb.1]
    simp [accessOf, hn]
  · rw [exec_eq_take (.apertureWordWrite k v) _ s (if_neg hk) hb.1]
    exact exec_aperture_write s k [v] hb (by simp) (by simp) (by simp)
  · have hu : BusFree ((s.writeWord k v).respondTxi .okay []) := by
      unfold BusFree State.respondTxi
      rw [(State.writeWord_frame s k v).2.2.1]
      exact hb
    refine ⟨_, hu, exec_aperture_write s k [v] hb (by simp) (by simp) (by simp; omega), ?_⟩
    rw [exec_aperture_write _ (k + 1) vs hu h1 (by omega) (by omega), State.writeWords_respondTxi _ _ _ _ _ (by omega)]
    exact exec_aperture_write s k (v :: vs) hb (by simp) (by simp; omega) (by simp; omega)

/-! ### Commands that answer -/

/-- The state a command is carried out on: its parameters and its code are in place (R173). -/
def State.presented (s : State) (code : Word) (ps : List Word) : State := (s.storeParams ps).storeWord 0 code

/-- It differs from the state before in the words of the aperture alone. -/
theorem State.presented_words (s : State) (code : Word) (ps : List Word) :
    s.presented code ps = { s with cmi := { s.cmi with words := (s.presented code ps).cmi.words } } :=
  s.presented_eq code ps

/-- A command whose result is computed on the state it is carried out on. -/
theorem State.issue_answered (s : State) (code : Word) (ps : List Word) (f : State → State) (st : CommandStatus)
    (rs : List Word) (hb : BusFree s) (hl : ps.length ≤ 7)
    (hf : f (s.presented code ps) = (s.presented code ps).answer st rs) :
    Commanded s (s.issue code ps f) code ps st rs ∧ OnlyAnswers s (s.issue code ps f) := by
  have htxi : (s.presented code ps).txi = s.txi := by rw [s.presented_words]
  refine ⟨s.issue_commanded code ps f _ st rs hb hl hf rfl (htxi ▸ hb.1) (htxi ▸ hb.2), ?_⟩
  unfold OnlyAnswers
  rw [s.issue_free code ps f hb]
  unfold State.presented at hf
  rw [hf, s.presented_eq]
  rfl

/-- Settles O19: a read, a plain write and an unknown code, each as CMI takes it. -/
theorem apertureWordsReadAndStore : Obligations.ApertureWordsReadAndStore := by
  refine ⟨fun s k n hb h1 h8 hk => ?_, fun s k w hb hk => ?_, fun s i v hb hi => ?_, fun s code hb hc => ?_⟩
  · refine ⟨_, exec_aperture_read s k n hb h1 h8 hk, rfl, hb.1, _, rfl, by simp, fun j hj => ?_⟩
    simp [hj]
  · have ha := apertureAddress_toNat k hk
    rw [exec_aperture s (.write (0x0FFFF000 + 4 * BitVec.ofNat 28 k) [(w, 0)]) k hb rfl ha hk]
    · show Host.Outcome.next { s with txi := (s.respondTxi .okay []).txi } = _
      rw [BusFree.respondTxi hb]
    · rintro _ _ ⟨⟩ h
      simp at h
    · rintro _ _ ⟨⟩
      exact .inr rfl
  · have hi0 : i.val ≠ 0 := fun h => hi (Fin.ext h)
    have hw : s.writeWord i v = if i.val < 8 then s.storeWord i v else s := by
      unfold State.writeWord
      rw [if_neg hi0]
    refine ⟨_, exec_eq_take (.apertureWordWrite i v) _ s (if_neg hi) hb.1, ?_, fun j hj => ?_, ?_⟩
    · unfold OnlyAnswers State.take
      dsimp only
      rw [hw]
      split <;> rfl
    · show (s.writeWord i v).apertureWord j = _
      rw [hw]
      split
      · rw [State.storeWord_word]
        congr 1
        simp only [eq_iff_iff]
        omega
      · rw [if_neg (by omega)]
    · refine BusFree.respondTxi ?_ _ _
      unfold BusFree
      rw [(State.writeWord_frame s i v).2.2.1]
      exact hb
  · have hn : namesCommand code = false := by
      obtain rfl | hc := hc
      · rfl
      · exact decide_eq_false (by omega)
    refine ⟨s.issue code [] State.cmdUnknown, ?_, s.issue_answered code [] _ .unknown [] hb (by simp) rfl⟩
    simp only [exec, execUnknownCommand, hn]
    rfl

end Sys2Proof.Machine
end

section
/-! What POR leaves (O3), and that every law of the part holds there (O4). -/

namespace Sys2Proof.Machine

theorem afterPor_region (c m : BitVec 2) (p : List Instr) (i : Fin 32) : (State.afterPor c m p).region i = none :=
  Vector.getElem_replicate _

theorem afterPor_spare (c m : BitVec 2) (p : List Instr) (i : Fin 16) :
    (State.afterPor c m p).srm.spares[i] = .free := Vector.getElem_replicate _

theorem afterPor_record (c m : BitVec 2) (p : List Instr) (i : Fin 32) : (State.afterPor c m p).record i =
    { valid := false, digest := 0, running := false, acc := 0, pointer := 0 } := Vector.getElem_replicate _

theorem afterPor_apertureWord (c m : BitVec 2) (p : List Instr) (i : Nat) : (State.afterPor c m p).apertureWord i = 0 := by
  show ((Vector.replicate 16 (0 : Word))[i]?).getD 0 = 0
  rw [Vector.getElem?_replicate]
  split <;> rfl

theorem afterPor_asserted (c m : BitVec 2) (p : List Instr) (l : NoticeName) : (State.afterPor c m p).asserted l = false := by
  have h : anyRouted Settings.initial 0 l = false := by simp [anyRouted]
  cases l <;> exact h

/-- Settles O3, block by block. -/
theorem porLeavesPorValues : Obligations.PorLeavesPorValues := by
  intro c m s
  refine ⟨State.afterPor c m s.pending, rfl, rfl, rfl, rfl, rfl, rfl, afterPor_region c m _, rfl, rfl, rfl, rfl,
    afterPor_spare c m _, afterPor_record c m _, rfl, rfl, rfl, rfl, rfl, rfl, rfl, fun p => ?_, rfl, rfl, rfl, rfl, fun k => ?_,
    fun i => ?_, fun l => ?_, rfl, fun i _ => afterPor_apertureWord c m _ i, rfl, rfl, rfl, rfl, rfl, rfl, rfl, rfl, rfl,
    fun l => ?_, fun i => ?_, fun k => ?_⟩
  · cases p <;> exact ⟨rfl, rfl, rfl, rfl, rfl, rfl, rfl, rfl, rfl⟩
  · cases k <;> rfl
  · exact Vector.getElem_replicate _
  · exact ⟨by cases l <;> rfl, by cases l <;> rfl, afterPor_asserted c m _ l⟩
  · cases l <;> rfl
  · exact Vector.getElem_replicate _
  · cases k <;> rfl

/-! ### The laws -/

theorem Config.digestModulus_pos : 0 < Config.digestModulus := by decide

/-- The laws of the blocks that POR leaves empty. -/
theorem afterPor_blocks (c m : BitVec 2) (p : List Instr) :
    let t := State.afterPor c m p
    ChenLaw t ∧ ClosedLaw t ∧ RowTableLaw t ∧ MoveLaw t ∧ RowMapLaw t ∧ DigestLaw t ∧ SourceLaw t ∧ ServiceQueueLaw t ∧
      RepairLaw t ∧ VoteLaw t ∧ TableLaw t := by
  refine ⟨⟨nofun, nofun⟩, ⟨nofun, fun h => absurd rfl h.1⟩, ⟨Nat.zero_le _, List.nodup_nil⟩, fun i j h => ?_,
    ⟨fun i j r h => ?_, fun i r a h => ?_, fun i r a h => ?_⟩, ⟨fun i => ?_, Config.digestModulus_pos⟩, nofun, nofun,
    ⟨fun h => absurd rfl h, Nat.zero_le _, List.nodup_nil, nofun, fun h => absurd rfl h⟩,
    ⟨Nat.zero_le _, List.nodup_nil, Nat.zero_le _, fun _ => rfl, fun _ => rfl, nofun⟩, nofun⟩
  · rw [afterPor_spare] at h; cases h
  · rw [afterPor_spare] at h; cases h
  · rw [afterPor_spare] at h; cases h
  · rw [afterPor_spare] at h; cases h
  · rw [afterPor_record]
    exact ⟨by decide, by decide, fun _ => rfl⟩

/-- Nothing is at work after POR, so nothing is listed for repair. -/
theorem afterPor_listed (c m : BitVec 2) (p : List Instr) : ListedLaw (State.afterPor c m p) := by
  obtain ⟨-, hclosed, -, -, -, -, -, -, hrepair, -, htable⟩ := afterPor_blocks c m p
  refine ⟨hclosed, htable, fun _ => ⟨rfl, fun q => by cases q <;> rfl, rfl, rfl, rfl, rfl, nofun⟩, nofun, hrepair, nofun⟩

theorem afterPor_safe (c m : BitVec 2) (p : List Instr) : Safe (State.afterPor c m p) := by
  obtain ⟨hcount, hqueues, hmem, hyield, hset, hbus⟩ := afterPor_bounds c m p
  obtain ⟨hchen, hclosed, hrows, hmove, hmap, hdigest, hsource, hservice, hrepair, hvote, htable⟩ := afterPor_blocks c m p
  exact ⟨hchen, hclosed, hcount, hset, hmem, hqueues, hrows, hmove, hmap, hdigest, hsource, hservice, hrepair, hvote, hyield,
    hbus, htable, afterPor_listed c m p⟩

/-- Settles O4: POR leaves the same blocks whatever the part held, and State.reset is one of these states. -/
theorem lawsHoldAfterPor : Obligations.LawsHoldAfterPor := by
  refine ⟨fun c m s t h => ?_, afterPor_safe 0 0 []⟩
  cases h
  exact afterPor_safe c m s.pending

end Sys2Proof.Machine
end

section
/-! Management commands that read (O21, O29) and the region table's commands (O28, O30, O38), each on the state that its
parameters and its code have been put into. -/

namespace Sys2Proof.Machine

/-! ### The state a command is carried out on -/

theorem word_toNat (n : Nat) (h : n < 2 ^ 32) : (word n).toNat = n := Nat.mod_eq_of_lt h

@[simp] theorem State.presented_frame (s : State) (code : Word) (ps : List Word) :
    (s.presented code ps).chanId = s.chanId ∧ (s.presented code ps).msize = s.msize ∧
    (s.presented code ps).txi = s.txi ∧ (s.presented code ps).rgt = s.rgt ∧ (s.presented code ps).dgu = s.dgu ∧
    (s.presented code ps).mdc = s.mdc ∧ (s.presented code ps).evu = s.evu := by
  rw [s.presented_words]
  exact ⟨rfl, rfl, rfl, rfl, rfl, rfl, rfl⟩

@[simp] theorem State.presented_region (s : State) (code : Word) (ps : List Word) :
    (s.presented code ps).region = s.region := by rw [s.presented_words]; rfl

/-- The parameters stand in words 1 to 7. -/
theorem State.presented_param (s : State) (code : Word) (ps : List Word) (hl : ps.length ≤ 7) (k : Nat)
    (hk : k < ps.length) : (s.presented code ps).param (k + 1) = ps[k] := by
  unfold State.param State.presented
  rw [s.presented_word code ps hl, if_neg (by omega), if_pos (by omega)]
  simp [hk]

theorem State.acceptedIn_of (s : State) (modes : Mode → Bool) (f : State → State) (h : modes s.mdc.mode = true) :
    s.acceptedIn modes f = f s := if_pos h

/-! ### The commands that read -/

/-- A reading command's answer is DONE or BAD_PARAM, and the answer is all it does. -/
def ReadAnswers (f : State → State) : Prop :=
  ∀ s : State, ∃ st rs, f s = s.answer st rs ∧ (st = .done ∨ st = .badParam)

theorem State.done_answers (s : State) (rs : List Word) :
    ∃ st rs', s.answer .done rs = s.answer st rs' ∧ (st = .done ∨ st = .badParam) := ⟨_, _, rfl, .inl rfl⟩

theorem State.badParam_answers (s : State) (i : Nat) :
    ∃ st rs', s.badParam i = s.answer st rs' ∧ (st = .done ∨ st = .badParam) := ⟨_, _, rfl, .inr rfl⟩

theorem cmdStatus_answers : ReadAnswers State.cmdStatus := by
  intro s
  unfold State.cmdStatus
  split
  · exact s.done_answers _
  · exact s.badParam_answers _

theorem cmdSettingsRead_answers : ReadAnswers State.cmdSettingsRead := by
  intro s
  unfold State.cmdSettingsRead
  split
  · exact s.badParam_answers _
  · exact s.done_answers _

theorem cmdTableRead_answers : ReadAnswers State.cmdTableRead := by
  intro s
  unfold State.cmdTableRead
  split
  · exact s.done_answers _
  · exact s.badParam_answers _

theorem cmdVoteRead_answers : ReadAnswers State.cmdVoteRead := by
  intro s
  unfold State.cmdVoteRead
  split
  · exact s.done_answers _
  · exact s.badParam_answers _

theorem cmdDigestRead_answers : ReadAnswers State.cmdDigestRead := by
  intro s
  unfold State.cmdDigestRead
  split
  · exact s.done_answers _
  · split
    · exact s.done_answers _
    · exact s.badParam_answers _

theorem cmdRowTableRead_answers : ReadAnswers State.cmdRowTableRead := by
  intro s
  unfold State.cmdRowTableRead
  split
  · exact s.done_answers _
  · exact s.badParam_answers _

theorem cmdSpareRead_answers : ReadAnswers State.cmdSpareRead := by
  intro s
  unfold State.cmdSpareRead
  split
  · exact s.done_answers _
  · exact s.badParam_answers _

theorem cmdCaptureRead_answers : ReadAnswers State.cmdCaptureRead := by
  intro s
  unfold State.cmdCaptureRead
  split
  · exact s.done_answers _
  · exact s.badParam_answers _

theorem cmdCountersRead_answers : ReadAnswers State.cmdCountersRead := by
  intro s
  unfold State.cmdCountersRead
  dsimp only
  split
  · exact s.badParam_answers _
  · split
    · exact s.badParam_answers _
    · exact s.done_answers _

/-- Each of the ten is issued with its words and only reads. -/
theorem exec_of_readsOnly (i : Instr) (s : State) (code : Word) (ps : List Word)
    (hi : commandWords i = some (code, ps)) (hr : ReadsOnly i) :
    ∃ f, exec i s = .next (s.issue code ps f) ∧ ReadAnswers f := by
  cases i
  case status => cases hi; exact ⟨_, rfl, cmdStatus_answers⟩
  case settingsRead => cases hi; exact ⟨_, rfl, cmdSettingsRead_answers⟩
  case tableRead => cases hi; exact ⟨_, rfl, cmdTableRead_answers⟩
  case voteRead => cases hi; exact ⟨_, rfl, cmdVoteRead_answers⟩
  case digestRead => cases hi; exact ⟨_, rfl, cmdDigestRead_answers⟩
  case rowTableRead => cases hi; exact ⟨_, rfl, cmdRowTableRead_answers⟩
  case spareRead => cases hi; exact ⟨_, rfl, cmdSpareRead_answers⟩
  case eventsRead => cases hi; exact ⟨_, rfl, fun s => s.done_answers _⟩
  case captureRead => cases hi; exact ⟨_, rfl, cmdCaptureRead_answers⟩
  case countersRead => cases hi; exact ⟨_, rfl, cmdCountersRead_answers⟩
  all_goals exact hr.elim

/-- Settles O21: the answer is given on the state the command was put into. -/
theorem readingCommandsChangeNothing : Obligations.ReadingCommandsChangeNothing := by
  intro i s code ps hi hr hb
  obtain ⟨f, he, hf⟩ := exec_of_readsOnly i s code ps hi hr
  obtain ⟨st, rs, hans, hst⟩ := hf (s.presented code ps)
  obtain ⟨⟨hw, ha, ht⟩, ho⟩ := s.issue_answered code ps f st rs hb (commandWords_length i code ps hi) hans
  refine ⟨_, he, ho, hw, ?_, ht⟩
  obtain rfl | rfl := hst
  · exact .inl ha.1
  · exact .inr ha.1

/-! ### TABLE_READ -/

/-- The fields of an entry's image (Table 13.3). -/
theorem imageWord_fields (r : Region) (hb : r.base < 2 ^ 28) (hl : r.length < 2 ^ 16) :
    bit (imageWord0 (some r)) 0 = true ∧ bits (imageWord0 (some r)) 4 2 = r.cls.code ∧
      bit (imageWord0 (some r)) 8 = r.scrub ∧ (imageWord1 (some r)).toNat = r.base ∧
      (imageWord2 (some r)).toNat = r.length := by
  have h0 (c : RegionClass) (b : Bool) : bit (word (1 + at_ 4 c.code + flagAt 8 b)) 0 = true ∧
      bits (word (1 + at_ 4 c.code + flagAt 8 b)) 4 2 = c.code ∧ bit (word (1 + at_ 4 c.code + flagAt 8 b)) 8 = b := by
    cases c <;> cases b <;> decide
  obtain ⟨hv, hc, hs⟩ := h0 r.cls r.scrub
  exact ⟨hv, hc, hs, word_toNat _ (by omega), word_toNat _ (by omega)⟩

theorem State.cmdTableRead_of_lt (s : State) (i : Fin 32) (h : (s.param 1).toNat = i.val) : s.cmdTableRead =
    s.answer .done [imageWord0 (s.region i), imageWord1 (s.region i), imageWord2 (s.region i),
      if s.rgt.closed then 1 else 0] := by
  have hi : (⟨(s.param 1).toNat, by omega⟩ : Fin 32) = i := Fin.ext h
  have hc : word (flagAt 0 s.rgt.closed) = if s.rgt.closed then 1 else 0 := by cases s.rgt.closed <;> rfl
  unfold State.cmdTableRead
  rw [dif_pos (by omega)]
  dsimp only
  rw [hi, hc]

/-- Settles O29. -/
theorem tableReadGivesImage : Obligations.TableReadGivesImage := by
  refine ⟨fun s i hb => ?_, fun s i hb hi => ?_⟩
  · have hp : ((s.presented 8 [word i.val]).param 1).toNat = i.val := by
      rw [s.presented_param 8 [word i.val] (by simp) 0 (by simp)]
      exact word_toNat _ (by omega)
    have hf := (s.presented 8 [word i.val]).cmdTableRead_of_lt i hp
    rw [State.presented_region, (s.presented_frame _ _).2.2.2.1] at hf
    obtain ⟨hc, ho⟩ := s.issue_answered 8 [word i.val] _ .done _ hb (by simp) hf
    refine ⟨_, _, _, _, rfl, hc, ho, rfl, rfl, rfl, fun h => ?_, fun r hr h28 h16 => ?_⟩
    · rw [h]; exact ⟨rfl, rfl, rfl⟩
    · rw [hr]; exact imageWord_fields r h28 h16
  · refine ⟨_, rfl, s.issue_answered 8 [i] _ .badParam [1] hb (by simp) ?_⟩
    unfold State.cmdTableRead
    rw [s.presented_param 8 [i] (by simp) 0 (by simp), dif_neg (by simp; omega)]
    rfl

end Sys2Proof.Machine
end

section
/-! The region table's commands that change the part: TABLE_WRITE (O28), TABLE_OPEN and COLD_START (O38), TABLE_CLOSE (O30). -/

namespace Sys2Proof.Machine

/-- A command that changes blocks before it answers: what it leaves outside the aperture and the processor's answer is the
changed state. -/
theorem State.issue_changed (s : State) (code : Word) (ps : List Word) (f : State → State) (v : State) (st : CommandStatus)
    (rs : List Word) (hb : BusFree s) (hl : ps.length ≤ 7) (hf : f (s.presented code ps) = v.answer st rs)
    (hw : v.cmi.words = (s.presented code ps).cmi.words) (ht : v.txi = s.txi) :
    Commanded s (s.issue code ps f) code ps st rs ∧
      ∃ x ws, s.issue code ps f = { v with txi := x, cmi := { v.cmi with words := ws } } := by
  refine ⟨s.issue_commanded code ps f v st rs hb hl hf hw (ht ▸ hb.1) (ht ▸ hb.2), ?_⟩
  rw [s.issue_free code ps f hb]
  unfold State.presented at hf
  rw [hf]
  exact ⟨_, _, rfl⟩

/-! ### TABLE_WRITE -/

theorem bit_zero (w : Word) : bit w 0 = decide (w.toNat % 2 = 1) := by
  unfold bit bits
  simp

theorem parseEntry_of_empty (w0 w1 w2 : Word) (h : w0.toNat % 2 = 0) : parseEntry w0 w1 w2 = .empty := by
  unfold parseEntry
  rw [bit_zero, if_neg (by simp; omega)]

theorem parseEntry_of_class (w0 w1 w2 : Word) (cls : RegionClass) (h : w0.toNat % 2 = 1)
    (hc : w0.toNat / 16 % 4 = cls.code) : parseEntry w0 w1 w2 = .region
      { cls, scrub := decide (w0.toNat / 256 % 2 = 1), base := w1.toNat % 2 ^ 28, length := w2.toNat % 2 ^ 16 } := by
  have hcode : RegionClass.ofCode (bits w0 4 2) = some cls := by
    rw [show bits w0 4 2 = cls.code from hc]
    cases cls <;> rfl
  unfold parseEntry
  rw [bit_zero, if_pos (by simpa using h), hcode]
  simp [bit, bits]

theorem parseEntry_of_noClass (w0 w1 w2 : Word) (h : w0.toNat % 2 = 1) (hc : w0.toNat / 16 % 4 = 3) :
    parseEntry w0 w1 w2 = .noClass := by
  unfold parseEntry
  rw [bit_zero, if_pos (by simpa using h), show bits w0 4 2 = 3 from hc]
  rfl

/-- The four class codes name the three classes and none. -/
theorem class_of_code (n : Nat) (h : n < 4) : n = 3 ∨ ∃ cls : RegionClass, n = cls.code := by
  interval_cases n
  · exact .inr ⟨.vital, rfl⟩
  · exact .inr ⟨.constant, rfl⟩
  · exact .inr ⟨.nonvital, rfl⟩
  · exact .inl rfl

/-- An entry or the empty entry written to the table, or the first wrong word named. -/
def entryWritten (s : State) (e : Option Region) (index : Word) : State :=
  if h : index.toNat < 32 then (s.setRegion ⟨index.toNat, h⟩ e).answer .done [] else s.badParam 4

/-- TABLE_WRITE in LOAD by what the image says. -/
theorem State.cmdTableWrite_of (s : State) (h : s.mdc.mode = .load) :
    s.cmdTableWrite = match parseEntry (s.param 1) (s.param 2) (s.param 3) with
      | .noClass => s.badParam 1
      | .empty => entryWritten s none (s.param 4)
      | .region r => entryWritten s (some r) (s.param 4) :=
  s.acceptedIn_of _ _ (by rw [h]; rfl)

theorem State.presented_tableWrite (s : State) (w0 w1 w2 w3 : Word) (h : s.mdc.mode = .load) :
    (s.presented 6 [w0, w1, w2, w3]).cmdTableWrite = match parseEntry w0 w1 w2 with
      | .noClass => (s.presented 6 [w0, w1, w2, w3]).badParam 1
      | .empty => entryWritten (s.presented 6 [w0, w1, w2, w3]) none w3
      | .region r => entryWritten (s.presented 6 [w0, w1, w2, w3]) (some r) w3 := by
  have hp := s.presented_param 6 [w0, w1, w2, w3] (by simp)
  rw [State.cmdTableWrite_of _ (by simpa using h), hp 0 (by simp), hp 1 (by simp), hp 2 (by simp), hp 3 (by simp)]
  rfl

/-- A TABLE_WRITE whose entry is stored. -/
theorem exec_tableWrite_stored (s : State) (w0 w1 w2 w3 : Word) (e : Option Region) (hb : BusFree s)
    (h3 : w3.toNat < 32) (hf : (s.presented 6 [w0, w1, w2, w3]).cmdTableWrite =
      entryWritten (s.presented 6 [w0, w1, w2, w3]) e w3) :
    ∃ t, exec (.tableWrite w0 w1 w2 w3) s = .next t ∧ Commanded s t 6 [w0, w1, w2, w3] .done [] ∧
      (∀ i, t.region i = if i.val = w3.toNat then e else s.region i) ∧
      t = { s with
        txi := t.txi, cmi := { s.cmi with words := t.cmi.words }, rgt := { s.rgt with table := t.rgt.table } } := by
  rw [entryWritten, dif_pos h3] at hf
  have htxi := (s.presented_frame 6 [w0, w1, w2, w3]).2.2.1
  obtain ⟨hc, x, ws, ht⟩ := s.issue_changed 6 [w0, w1, w2, w3] _ _ .done [] hb (by simp) hf rfl htxi
  refine ⟨_, rfl, hc, fun i => ?_, ?_⟩
  · have hr := (s.presented 6 [w0, w1, w2, w3]).setRegion_region ⟨w3.toNat, h3⟩ i e
    simp only [s.presented_region, Fin.ext_iff] at hr
    rw [ht]
    exact hr
  · rw [ht, s.presented_words]
    rfl

/-- Settles O28: by what the image says and whether the index names an entry. -/
theorem tableWriteStoresEntry : Obligations.TableWriteStoresEntry := by
  intro s w0 w1 w2 w3 hb hm
  have hf := s.presented_tableWrite w0 w1 w2 w3 hm
  refine ⟨fun h3 h0 => ?_, fun cls h3 h0 hc => ?_, fun h0 hc => ?_, fun h3 hc => ?_⟩
  · rw [parseEntry_of_empty _ _ _ h0] at hf
    exact exec_tableWrite_stored s w0 w1 w2 w3 none hb h3 hf
  · rw [parseEntry_of_class _ _ _ cls h0 hc] at hf
    exact exec_tableWrite_stored s w0 w1 w2 w3 _ hb h3 hf
  · rw [parseEntry_of_noClass _ _ _ h0 hc] at hf
    exact ⟨_, rfl, s.issue_answered 6 _ _ .badParam [1] hb (by simp) hf⟩
  · refine ⟨_, rfl, s.issue_answered 6 _ _ .badParam [4] hb (by simp) (hf.trans ?_)⟩
    obtain h0 | h0 := Nat.mod_two_eq_zero_or_one w0.toNat
    · rw [parseEntry_of_empty _ _ _ h0]
      exact dif_neg (by omega)
    · obtain h | ⟨cls, h⟩ := class_of_code (w0.toNat / 16 % 4) (by omega)
      · exact absurd h (hc h0)
      · rw [parseEntry_of_class _ _ _ cls h0 h]
        exact dif_neg (by omega)

/-! ### A change of mode that moves no row -/

/-- Entering a mode that permits no move, other than SYNC. -/
theorem State.requestMode_plain (s : State) (m : Mode) (hl : s.mdc.mode.leadsTo m = true) (hs : m ≠ .sync)
    (hp : m.permitsMoves = false) :
    s.requestMode m = ((s.setMode m).fire .modeChanged).patrolFollows s.mdc.mode m := by
  unfold State.requestMode State.enterMode State.moveOccasion
  rw [if_pos hl]
  dsimp only
  rw [if_neg hs, hp]
  rfl

/-- What the event unit holds after one event (R160). -/
theorem fired_of_evu (s t : State) (ev : Event) (h : t.evu = (s.fire ev).evu) :
    Fired s t [ev] ∧ Counted s t [] ∧ CapturesKept s t ∧ TimeKept s t := by
  refine ⟨fun e => ?_, fun c => ?_, fun k => ?_, ?_⟩
  · unfold FlagSet
    rw [h, State.fire_flag]
    simp
  · rw [h, (State.fire_evu s ev).1]
    simp
  · rw [h]
    exact (State.fire_evu s ev).2.2 k
  · unfold TimeKept
    rw [h]
    exact (State.fire_evu s ev).2.1

/-! ### TABLE_OPEN and COLD_START -/

/-- TABLE_OPEN with an identity strapped: an empty table, and LOAD. -/
theorem State.cmdTableOpen_of (s : State) (h : s.mdc.mode = .start) (hc : s.chanId ≠ 3) : s.cmdTableOpen =
    ((({ s with rgt := Rgt.initial } : State).setMode .load).fire .modeChanged).answer .done [] := by
  have hm := ({ s with rgt := Rgt.initial } : State).requestMode_plain .load (by rw [h]; rfl) nofun rfl
  unfold State.cmdTableOpen
  rw [s.acceptedIn_of _ _ (by rw [h]; rfl), if_neg (by simpa [State.noIdentity] using hc), hm]
  rfl

theorem State.cmdTableOpen_of_noIdentity (s : State) (h : s.mdc.mode = .start) (hc : s.chanId = 3) :
    s.cmdTableOpen = s.answer .badParam [0] := by
  unfold State.cmdTableOpen
  rw [s.acceptedIn_of _ _ (by rw [h]; rfl), if_pos (by simpa [State.noIdentity] using hc)]
  rfl

/-- COLD_START: CLEARING, and the CLEAR pass stands at the first valid region. -/
theorem State.cmdColdStart_of (s : State) (h : s.mdc.mode = .loaded) : s.cmdColdStart =
    (((s.setMode .clearing).fire .modeChanged).startClear).answer .done [] := by
  unfold State.cmdColdStart
  rw [s.acceptedIn_of _ _ (by rw [h]; rfl), s.requestMode_plain .clearing (by rw [h]; rfl) nofun rfl]
  rfl

/-- The regions in the order of their indices. -/
theorem allRegions_sorted : allRegions.Pairwise (· < ·) := List.pairwise_lt_finRange 32

theorem mem_allRegions (i : Fin 32) : i ∈ allRegions := List.mem_finRange i

/-- The search of the regions finds the one of the lowest index. -/
theorem allRegions_findSome {α : Type} (f : Fin 32 → Option α) (i : Fin 32) (b : α) (hi : f i = some b)
    (hlt : ∀ j, j < i → f j = none) : allRegions.findSome? f = some b := by
  cases hf : allRegions.findSome? f with
  | none => exact absurd (List.findSome?_eq_none_iff.1 hf i (mem_allRegions i)) (by simp [hi])
  | some c =>
    obtain ⟨l, k, r, hlr, hk, hl⟩ := List.findSome?_eq_some_iff.1 hf
    have hs := allRegions_sorted
    have hm := mem_allRegions i
    rw [hlr] at hs hm
    rw [List.mem_append, List.mem_cons] at hm
    have hki : k ≤ i := by
      obtain h | rfl | h := hm
      · exact absurd (hl i h) (by simp [hi])
      · exact le_rfl
      · exact le_of_lt ((List.pairwise_cons.1 (List.pairwise_append.1 hs).2.1).1 i h)
    obtain h | rfl := hki.lt_or_eq
    · rw [hlt k h] at hk; cases hk
    · rw [← hk, hi]

theorem allRegions_find (p : Fin 32 → Bool) (i : Fin 32) (hi : p i = true) (hlt : ∀ j, j < i → p j = false) :
    allRegions.find? p = some i := by
  rw [List.find?_eq_findSome?_guard]
  refine allRegions_findSome _ i i (by simp [Option.guard, hi]) fun j hj => by simp [Option.guard, hlt j hj]

theorem State.validRegions_head (s : State) (i : Fin 32) (r : Region) (hi : s.region i = some r)
    (hlt : ∀ j, j < i → s.region j = none) : s.validRegions.head? = some i := by
  unfold State.validRegions
  rw [List.head?_filter]
  exact allRegions_find _ i (by rw [hi]; rfl) fun j hj => by rw [hlt j hj]; rfl

/-- Settles O38. -/
theorem tableOpenAndColdStart : Obligations.TableOpenAndColdStart := by
  refine ⟨fun s hb hm hc => ?_, fun s hb hm hc => ?_, fun s hb hm => ?_⟩
  · have hf := (s.presented 5 []).cmdTableOpen_of (by simpa using hm) (by simpa using hc)
    obtain ⟨hcmd, x, ws, ht⟩ := s.issue_changed 5 [] _ _ .done [] hb (by simp) hf rfl (by simp)
    refine ⟨_, rfl, hcmd, ?_⟩
    rw [ht, s.presented_words]
    obtain ⟨hf, hn, hk, hms⟩ := fired_of_evu s _ .modeChanged rfl
    exact ⟨fun i => Vector.getElem_replicate _, rfl, rfl, hf, hn, hk, hms, rfl⟩
  · exact ⟨_, rfl, s.issue_answered 5 [] _ .badParam [0] hb (by simp)
      ((s.presented 5 []).cmdTableOpen_of_noIdentity (by simpa using hm) (by simpa using hc))⟩
  · have hf := (s.presented 9 []).cmdColdStart_of (by simpa using hm)
    obtain ⟨hcmd, x, ws, ht⟩ := s.issue_changed 9 [] _ _ .done [] hb (by simp) hf rfl (by simp)
    refine ⟨_, rfl, hcmd, ?_⟩
    rw [ht, s.presented_words]
    obtain ⟨hf, hn, hk, hms⟩ := fired_of_evu s _ .modeChanged rfl
    refine ⟨rfl, rfl, fun i r hi hlt => ?_, hf, hn, hk, hms, rfl⟩
    exact congrArg (Option.map _) (s.validRegions_head i r hi hlt)

end Sys2Proof.Machine
end

section
/-! TABLE_CLOSE (O30): the validation of Table 1.2 entry by entry, and the close. -/

namespace Sys2Proof.Machine

/-! ### The conditions of Table 1.2 -/

theorem Region.shares_iff (r q : Region) :
    r.shares q = true ↔ r.base < q.base + q.length * 4096 ∧ q.base < r.base + r.length * 4096 := by
  unfold Region.shares Region.finish Config.blockBytes
  exact decide_eq_true_iff

theorem State.earlierOverlap_none (s : State) (i : Fin 32) (r : Region)
    (h : ∀ j q, j < i → s.region j = some q → q.base + q.length * 4096 ≤ r.base ∨ r.base + r.length * 4096 ≤ q.base) :
    s.earlierOverlap i r = none := by
  unfold State.earlierOverlap
  rw [List.find?_eq_none]
  intro j _
  cases hj : s.region j with
  | none => simp
  | some q =>
    rw [Bool.and_eq_true, decide_eq_true_iff, Option.any_some, r.shares_iff q]
    intro ⟨hlt, hs⟩
    have := h j q hlt hj
    omega

/-- The lowest-numbered earlier entry that shares an address. -/
theorem State.earlierOverlap_some (s : State) (i j : Fin 32) (r q : Region) (hji : j < i) (hj : s.region j = some q)
    (h1 : r.base < q.base + q.length * 4096) (h2 : q.base < r.base + r.length * 4096)
    (hlt : ∀ k p, k < j → s.region k = some p →
      p.base + p.length * 4096 ≤ r.base ∨ r.base + r.length * 4096 ≤ p.base) :
    s.earlierOverlap i r = some j := by
  refine allRegions_find _ j ?_ fun k hk => ?_
  · rw [hj, Option.any_some, (r.shares_iff q).2 ⟨h1, h2⟩, decide_eq_true hji]
    rfl
  · cases hp : s.region k with
    | none => simp
    | some p =>
      have hd := hlt k p hk hp
      have hs : r.shares p = false := by
        rw [← Bool.not_eq_true, r.shares_iff]
        omega
      rw [Option.any_some, hs, Bool.and_false]

theorem State.checkEntry_baseAlign (s : State) (i : Fin 32) (r : Region) (h : r.base % 4096 ≠ 0) :
    s.checkEntry i r = some (.baseAlign, 0) := if_pos h

theorem State.checkEntry_lengthZero (s : State) (i : Fin 32) (r : Region) (h : r.base % 4096 = 0) (h0 : r.length = 0) :
    s.checkEntry i r = some (.lengthZero, 0) := by
  unfold State.checkEntry Config.blockBytes
  rw [if_neg (by omega), if_pos h0]

theorem State.checkEntry_beyondLimit (s : State) (i : Fin 32) (r : Region) (h : r.base % 4096 = 0) (h0 : 1 ≤ r.length)
    (hl : (s.rows - 16) * 1024 < r.base + r.length * 4096) : s.checkEntry i r = some (.beyondLimit, 0) := by
  unfold State.checkEntry Region.finish Config.blockBytes State.usableLimit
  rw [if_neg (by omega), if_neg (by omega), if_pos hl]

/-- The first three checks passed, the fourth decides. -/
theorem State.checkEntry_overlap (s : State) (i : Fin 32) (r : Region) (h : r.base % 4096 = 0) (h0 : 1 ≤ r.length)
    (hl : r.base + r.length * 4096 ≤ (s.rows - 16) * 1024) :
    s.checkEntry i r = (s.earlierOverlap i r).map (fun j => (.overlap, j.val)) := by
  unfold State.checkEntry Region.finish Config.blockBytes State.usableLimit
  rw [if_neg (by omega), if_neg (by omega), if_neg (by omega)]
  cases s.earlierOverlap i r <;> rfl

theorem State.checkEntry_passes (s : State) (i : Fin 32) (r : Region) (h : EntryPasses s i r) :
    s.checkEntry i r = none := by
  obtain ⟨hb, h1, hl, hd⟩ := h
  rw [s.checkEntry_overlap i r hb h1 hl, s.earlierOverlap_none i r hd]
  rfl

/-! ### The table as a whole -/

/-- What the validation finds at one index. -/
def State.entryFault (s : State) (i : Fin 32) : Option (Nat × BadTable × Nat) :=
  match s.region i with
  | none => none
  | some r => (s.checkEntry i r).map (fun (b, j) => (i.val, b, j))

theorem State.validateTable_eq (s : State) : s.validateTable = match allRegions.findSome? s.entryFault with
    | some bad => some bad
    | none => if allRegions.any (fun i => (s.region i).any (fun r => r.cls == .vital)) then none
      else some (32, .noVital, 0) := rfl

theorem State.entryFault_passes (s : State) (i : Fin 32) (h : ∀ r, s.region i = some r → EntryPasses s i r) :
    s.entryFault i = none := by
  unfold State.entryFault
  split
  · rfl
  · rename_i r hr
    rw [s.checkEntry_passes i r (h r hr)]
    rfl

/-- The first entry that fails is the one named. -/
theorem State.validateTable_first (s : State) (i : Fin 32) (r : Region) (b : BadTable) (k : Nat)
    (hi : s.region i = some r) (hlt : ∀ j q, j < i → s.region j = some q → EntryPasses s j q)
    (hc : s.checkEntry i r = some (b, k)) : s.validateTable = some (i.val, b, k) := by
  have hf : s.entryFault i = some (i.val, b, k) := by
    unfold State.entryFault
    rw [hi]
    dsimp only
    rw [hc]
    rfl
  rw [s.validateTable_eq, allRegions_findSome _ i _ hf fun j hj => s.entryFault_passes j fun q hq => hlt j q hj hq]

/-- Every entry passes: only the VITAL entry can be missing. -/
theorem State.validateTable_passes (s : State) (h : ∀ i r, s.region i = some r → EntryPasses s i r) :
    s.validateTable = if allRegions.any (fun i => (s.region i).any (fun r => r.cls == .vital)) then none
      else some (32, .noVital, 0) := by
  have hn : allRegions.findSome? s.entryFault = none :=
    List.findSome?_eq_none_iff.2 fun i _ => s.entryFault_passes i (h i)
  rw [s.validateTable_eq, hn]

theorem State.anyVital_iff (s : State) :
    allRegions.any (fun i => (s.region i).any (fun r => r.cls == .vital)) = true ↔
      ∃ i r, s.region i = some r ∧ r.cls = .vital := by
  rw [List.any_eq_true]
  constructor
  · rintro ⟨i, -, hi⟩
    cases hr : s.region i with
    | none => rw [hr] at hi; cases hi
    | some r =>
      rw [hr, Option.any_some, beq_iff_eq] at hi
      exact ⟨i, r, hr, hi⟩
  · rintro ⟨i, r, hr, hv⟩
    exact ⟨i, mem_allRegions i, by rw [hr, Option.any_some, hv]; rfl⟩

/-! ### The digest of the table's image -/

/-- R55: the digest is the sum of the words, each times its place from the start. -/
theorem digestFrom_eq (start : Nat) (ws : List Word) : digestFrom start ws =
    ((List.range ws.length).map (fun k => ((ws[k]?).getD 0).toNat * (start + k + 1))).sum % Config.digestModulus := by
  induction ws generalizing start with
  | nil => rfl
  | cons w ws ih =>
    rw [digestFrom, ih, List.length_cons, List.range_succ_eq_map, List.map_cons, List.sum_cons, List.map_map,
      Nat.add_mod_mod]
    congr 3
    refine List.map_congr_left fun k _ => ?_
    simp only [Function.comp_apply, List.getElem?_cons_succ]
    congr 1
    omega

theorem image_length (t : Rgt) : t.image.length = 96 := by
  unfold Rgt.image allRegions
  simp

/-! ### The command -/

/-- What TABLE_CLOSE answers in LOAD. -/
theorem State.cmdTableClose_of (s : State) (h : s.mdc.mode = .load) : s.cmdTableClose = match s.validateTable with
    | some (i, reason, earlier) => s.answer .badTable [word i, word reason.code, word earlier]
    | none => s.closeTable.answer .done [word s.validRegions.length, word s.digestRegions.length] :=
  s.acceptedIn_of _ _ (by rw [h]; rfl)

theorem State.presented_validateTable (s : State) (code : Word) (ps : List Word) :
    (s.presented code ps).validateTable = s.validateTable := by rw [s.presented_words]; rfl

/-- A table that fails leaves the part as it is. -/
theorem exec_tableClose_bad (s : State) (i : Nat) (b : BadTable) (k : Nat) (hb : BusFree s) (hm : s.mdc.mode = .load)
    (hv : s.validateTable = some (i, b, k)) :
    ∃ t, exec .tableClose s = .next t ∧ Commanded s t 7 [] .badTable [word i, word b.code, word k] ∧
      OnlyAnswers s t := by
  refine ⟨_, rfl, s.issue_answered 7 [] _ .badTable _ hb (by simp) ?_⟩
  rw [State.cmdTableClose_of _ (by simpa using hm), s.presented_validateTable, hv]

/-- The close of a table that passes (R7). -/
theorem State.closeTable_eq (s : State) (h : s.mdc.mode = .load) : s.closeTable =
    (({ s with
        rgt := { s.rgt with closed := true }
        dgu := { records := Vector.replicate 32 DigestRecord.initial, tableDigest := digestOf s.rgt.image } } :
      State).setMode .loaded).fire .modeChanged := by
  unfold State.closeTable
  dsimp only
  rw [State.requestMode_plain _ .loaded (by show s.mdc.mode.leadsTo _ = true; rw [h]; rfl) nofun rfl]
  rfl

theorem State.validRegions_length (s : State) :
    s.validRegions.length = allRegions.countP (fun i => (s.region i).isSome) :=
  List.countP_eq_length_filter.symm

theorem State.digestRegions_length (s : State) :
    s.digestRegions.length = allRegions.countP (fun i => (s.region i).any (fun q => q.cls != .nonvital)) := by
  unfold State.digestRegions
  rw [← List.countP_eq_length_filter]
  refine List.countP_congr fun i _ => ?_
  cases hr : s.region i with
  | none => simp [State.isDigestRegion, hr]
  | some r => cases hc : r.cls <;> simp [State.isDigestRegion, hr, Region.isDigest, hc]

/-- Settles O30: the entries before the first failing one pass, and the checks of that one are in order. -/
theorem tableCloseValidatesAndCloses : Obligations.TableCloseValidatesAndCloses := by
  refine ⟨fun s i r hb hm hi hlt => ?_, fun s hb hm hp hn => ?_, fun s v r hb hm hp hv hr => ?_⟩
  · have hbad (b : BadTable) (k : Nat) (hc : s.checkEntry i r = some (b, k)) :=
      exec_tableClose_bad s i.val b k hb hm (s.validateTable_first i r b k hi hlt hc)
    refine ⟨fun h => hbad _ 0 (s.checkEntry_baseAlign i r h), fun h h0 => hbad _ 0 (s.checkEntry_lengthZero i r h h0),
      fun h h0 hl => hbad _ 0 (s.checkEntry_beyondLimit i r h h0 hl), fun h h0 hl j q hj hq h1 h2 hk => ?_⟩
    refine hbad .overlap j.val ?_
    rw [s.checkEntry_overlap i r h h0 hl, s.earlierOverlap_some i j r q hj hq h1 h2 hk]
    rfl
  · refine exec_tableClose_bad s 32 .noVital 0 hb hm ?_
    rw [s.validateTable_passes hp, if_neg]
    rw [s.anyVital_iff]
    rintro ⟨i, r, hi, hc⟩
    exact hn i r hi hc
  · have hvalid : s.validateTable = none := by
      rw [s.validateTable_passes hp, if_pos (s.anyVital_iff.2 ⟨v, r, hv, hr⟩)]
    have hmp : (s.presented 7 []).mdc.mode = .load := by simpa using hm
    have hf := (s.presented 7 []).cmdTableClose_of hmp
    rw [s.presented_validateTable, hvalid, State.closeTable_eq _ hmp, State.validRegions_length,
      State.digestRegions_length, State.presented_region] at hf
    obtain ⟨hcmd, x, ws, ht⟩ := s.issue_changed 7 [] _ _ .done _ hb (by simp) hf rfl (by simp)
    refine ⟨_, rfl, hcmd, ?_⟩
    rw [ht, s.presented_words]
    obtain ⟨hfired, hcount, hcapt, -⟩ := fired_of_evu s _ .modeChanged rfl
    refine ⟨rfl, rfl, fun i => Vector.getElem_replicate _, ?_, image_length _, hfired, hcount, hcapt, rfl⟩
    have hd := digestFrom_eq 0 s.rgt.image
    simp only [image_length, Nat.zero_add] at hd
    exact hd

end Sys2Proof.Machine
end

section
/-! The slots of a group and its end as the statements of the read and write ends (O44, O45) speak of them. -/

namespace Sys2Proof.Machine

/-- Two states that hold the same in every block are the same. -/
theorem State.eq_of_blocks {s t : State} (h : s.chanId = t.chanId ∧ s.msize = t.msize ∧ s.txi = t.txi ∧ s.rgt = t.rgt ∧
    s.msq = t.msq ∧ s.ret = t.ret ∧ s.srm = t.srm ∧ s.dgu = t.dgu ∧ s.ptl = t.ptl ∧ s.lkc = t.lkc ∧ s.vtu = t.vtu ∧
    s.mdc = t.mdc ∧ s.rse = t.rse ∧ s.evu = t.evu ∧ s.cmi = t.cmi ∧ s.mem = t.mem ∧ s.pending = t.pending) : s = t := by
  cases s
  cases t
  simpa using h

/-! ### Slots -/

theorem State.readSlot_lookup (s : State) (g : Group) (m : CellSample) (key : Nat) :
    memLookup (s.readSlot g.row g.word m).1.mem key =
      if key = groupKey g then some (found s g m) else memLookup s.mem key := memLookup_memInsert _ _ _ _

/-- What the writes of a group leave at every location (R22, R28). -/
theorem State.writeRows_lookup (s : State) (g : Group) (v : Word) (key : Nat) :
    memLookup (s.writeRows g.row g.word g.mirror v).mem key =
      if key ∈ writtenKeys g then some { data := v, flips := 0 } else memLookup s.mem key := by
  unfold State.writeRows writtenKeys
  cases g.mirror with
  | none => simp [State.writeSlot, memLookup_memInsert, cellKey, groupKey, Config.rowWords]
  | some r =>
    simp only [State.writeSlot, memLookup_memInsert, cellKey, groupKey, Config.rowWords, Option.map_some,
      Option.toList_some, List.mem_cons, List.not_mem_nil, or_false]
    split <;> split <;> simp_all

theorem groupKey_mem (g : Group) : groupKey g ∈ writtenKeys g := List.mem_cons_self

theorem stores_of_mem {s t : State} {g : Group} {v : Word} (h : t.mem = (s.writeRows g.row g.word g.mirror v).mem) :
    Stores t g v := by
  intro key hk
  rw [h, s.writeRows_lookup, if_pos hk]

/-- A group that reads and then writes leaves every other location. -/
theorem cellsKept_of_writeRows {s x t : State} {g : Group} {v : Word}
    (hx : ∀ key, key ≠ groupKey g → memLookup x.mem key = memLookup s.mem key)
    (h : t.mem = (x.writeRows g.row g.word g.mirror v).mem) : CellsKept s t (writtenKeys g) := by
  intro key hk
  rw [h, x.writeRows_lookup, if_neg hk, hx key fun e => hk (e ▸ groupKey_mem g)]

theorem State.readSlot_others (s : State) (g : Group) (m : CellSample) (key : Nat) (h : key ≠ groupKey g) :
    memLookup (s.readSlot g.row g.word m).1.mem key = memLookup s.mem key := by
  rw [s.readSlot_lookup, if_neg h]

/-- A group that only reads leaves the word as it found it. -/
theorem cellsKept_of_readSlot {s t : State} {g : Group} {m : CellSample}
    (h : t.mem = (s.readSlot g.row g.word m).1.mem) :
    memLookup t.mem (groupKey g) = some (found s g m) ∧ CellsKept s t [groupKey g] := by
  refine ⟨by rw [h, s.readSlot_lookup, if_pos rfl], fun key hk => ?_⟩
  rw [h, s.readSlot_others g m key (by simpa using hk)]

theorem CellsKept.mono {s t : State} {k l : List Nat} (h : CellsKept s t k) (hs : ∀ key ∈ k, key ∈ l) :
    CellsKept s t l := fun key hk => h key fun hm => hk (hs key hm)

/-! ### The word is done and the group leaves the port -/

/-- TXI's part of the end (R17 to R19). -/
theorem State.wordDone_answered (s : State) (st : ResponseStatus) (data : List Word) (hw : s.txi.waiting = []) :
    WordAnswered s (s.wordDone st data) st data := by
  unfold State.wordDone
  refine ⟨fun hn => by rw [hn], fun h hh => ?_⟩
  rw [hh]
  dsimp only
  refine ⟨fun h1 h2 => ?_, fun h2 => ?_⟩
  · have hwr : h.writes.tail.isEmpty = true := by
      rw [List.isEmpty_iff_length_eq_zero, List.length_tail]
      omega
    rw [if_pos (by rw [hwr]; simpa using by omega)]
    unfold State.respondTxi
    dsimp only
    rw [hw]
  · rw [if_neg]
    rw [Bool.and_eq_true, decide_eq_true_iff, List.isEmpty_iff_length_eq_zero, List.length_tail]
    omega

theorem WordAnswered.congr {s t x y : State} {st : ResponseStatus} {data : List Word} (h : WordAnswered x y st data)
    (hx : x.txi = s.txi) (hy : t.txi = y.txi) : WordAnswered s t st data := by
  unfold WordAnswered at h ⊢
  rwa [hy, ← hx]

theorem WaitingStarts.congr {s t x : State} (h : WaitingStarts x t) (hsrm : x.srm = s.srm) (hret : x.ret = s.ret) :
    WaitingStarts s t := by
  unfold WaitingStarts MoveWaits at h ⊢
  rwa [← hsrm, ← hret]

/-- What a processor group does last: the word is done, and the group leaves the port. -/
def State.finish (s : State) (st : ResponseStatus) (data : List Word) : State := (s.wordDone st data).endGroup

@[simp] theorem State.finish_frame (s : State) (st : ResponseStatus) (data : List Word) :
    (s.finish st data).chanId = s.chanId ∧ (s.finish st data).msize = s.msize ∧ (s.finish st data).rgt = s.rgt ∧
    (s.finish st data).msq = { s.msq with port := none } ∧ (s.finish st data).dgu = s.dgu ∧
    (s.finish st data).ptl = s.ptl ∧ (s.finish st data).lkc = s.lkc ∧ (s.finish st data).vtu = s.vtu ∧
    (s.finish st data).mdc = s.mdc ∧ (s.finish st data).rse = s.rse ∧ (s.finish st data).evu = s.evu ∧
    (s.finish st data).cmi = s.cmi ∧ (s.finish st data).mem = s.mem ∧ (s.finish st data).pending = s.pending := by
  unfold State.finish
  simp [State.endGroup_msq]

theorem State.finish_record (s : State) (st : ResponseStatus) (data : List Word) (i : Fin 32) :
    (s.finish st data).record i = s.record i := by
  unfold State.record
  rw [(s.finish_frame st data).2.2.2.2.1]

theorem State.finish_answered {s x : State} (st : ResponseStatus) (data : List Word) (hx : x.txi = s.txi)
    (hw : s.txi.waiting = []) : WordAnswered s (x.finish st data) st data :=
  (x.wordDone_answered st data (hx ▸ hw)).congr hx (by simp [State.finish])

theorem State.finish_starts {s x : State} (st : ResponseStatus) (data : List Word) (hsrm : x.srm = s.srm)
    (hret : x.ret = s.ret) : WaitingStarts s (x.finish st data) :=
  (x.wordDone st data).endGroup_starts.congr (by simp [hsrm]) (by simp [hret])

/-- The start of a move that waited depends, in the spares and entries, on the spares and entries alone. -/
theorem State.startChosen_rows (x y : State) (row : Nat) (hsrm : x.srm = y.srm) (hret : x.ret = y.ret) :
    (x.startChosen row).srm = (y.startChosen row).srm ∧ (x.startChosen row).ret = (y.startChosen row).ret := by
  have hfree : x.lowestFree = y.lowestFree := by unfold State.lowestFree; rw [hsrm]
  have hmoving : x.moving = y.moving := by unfold State.moving; rw [hsrm]
  unfold State.startChosen State.startMove State.setSpare State.setEntries
  rw [hfree, hmoving, hret]
  split
  · split
    · exact ⟨by rw [hsrm], rfl⟩
    · exact ⟨hsrm, hret⟩
  · exact ⟨hsrm, hret⟩

/-- So does the end of a group. -/
theorem State.endGroup_rows (x y : State) (hsrm : x.srm = y.srm) (hret : x.ret = y.ret) :
    x.endGroup.srm = y.endGroup.srm ∧ x.endGroup.ret = y.endGroup.ret := by
  unfold State.endGroup
  rw [hsrm]
  cases y.srm.startWaiting with
  | none => exact ⟨rfl, hret⟩
  | some row => exact State.startChosen_rows _ _ row rfl hret

theorem State.finish_rows (x y : State) (st : ResponseStatus) (data : List Word) (hsrm : x.srm = y.srm)
    (hret : x.ret = y.ret) : (x.finish st data).srm = y.endGroup.srm ∧ (x.finish st data).ret = y.endGroup.ret :=
  State.endGroup_rows _ _ (by simp [hsrm]) (by simp [hret])

end Sys2Proof.Machine
end

section
/-! What the consequences of a read slot's outcome and of a write leave as the report has put it: flags stay set, capture
records and the two error counters stand, and a digest record that has been lost stays lost. -/

namespace Sys2Proof.Machine

variable {r s t : State}

/-- A record whose digest has been lost: INVALID with D 0, and no audit running (R58). -/
def DigestRecord.Lost (x : DigestRecord) : Prop := x.valid = false ∧ x.digest = 0 ∧ x.running = false

/-- What follows a report, up to the end of the step. -/
structure Aftermath (s t : State) : Prop where
  flags : ∀ ev, FlagSet s ev → FlagSet t ev
  captures : CapturesKept s t
  counters : ∀ c : Counter, c = .corrected ∨ c = .uncorrectable → t.evu.counters[c.index] = s.evu.counters[c.index]
  lost : ∀ i, (s.record i).Lost → (t.record i).Lost

theorem Aftermath.refl (s : State) : Aftermath s s := ⟨fun _ => id, fun _ => rfl, fun _ _ => rfl, fun _ => id⟩

theorem Aftermath.trans (h : Aftermath r s) (k : Aftermath s t) : Aftermath r t :=
  ⟨fun ev f => k.flags ev (h.flags ev f), fun c => (k.captures c).trans (h.captures c),
    fun c hc => (k.counters c hc).trans (h.counters c hc), fun i l => k.lost i (h.lost i l)⟩

/-- The event unit and the digest unit stand. -/
theorem Aftermath.of_frame (h : Aftermath r s) (he : t.evu = s.evu) (hd : t.dgu = s.dgu) : Aftermath r t := by
  refine h.trans ⟨fun ev f => ?_, fun c => by rw [he], fun c _ => by rw [he], fun i l => ?_⟩
  · unfold FlagSet at f ⊢
    rwa [he]
  · unfold State.record at l ⊢
    rwa [hd]

/-! ### Single operations -/

theorem Aftermath.fire (h : Aftermath r s) (ev : Event) : Aftermath r (s.fire ev) := by
  refine h.trans ⟨fun x f => ?_, (State.fire_evu s ev).2.2, fun c _ => by rw [(State.fire_evu s ev).1], fun _ => id⟩
  unfold FlagSet at f ⊢
  rw [State.fire_flag, f, Bool.true_or]

theorem Aftermath.count (h : Aftermath r s) (c : Counter) (hc : c ≠ .corrected ∧ c ≠ .uncorrectable) :
    Aftermath r (s.count c) := by
  refine h.trans ⟨fun x f => ?_, (State.count_evu s c).2.2.2.2, fun d hd => ?_, fun _ => id⟩
  · unfold FlagSet at f ⊢
    rwa [(State.count_evu s c).1]
  · rw [State.count_counter, if_neg]
    rintro ⟨rfl, -⟩
    obtain rfl | rfl := hd
    · exact hc.1 rfl
    · exact hc.2 rfl

theorem Aftermath.setPtl (h : Aftermath r s) (x : Ptl) : Aftermath r (s.setPtl x) := h.of_frame rfl rfl

theorem Aftermath.setRse (h : Aftermath r s) (x : Rse) : Aftermath r (s.setRse x) := h.of_frame rfl rfl

theorem Aftermath.setMode (h : Aftermath r s) (m : Mode) : Aftermath r (s.setMode m) := h.of_frame rfl rfl

theorem Aftermath.setEntries (h : Aftermath r s) (es : List RowEntry) : Aftermath r (s.setEntries es) := h.of_frame rfl rfl

theorem Aftermath.forget (h : Aftermath r s) (who : WordOp → Bool) : Aftermath r (s.forget who) := h.of_frame rfl rfl

theorem Aftermath.dropWork (h : Aftermath r s) : Aftermath r s.dropWork := h.of_frame rfl rfl

/-- A record that is not lost by the change alone: a lost one stays so. -/
theorem Aftermath.updateRecord (h : Aftermath r s) (i : Fin 32) (f : DigestRecord → DigestRecord)
    (hf : (s.record i).Lost → (f (s.record i)).Lost) : Aftermath r (s.updateRecord i f) := by
  refine h.trans ⟨fun _ => id, fun _ => rfl, fun _ _ => rfl, fun j l => ?_⟩
  rw [State.updateRecord_record]
  split
  · rename_i hj
    exact hf (hj ▸ l)
  · exact l

theorem Aftermath.auditStop (h : Aftermath r s) (i : Fin 32) : Aftermath r (s.updateRecord i DigestRecord.auditStop) :=
  h.updateRecord i _ fun ⟨hv, hd, _⟩ => ⟨hv, hd, rfl⟩

theorem Aftermath.offerFrame (h : Aftermath r s) (p : Port) (f : Frame) : Aftermath r (s.offerFrame p f) := by
  obtain ⟨-, hf, hk, hc⟩ := State.offerFrame_offered s p f
  refine h.trans ⟨fun ev hev => (hf ev).2 (.inl hev), hk, fun c hcc => ?_, fun i l => ?_⟩
  · rw [hc c, if_neg]
    rintro ⟨hm, -⟩
    unfold dropped at hm
    split at hm
    · rw [List.mem_singleton] at hm
      subst hm
      simp at hcc
    · simp at hm
  · unfold State.record at l ⊢
    simpa using l

/-! ### Row moves and services -/

theorem Aftermath.chooseMove (h : Aftermath r s) : Aftermath r s.chooseMove := by
  unfold State.chooseMove
  split
  · exact h
  · split
    · exact h.fire _
    · split
      · exact h.of_frame rfl rfl
      · exact h.of_frame rfl rfl

theorem Aftermath.moveOccasion (h : Aftermath r s) (m : Mode) : Aftermath r (s.moveOccasion m) := by
  unfold State.moveOccasion
  split
  · exact h.chooseMove
  · exact h

theorem Aftermath.reportRow (h : Aftermath r s) (row w : Nat) : Aftermath r (s.reportRow row w) := by
  unfold State.reportRow State.hitRow State.newRow
  dsimp only
  split
  · split
    · exact ((h.setEntries _).fire _).chooseMove
    · exact h.setEntries _
  · split
    · exact h.setEntries _
    · exact (h.fire _).count _ (by decide)

theorem Aftermath.endService (h : Aftermath r s) (w : Option Word) : Aftermath r (s.endService w) := by
  unfold State.endService
  split
  · exact h
  · dsimp only
    refine ((Aftermath.forget ?_ _).setRse _).fire _
    split
    · exact h.offerFrame _ _
    · exact h

theorem Aftermath.endReentry (h : Aftermath r s) (w : Word) : Aftermath r (s.endReentry w) := by
  unfold State.endReentry
  split
  · exact h
  · exact ((h.offerFrame _ _).setRse _).fire _

theorem Aftermath.endRepair (h : Aftermath r s) (w : Word) (b : Bool) : Aftermath r (s.endRepair w b) := by
  unfold State.endRepair
  split
  · exact h
  · refine (Aftermath.setRse ?_ _).fire _
    split
    · exact h.offerFrame _ _
    · exact h

theorem Aftermath.endServices (h : Aftermath r s) (w : Word) (b : Bool) : Aftermath r (s.endServices w b) := by
  unfold State.endServices
  exact ((((h.endService _).endReentry _).endRepair _ _).forget _).dropWork.setRse _

theorem Aftermath.queueForward (h : Aftermath r s) (v : Service) (a : Nat) (w : Word) :
    Aftermath r (s.queueForward v a w) := by
  unfold State.queueForward
  split
  · exact h.setRse _
  · split
    · exact (h.count _ (by decide)).setRse _
    · exact (h.count _ (by decide)).endService _

theorem Aftermath.reportSource (h : Aftermath r s) (g : Group) (c : Bool) (v : Word) :
    Aftermath r (s.reportSource g c v) := by
  unfold State.reportSource State.sourceWrite
  split
  · split
    · split
      · exact h
      · split
        · exact h
        · split
          · exact h
          · exact h.setRse _
          · exact h.queueForward _ _ _
    · exact h
  · exact h

/-! ### The patrol -/

/-- The pass starts an audit of a VALID region alone (R72). -/
theorem Aftermath.enterScrub (h : Aftermath r s) (i : Fin 32) : Aftermath r (s.enterScrub i) := by
  unfold State.enterScrub
  refine Aftermath.setPtl ?_ _
  split
  · rename_i hr
    refine h.updateRecord i _ fun ⟨hv, _, _⟩ => ?_
    unfold State.rides at hr
    rw [hv, Bool.and_false, Bool.false_and] at hr
    cases hr
  · exact h

theorem Aftermath.beginPass (h : Aftermath r s) : Aftermath r s.beginPass := by
  unfold State.beginPass
  split
  · exact h.enterScrub _
  · exact h.setPtl _

theorem Aftermath.scrubTo (h : Aftermath r s) (i : Fin 32) (w : Nat) : Aftermath r (s.scrubTo i w) := by
  unfold State.scrubTo State.nextScrubRegion State.completePass
  split
  · exact h.setPtl _
  · split
    · exact h.enterScrub _
    · exact ((h.count _ (by decide)).setPtl _).beginPass

theorem Aftermath.skipListed (k : Nat) (h : Aftermath r s) : Aftermath r (State.skipListed k s) := by
  induction k generalizing s with
  | zero => exact h
  | succ k ih =>
    unfold State.skipListed
    split
    · split
      · exact ih (h.scrubTo _ _)
      · exact h
    · exact h

theorem Aftermath.skip (h : Aftermath r s) : Aftermath r s.skip := h.skipListed _

theorem Aftermath.startScrub (h : Aftermath r s) : Aftermath r s.startScrub := (h.setPtl _).beginPass.skip

theorem Aftermath.stopAuditHere (h : Aftermath r s) : Aftermath r s.stopAuditHere := by
  unfold State.stopAuditHere
  split
  · exact h.auditStop _
  · exact h

theorem Aftermath.resumeScrub (h : Aftermath r s) : Aftermath r s.resumeScrub := by
  unfold State.resumeScrub
  split
  · exact h
  · dsimp only
    split
    · split
      · exact ((h.setPtl _).enterScrub _).skip
      · exact (h.setPtl _).skip
    · exact h.setPtl _

theorem Aftermath.patrolIsolated (h : Aftermath r s) (m : Mode) : Aftermath r (s.patrolIsolated m) := by
  unfold State.patrolIsolated
  split
  · exact (h.forget _).startScrub
  · exact h.startScrub
  · split
    · exact (h.forget _).stopAuditHere.startScrub
    · exact h.startScrub
  · split
    · exact (h.forget _).stopAuditHere.resumeScrub
    · exact h.setPtl _

theorem Aftermath.abandonRiding (h : Aftermath r s) (i : Fin 32) : Aftermath r (s.abandonRiding i) := by
  unfold State.abandonRiding State.stopRiding
  split
  · split
    · exact (h.auditStop _).setPtl _
    · exact h
  · split
    · split
      · exact (h.auditStop _).setPtl _
      · exact h
    · exact h

/-! ### Isolation and repair -/

theorem Aftermath.isolateFor (h : Aftermath r s) (c : Cause) : Aftermath r (s.isolateFor c) := by
  unfold State.isolateFor State.enterIsolated
  dsimp only
  split
  · have hm : Aftermath r ({ s.setMode .isolated with mdc := { (s.setMode .isolated).mdc with cause := c } } :
        State).voteIsolated := h.of_frame rfl rfl
    exact ((((hm.endServices _ _).fire _).fire _).patrolIsolated _).moveOccasion _
  · exact h

theorem Aftermath.askBlock (h : Aftermath r s) (v : Repair) (p : Port) : Aftermath r (s.askBlock v p) :=
  (h.setRse _).offerFrame _ _

theorem Aftermath.seekBlock (k : Nat) (h : Aftermath r s) : Aftermath r (State.seekBlock k s) := by
  induction k generalizing s with
  | zero => exact h.isolateFor _
  | succ k ih =>
    unfold State.seekBlock
    split
    · exact h
    · split
      · exact h.isolateFor _
      · split
        · exact h.askBlock _ _
        · exact ih (h.askBlock _ _)

theorem Aftermath.askFirst (h : Aftermath r s) : Aftermath r s.askFirst := by
  unfold State.askFirst
  split
  · exact h
  · exact (h.setRse _).seekBlock 3

theorem Aftermath.blockJoined (h : Aftermath r s) (i : Fin 32) : Aftermath r (s.blockJoined i) := by
  unfold State.blockJoined State.repairStopped
  dsimp only
  split
  · exact (((h.abandonRiding i).forget _).stopAuditHere.askFirst).resumeScrub
  · split
    · exact ((h.abandonRiding i).setPtl _).askFirst
    · split
      · exact h.abandonRiding i
      · exact (h.abandonRiding i).skip

/-- The change of mode into REPAIR, which the patrol does not follow (Table 5.3). -/
theorem State.requestMode_repair (s : State) : s.requestMode .repair =
    if s.mdc.mode.leadsTo .repair then ((s.setMode .repair).fire .modeChanged).chooseMove else s := rfl

theorem Aftermath.enterRepair (h : Aftermath r s) (i : Fin 32) (b : Nat) : Aftermath r (s.enterRepair i b) := by
  unfold State.enterRepair
  rw [State.requestMode_repair]
  refine ((Aftermath.blockJoined ?_ i).setRse _).askFirst
  split
  · exact ((((h.endService _).setRse _).setMode _).fire _).chooseMove
  · exact (h.endService _).setRse _

theorem Aftermath.joinRepair (h : Aftermath r s) (i : Fin 32) (b : Nat) : Aftermath r (s.joinRepair i b) := by
  unfold State.joinRepair
  split
  · exact h
  · split
    · exact Aftermath.blockJoined (h.setRse _) i
    · exact h.isolateFor _

/-- Whatever Table 8.4 asks for. -/
theorem Aftermath.consequence (h : Aftermath r s) (pl : WordPlace) (a : Nat) : Aftermath r (s.consequence pl a) := by
  unfold State.consequence
  split
  all_goals first | exact h.isolateFor _ | exact h.enterRepair _ _ | exact h.joinRepair _ _ | exact h

/-! ### The two reports -/

/-- The state with a corrected error counted and flagged (R30), and one with an uncorrectable one captured too (R31): what
comes before the row table and the consequence. -/
def State.noteCorrected (s : State) : State := (s.count .corrected).fire .memCorrected

def State.noteUncorrectable (s : State) (g : Group) : State :=
  ((s.count .uncorrectable).fire .memUncorrectable).offerCapture .memory g.op.requester (some g.op.addr)
    (.memory g.op.detail)

theorem State.reportCorrected_eq (s : State) (g : Group) :
    s.reportCorrected g = s.noteCorrected.reportRow g.row g.word := rfl

theorem State.reportUncorrectable_eq (s : State) (g : Group) : s.reportUncorrectable g = match g.place with
    | some pl => (s.noteUncorrectable g).consequence pl g.op.addr
    | none => s.noteUncorrectable g := rfl

theorem State.reportUncorrectable_aftermath (s : State) (g : Group) :
    Aftermath (s.noteUncorrectable g) (s.reportUncorrectable g) := by
  rw [State.reportUncorrectable_eq]
  split
  · exact (Aftermath.refl _).consequence _ _
  · exact .refl _

theorem State.noteCorrected_flags (s : State) : Fired s s.noteCorrected [.memCorrected] := by
  intro ev
  unfold FlagSet State.noteCorrected
  rw [State.fire_flag, (State.count_evu s .corrected).1]
  simp

theorem State.noteCorrected_captures (s : State) : CapturesKept s s.noteCorrected := fun k =>
  ((State.fire_evu _ _).2.2 k).trans ((State.count_evu s .corrected).2.2.2.2 k)

theorem State.noteCorrected_counter (s : State) : s.noteCorrected.evu.counters[(0 : Fin 16)] =
    if s.evu.counters[(0 : Fin 16)] < 65535 then s.evu.counters[(0 : Fin 16)] + 1 else s.evu.counters[(0 : Fin 16)] := by
  have h := s.count_counter .corrected .corrected
  simp only [true_and] at h
  unfold State.noteCorrected
  rw [(State.fire_evu ..).1]
  exact h

theorem State.noteUncorrectable_evu (s : State) (g : Group) : (s.noteUncorrectable g).evu =
    (((s.count .uncorrectable).fire .memUncorrectable).offerCapture .memory g.op.requester (some g.op.addr)
      (.memory g.op.detail)).evu := rfl

theorem State.noteUncorrectable_flags (s : State) (g : Group) : Fired s (s.noteUncorrectable g) [.memUncorrectable] := by
  intro ev
  unfold FlagSet
  rw [s.noteUncorrectable_evu, (State.offerCapture_evu ..).1, State.fire_flag, (State.count_evu s _).1]
  simp

theorem State.noteUncorrectable_captured (s : State) (g : Group) : Captured s (s.noteUncorrectable g) .memory
    g.op.requester (some g.op.addr) (.memory g.op.detail) := by
  have hk (k : CaptureClass) : ((s.count .uncorrectable).fire .memUncorrectable).evu.capture k = s.evu.capture k :=
    ((State.fire_evu _ _).2.2 k).trans ((State.count_evu s _).2.2.2.2 k)
  refine ⟨?_, ?_, fun k h => ?_⟩
  · rw [s.noteUncorrectable_evu, State.offerCapture_capture, if_pos rfl, hk]
    simp [Capture.offered]
  · rw [s.noteUncorrectable_evu, State.offerCapture_capture, if_pos rfl, hk]
    simp only [Capture.offered, Config.repeatTop]
    rfl
  · rw [s.noteUncorrectable_evu, State.offerCapture_capture, if_neg h, hk]

theorem State.noteUncorrectable_counter (s : State) (g : Group) : (s.noteUncorrectable g).evu.counters[(1 : Fin 16)] =
    if s.evu.counters[(1 : Fin 16)] < 65535 then s.evu.counters[(1 : Fin 16)] + 1 else s.evu.counters[(1 : Fin 16)] := by
  have h := s.count_counter .uncorrectable .uncorrectable
  simp only [true_and] at h
  rw [s.noteUncorrectable_evu, (State.offerCapture_evu ..).2.1, (State.fire_evu ..).1]
  exact h

theorem Captured.aftermath {k : CaptureClass} {q : Requester} {a : Option Nat} {d : Detail} (h : Captured r s k q a d)
    (ha : Aftermath s t) : Captured r t k q a d := by
  obtain ⟨hf, hr, ho⟩ := h
  exact ⟨by rw [ha.captures k, hf], by rw [ha.captures k, hr], fun k' hk => (ha.captures k').trans (ho k' hk)⟩

end Sys2Proof.Machine
end

section
/-! A corrected-error report within a processor group, and the end of that group: the row table (R38, R39) and the move that
may start (R45, R46). -/

namespace Sys2Proof.Machine

/-! ### A move chosen while a processor group is in flight -/

theorem MoveChosen.congr {srm : Srm} {es : List RowEntry} {permitted permitted' waits : Prop} {u t : State}
    (h : MoveChosen srm es permitted waits u) (hp : permitted' ↔ permitted) (hs : t.srm = u.srm)
    (hr : t.ret.entries = u.ret.entries) (hf : FlagSet u .sparesExhausted → FlagSet t .sparesExhausted) :
    MoveChosen srm es permitted' waits t := by
  obtain ⟨hno, hyes⟩ := h
  rw [← hp] at hno hyes
  refine ⟨fun h => ?_, fun h k e hk he hl => ?_⟩
  · rw [hs, hr]
    exact hno h
  · obtain ⟨hfree, hfull⟩ := hyes h k e hk he hl
    rw [hs, hr]
    exact ⟨hfree, fun hn => ⟨(hfull hn).1, (hfull hn).2.1, hf (hfull hn).2.2⟩⟩

/-- A group in flight keeps a chosen move waiting: the row table stands. -/
theorem State.chooseMove_ret (s : State) (g : Group) (hp : s.msq.port = some g) : s.chooseMove.ret = s.ret := by
  unfold State.chooseMove
  rw [hp]
  split
  · rfl
  · split
    · rfl
    · rfl

/-- The choice of a move with a group other than a copy in flight, seen at that group's end. -/
theorem State.chooseMove_atEnd (s : State) (g : Group) (hn : (s.ret.entries.map (·.row)).Nodup)
    (hw : s.srm.startWaiting = none) (hp : s.msq.port = some g) (hg : ∀ a, g.op ≠ .moveCopy a) :
    MoveChosen s.srm s.ret.entries (MovePermitted s s.mdc.mode) False s.chooseMove.endGroup := by
  by_cases hm : ∀ i : Fin 16, s.srm.spares[i].isMoving = false
  · refine (s.chooseMove_endGroup hn hm hw (by rw [hp]; simp)).congr ?_ rfl rfl id
    exact ⟨fun h => h.1, fun h => ⟨h, hw, .inl hm⟩⟩
  · have hno : ¬ MovePermitted s s.mdc.mode := by
      rintro ⟨-, -, h | ⟨g', a, hg', ho, -⟩⟩
      · exact hm h
      · rw [hp] at hg'
        cases hg'
        exact hg a ho
    obtain ⟨hr, hs⟩ := (s.chooseMove_chosen hn).1 (.inl hno)
    have he := s.chooseMove.endGroup_starts.1 (by unfold MoveWaits; rw [hs, hw]; simp)
    refine ⟨fun _ => ?_, fun h => absurd h hno⟩
    rw [he.1, he.2]
    exact ⟨hr, hs⟩

/-! ### The entries at the end of a group -/

/-- Each entry stands, or was WEAK and is MOVING. -/
def EntriesMoved (es es' : List RowEntry) : Prop :=
  List.Forall₂ (fun e e' => e' = e ∨ e.state = .weak ∧ e' = { e with state := .moving }) es es'

theorem EntriesMoved.refl (es : List RowEntry) : EntriesMoved es es := List.forall₂_same.2 fun _ _ => .inl rfl

/-- The start of a move marks the WEAK entry of its row. -/
theorem State.startChosen_entries (s : State) (row : Nat) (hn : (s.ret.entries.map (·.row)).Nodup) :
    EntriesMoved s.ret.entries (s.startChosen row).ret.entries := by
  unfold State.startChosen
  split
  · split
    · rename_i h
      rw [Bool.and_eq_true, List.any_eq_true] at h
      obtain ⟨e, he, hw⟩ := h.2
      simp only [Bool.and_eq_true, beq_iff_eq] at hw
      refine List.forall₂_map_right_iff.2 (List.forall₂_same.2 fun x hx => ?_)
      by_cases hr : x.row = row
      · have hxe : x = e := List.inj_on_of_nodup_map hn hx he (hr.trans hw.1.symm)
        rw [if_pos hr, hxe]
        exact .inr ⟨hw.2, rfl⟩
      · rw [if_neg hr]
        exact .inl rfl
    · exact .refl _
  · exact .refl _

theorem State.endGroup_entries (s : State) (hn : (s.ret.entries.map (·.row)).Nodup) :
    EntriesMoved s.ret.entries s.endGroup.ret.entries := by
  have hs (row : Nat) := State.startChosen_entries
    { s with msq := { s.msq with port := none }, srm := { s.srm with startWaiting := none } } row hn
  unfold State.endGroup
  split
  · exact hs _
  · exact .refl _

theorem forall₂_getElem? {α β : Type} {R : α → β → Prop} {l : List α} {l' : List β} (h : List.Forall₂ R l l') (k : Nat)
    (a : α) (ha : l[k]? = some a) : ∃ b, l'[k]? = some b ∧ R a b := by
  induction h generalizing k with
  | nil => simp at ha
  | cons hr _ ih =>
    cases k with
    | zero =>
      rw [List.getElem?_cons_zero, Option.some.injEq] at ha
      exact ⟨_, rfl, ha ▸ hr⟩
    | succ k => exact ih k (by simpa using ha)

/-! ### A report counted in an entry -/

/-- An entry after a report for a row and a word (R39). -/
def RowEntry.reported (limit row word : Nat) (e : RowEntry) : RowEntry :=
  if e.row = row then { e with
    count := countAfter e, touched := true, last := word
    state := if e.state = .tracking ∧ limit ≤ countAfter e then .weak else e.state }
  else e

theorem reportedEntries_eq (s : State) (row word : Nat) :
    reportedEntries s row word = s.ret.entries.map (RowEntry.reported s.cmi.settings.weakLimit row word) := rfl

theorem RowEntry.hit_weakened (e : RowEntry) (limit word : Nat) :
    (e.hit word).weakened limit = RowEntry.reported limit e.row word e := by
  unfold RowEntry.weakened RowEntry.turnsWeak RowEntry.reported
  rw [if_pos rfl]
  by_cases h : e.state = .tracking ∧ limit ≤ countAfter e
  · have ht : ((e.hit word).state == .tracking && decide (limit ≤ (e.hit word).count)) = true := by
      simp only [Bool.and_eq_true, beq_iff_eq, decide_eq_true_eq]
      exact h
    rw [if_pos ht, if_pos h]
    rfl
  · have ht : ¬ ((e.hit word).state == .tracking && decide (limit ≤ (e.hit word).count)) = true := by
      simp only [Bool.and_eq_true, beq_iff_eq, decide_eq_true_eq]
      exact h
    rw [if_neg ht, if_neg h]
    rfl

theorem RowEntry.reported_row (limit row word : Nat) (e : RowEntry) : (e.reported limit row word).row = e.row := by
  unfold RowEntry.reported
  split <;> rfl

theorem RowEntry.reported_other (limit row word : Nat) (e : RowEntry) (h : e.row ≠ row) :
    e.reported limit row word = e := if_neg h

theorem reported_rows (limit row word : Nat) (es : List RowEntry) :
    (es.map (RowEntry.reported limit row word)).map (·.row) = es.map (·.row) := by
  rw [List.map_map]
  exact List.map_congr_left fun e _ => e.reported_row limit row word

/-- What a report and the end of the group leave of an entry, as the statements say it. -/
theorem RowEntry.reported_moved (limit row word : Nat) (e e' : RowEntry)
    (h : e' = e.reported limit row word ∨
      (e.reported limit row word).state = .weak ∧ e' = { e.reported limit row word with state := .moving }) :
    (e.row = row → e' = { e with state := e'.state, count := countAfter e, touched := true, last := word } ∧
      (e.state = .tracking → limit ≤ e'.count → e'.state = .weak ∨ e'.state = .moving) ∧
      (e.state = .tracking → e'.count < limit → e'.state = .tracking)) ∧
    (e.row ≠ row → e' = { e with state := e'.state }) ∧
    (e.row ≠ row ∨ e.state ≠ .tracking → e.state ≠ .weak → e'.state = e.state) ∧
    (e.state = .weak → e'.state = .weak ∨ e'.state = .moving) := by
  by_cases hr : e.row = row
  · have hrep : e.reported limit row word = { e with
        count := countAfter e, touched := true, last := word
        state := if e.state = .tracking ∧ limit ≤ countAfter e then .weak else e.state } := if_pos hr
    rw [hrep] at h
    obtain rfl | ⟨hw, rfl⟩ := h
    · refine ⟨fun _ => ⟨rfl, fun ht hl => .inl (if_pos ⟨ht, hl⟩), fun ht hl => ?_⟩, fun h => absurd hr h, fun h _ => ?_,
        fun hw => .inl ?_⟩
      · exact (if_neg fun ⟨_, hle⟩ => absurd hle (Nat.not_le.2 hl)).trans ht
      · have hnt := h.resolve_left fun h => h hr
        exact if_neg fun h => hnt h.1
      · have hnt : e.state ≠ .tracking := by rw [hw]; exact nofun
        exact (if_neg fun h => hnt h.1).trans hw
    · refine ⟨fun _ => ⟨rfl, fun _ _ => .inr rfl, fun ht hl => ?_⟩, fun h => absurd hr h, fun h hnw => ?_, fun _ => .inr rfl⟩
      · rw [if_neg fun ⟨_, hle⟩ => absurd hle (Nat.not_le.2 hl), ht] at hw
        cases hw
      · by_cases ht : e.state = .tracking ∧ limit ≤ countAfter e
        · exact (h.elim (fun h => h hr) fun h => h ht.1).elim
        · rw [if_neg ht] at hw
          exact absurd hw hnw
  · rw [e.reported_other limit row word hr] at h
    obtain rfl | ⟨hw, rfl⟩ := h
    · exact ⟨fun h => absurd h hr, fun _ => rfl, fun _ _ => rfl, fun hw => .inl hw⟩
    · exact ⟨fun h => absurd h hr, fun _ => rfl, fun _ hnw => absurd hw hnw, fun _ => .inr rfl⟩

/-! ### The report (R38, R39) -/

/-- The state whose entries have taken the report. -/
def State.rowHit (s : State) (row word : Nat) : State := s.setEntries (reportedEntries s row word)

theorem State.hitRow_eq (s : State) (e : RowEntry) (word : Nat) : s.hitRow e word =
    if (e.hit word).turnsWeak s.cmi.settings.weakLimit then ((s.rowHit e.row word).fire .rowWeak).chooseMove
    else s.rowHit e.row word := by
  have hm : s.ret.entries.map (fun x => if x.row = e.row then (x.hit word).weakened s.cmi.settings.weakLimit else x) =
      reportedEntries s e.row word := by
    rw [reportedEntries_eq]
    refine List.map_congr_left fun x _ => ?_
    by_cases h : x.row = e.row
    · rw [if_pos h, x.hit_weakened, h]
    · rw [if_neg h, x.reported_other _ _ _ h]
  unfold State.hitRow State.rowHit
  dsimp only
  rw [hm]

/-- The entry that a report finds. -/
theorem find_row_some (es : List RowEntry) (row : Nat) (h : ∃ e ∈ es, e.row = row) :
    ∃ e ∈ es, e.row = row ∧ es.find? (fun e => e.row == row) = some e := by
  cases hf : es.find? (fun e => e.row == row) with
  | none =>
    obtain ⟨e, he, hr⟩ := h
    exact absurd hr (by simpa using List.find?_eq_none.1 hf e he)
  | some e => exact ⟨e, List.mem_of_find?_eq_some hf, by simpa using List.find?_some hf, rfl⟩

theorem State.reportRow_of_found (s : State) (row word : Nat) (h : ∃ e ∈ s.ret.entries, e.row = row) :
    ∃ e ∈ s.ret.entries, e.row = row ∧ s.reportRow row word = s.hitRow e word := by
  obtain ⟨e, he, hr, hf⟩ := find_row_some _ _ h
  refine ⟨e, he, hr, ?_⟩
  unfold State.reportRow
  rw [hf]

theorem State.reportRow_of_missing (s : State) (row word : Nat) (h : ∀ e ∈ s.ret.entries, e.row ≠ row) :
    s.reportRow row word = s.newRow row word := by
  have hf : s.ret.entries.find? (fun e => e.row == row) = none :=
    List.find?_eq_none.2 fun e he => by simpa using h e he
  unfold State.reportRow
  rw [hf]

/-- The entries after a report, with a group in flight. -/
theorem State.reportRow_entries (s : State) (g : Group) (row word : Nat) (hp : s.msq.port = some g) :
    ((∃ e ∈ s.ret.entries, e.row = row) → (s.reportRow row word).ret.entries = reportedEntries s row word) ∧
    ((∀ e ∈ s.ret.entries, e.row ≠ row) → s.ret.entries.length < 64 → (s.reportRow row word).ret.entries =
      s.ret.entries ++
        [{ row, state := .tracking, count := 1, touched := true, last := word, firstSeen := s.evu.msTime }]) ∧
    ((∀ e ∈ s.ret.entries, e.row ≠ row) → 64 ≤ s.ret.entries.length →
      (s.reportRow row word).ret.entries = s.ret.entries ∧ FlagSet (s.reportRow row word) .rowTableFull) := by
  refine ⟨fun h => ?_, fun h hl => ?_, fun h hl => ?_⟩
  · obtain ⟨e, -, rfl, he⟩ := s.reportRow_of_found row word h
    rw [he, s.hitRow_eq]
    split
    · rw [State.chooseMove_ret ((s.rowHit e.row word).fire .rowWeak) g hp]
      rfl
    · rfl
  · rw [s.reportRow_of_missing row word h]
    unfold State.newRow Config.rowTableSize
    rw [if_pos hl]
    rfl
  · rw [s.reportRow_of_missing row word h]
    unfold State.newRow Config.rowTableSize
    rw [if_neg (by omega)]
    refine ⟨rfl, ?_⟩
    unfold FlagSet
    rw [(State.count_evu ..).1, State.fire_flag]
    simp

/-- The report and the end of the group, in the words of the statements. -/
theorem rowReported_of_report {s x t : State} {g : Group} {row word : Nat} (hp : x.msq.port = some g)
    (hret : x.ret = s.ret) (hlim : x.cmi.settings.weakLimit = s.cmi.settings.weakLimit)
    (htime : x.evu.msTime = s.evu.msTime) (ht : EntriesMoved (x.reportRow row word).ret.entries t.ret.entries)
    (hf : FlagSet (x.reportRow row word) .rowTableFull → FlagSet t .rowTableFull) : RowReported s t row word := by
  obtain ⟨hfound, hnew, hfull⟩ := x.reportRow_entries g row word hp
  rw [reportedEntries_eq, hret, hlim] at hfound
  rw [hret, htime] at hnew
  rw [hret] at hfull
  have hother (h : ∀ e ∈ s.ret.entries, e.row ≠ row) (e : RowEntry) (he : e ∈ s.ret.entries) :
      e.reported s.cmi.settings.weakLimit row word = e := e.reported_other _ _ _ (h e he)
  refine ⟨fun k e hk => ?_, fun h => ?_, fun h hl => ?_, fun h hl => ?_⟩
  · have hmem := List.mem_of_getElem? hk
    have hrep : (x.reportRow row word).ret.entries[k]? = some (e.reported s.cmi.settings.weakLimit row word) := by
      by_cases h : ∃ e ∈ s.ret.entries, e.row = row
      · rw [hfound h, List.getElem?_map, hk]
        rfl
      · have h' : ∀ e ∈ s.ret.entries, e.row ≠ row := fun e he hr => h ⟨e, he, hr⟩
        rw [hother h' e hmem]
        by_cases hl : s.ret.entries.length < 64
        · rw [hnew h' hl, List.getElem?_append_left (List.getElem?_eq_some_iff.1 hk).1, hk]
        · rw [(hfull h' (by omega)).1, hk]
    obtain ⟨e', he', hm⟩ := forall₂_getElem? ht k _ hrep
    exact ⟨e', he', RowEntry.reported_moved _ _ _ e e' hm⟩
  · rw [← ht.length_eq, hfound h, List.length_map]
  · have hlen := ht.length_eq
    rw [hnew h hl] at ht hlen
    refine ⟨by rw [← hlen]; simp, ?_⟩
    obtain ⟨e', he', hm⟩ := forall₂_getElem? ht s.ret.entries.length _ List.getElem?_concat_length
    rw [he']
    obtain rfl | ⟨hw, -⟩ := hm
    · rfl
    · cases hw
  · obtain ⟨he, hflag⟩ := hfull h hl
    exact ⟨by rw [← ht.length_eq, he], hf hflag⟩

/-- An entry that turns WEAK at its report gives the occasion to choose a move (R45). -/
theorem State.reportRow_of_weak (s : State) (row word : Nat) (hn : (s.ret.entries.map (·.row)).Nodup) (e : RowEntry)
    (he : e ∈ s.ret.entries) (hr : e.row = row) (ht : e.state = .tracking)
    (hl : s.cmi.settings.weakLimit ≤ countAfter e) :
    s.reportRow row word = ((s.rowHit row word).fire .rowWeak).chooseMove := by
  obtain ⟨e', he', hr', heq⟩ := s.reportRow_of_found row word ⟨e, he, hr⟩
  have hee : e' = e := List.inj_on_of_nodup_map hn he' he (hr'.trans hr.symm)
  have hw : (e'.hit word).turnsWeak s.cmi.settings.weakLimit = true := by
    rw [hee]
    unfold RowEntry.turnsWeak
    rw [Bool.and_eq_true, beq_iff_eq, decide_eq_true_iff]
    exact ⟨ht, hl⟩
  rw [heq, s.hitRow_eq, if_pos hw, hr']

end Sys2Proof.Machine
end

section
/-! The end of a processor write (O45): the rows written, the digest that follows, and the report to a source. -/

namespace Sys2Proof.Machine

/-! ### The merge of a partial write (R26) -/

/-- The bits that a byte mask selects. -/
def maskBits (k : BitVec 4) : Word :=
  (if k.getLsbD 0 then 0x000000FF else 0) ||| (if k.getLsbD 1 then 0x0000FF00 else 0) |||
    (if k.getLsbD 2 then 0x00FF0000 else 0) ||| (if k.getLsbD 3 then 0xFF000000 else 0)

theorem mergeBytes_eq (old new : Word) (k : BitVec 4) :
    mergeBytes old new k = (new &&& maskBits k) ||| (old &&& ~~~(maskBits k)) := rfl

theorem maskBits_getLsbD : ∀ (k : BitVec 4) (b : Fin 32), (maskBits k).getLsbD b.val = k.getLsbD (b.val / 8) := by
  decide

theorem mergeBytes_getLsbD (old new : Word) (k : BitVec 4) (b : Nat) (h : b < 32) :
    (mergeBytes old new k).getLsbD b = if k.getLsbD (b / 8) then new.getLsbD b else old.getLsbD b := by
  have hm := maskBits_getLsbD k ⟨b, h⟩
  rw [mergeBytes_eq]
  simp only [BitVec.getLsbD_or, BitVec.getLsbD_and, BitVec.getLsbD_not, hm, h, decide_true, Bool.true_and]
  cases k.getLsbD (b / 8) <;> simp

/-- The merge is the only word with these bits. -/
theorem mergeBytes_unique (old v new : Word) (k : BitVec 4)
    (h : ∀ b, b < 32 → new.getLsbD b = if k.getLsbD (b / 8) then v.getLsbD b else old.getLsbD b) :
    mergeBytes old v k = new :=
  BitVec.eq_of_getLsbD_eq fun b hb => by rw [mergeBytes_getLsbD _ _ _ _ hb, h b hb]

/-! ### The digest (R57) -/

/-- Subtraction and reduction in the natural numbers, as a congruence. -/
theorem delta_modEq (M d i old new : Nat) (h : old ≤ M) :
    (((d + (new + (M - old)) % M * (i + 1) % M) % M : Nat) : Int) ≡ d + ((new : Int) - old) * (i + 1) [ZMOD M] := by
  push_cast [Nat.cast_sub h]
  have hdelta : ((new : Int) + (M - old)) % M ≡ new - old [ZMOD M] :=
    (Int.mod_modEq _ _).trans (Int.modEq_iff_dvd.2 ⟨-1, by ring⟩)
  exact (Int.mod_modEq _ _).trans (Int.ModEq.add_left _ ((Int.mod_modEq _ _).trans (hdelta.mul_right _)))

/-- A write's delta, as the statements write it. -/
theorem addDigest_writeDelta (d i : Nat) (old new : Word) :
    ((addDigest d (writeDelta i old new) : Nat) : Int) % (2 ^ 61 - 1) =
      (d + ((new.toNat : Int) - old.toNat) * (i + 1)) % (2 ^ 61 - 1) := by
  have hM : ((Config.digestModulus : Nat) : Int) = 2 ^ 61 - 1 := by
    unfold Config.digestModulus
    norm_num
  have hold : old.toNat ≤ Config.digestModulus := by
    have := old.isLt
    unfold Config.digestModulus
    omega
  rw [← hM]
  exact delta_modEq _ d i old.toNat new.toNat hold

theorem State.reportDigest_record (s : State) (g : Group) (o : ReadOutcome) (old new : Word) (pl : WordPlace)
    (hpl : g.place = some pl) (hu : g.updating = true) (j : Fin 32) :
    (s.reportDigest g o old new).record j =
      if j = pl.region then
        (if o = .uncorrectable then (s.record pl.region).lose else (s.record pl.region).write pl.word old new)
      else s.record j := by
  unfold State.reportDigest
  rw [hpl]
  dsimp only
  rw [if_pos hu]
  unfold State.reportWrite
  rw [State.updateRecord_record]
  by_cases ho : o = .uncorrectable
  · simp only [ho, if_true]
  · simp only [ho, if_false]

theorem DigestRecord.write_digest (x : DigestRecord) (i : Nat) (old new : Word) (h : x.valid = true) :
    (((x.write i old new).digest : Nat) : Int) % (2 ^ 61 - 1) =
      (x.digest + ((new.toNat : Int) - old.toNat) * (i + 1)) % (2 ^ 61 - 1) := by
  unfold DigestRecord.write
  rw [h]
  exact addDigest_writeDelta _ _ _ _

theorem DigestRecord.write_acc (x : DigestRecord) (i : Nat) (old new : Word) (h : x.running = true) (hi : i < x.pointer) :
    (((x.write i old new).acc : Nat) : Int) % (2 ^ 61 - 1) =
      (x.acc + ((new.toNat : Int) - old.toNat) * (i + 1)) % (2 ^ 61 - 1) := by
  unfold DigestRecord.write
  rw [h, Bool.true_and, decide_eq_true hi]
  exact addDigest_writeDelta _ _ _ _

theorem DigestRecord.write_acc_ahead (x : DigestRecord) (i : Nat) (old new : Word) (hi : x.pointer ≤ i) :
    (x.write i old new).acc = x.acc := by
  unfold DigestRecord.write
  rw [decide_eq_false (Nat.not_lt.2 hi), Bool.and_false]
  rfl

/-! ### The engine's next block (R134) -/

theorem setBlock_eq_marked (b : Nat) (st : BlockState) (map : List (Nat × BlockState)) :
    setBlock b st map = marked b st map := by
  unfold setBlock marked
  refine List.map_congr_left fun e _ => ?_
  split
  · rename_i h
    rw [h]
  · rfl

theorem Service.takeNext_takesNext (v : Service) : TakesNext v v.takeNext := by
  refine ⟨fun h => if_pos h, fun n st hb hn => ?_, fun n ns hb hw hr => ?_⟩
  · unfold Service.takeNext Service.takeBlock
    rw [hb, hn]
    simp [setBlock_eq_marked]
  · unfold Service.takeNext Service.takeBlock
    rw [hb, List.getElem?_eq_none hw, hr]
    simp [setBlock_eq_marked]

/-! ### The end of a service -/

theorem State.endService_ended (s : State) (v : Service) (w : Word) (h : s.rse.service = some v) :
    (s.endService (some w)).rse = { s.rse with service := none } ∧ FlagSet (s.endService (some w)) .serviceEnded ∧
      (s.endService (some w)).link v.port = { s.link v.port with tx := queued (s.link v.port) (.abandon w) } ∧
      ∀ q, q ≠ v.port → (s.endService (some w)).link q = s.link q := by
  have he : s.endService (some w) =
      (((s.offerFrame v.port (.abandon w)).forget WordOp.ofCopy).setService none).fire .serviceEnded := by
    unfold State.endService
    rw [h]
  obtain ⟨⟨hp, hq⟩, -⟩ := State.offerFrame_offered s v.port (.abandon w)
  rw [he]
  refine ⟨?_, ?_, hp, hq⟩
  · show { (s.offerFrame v.port (.abandon w)).rse with service := none } = _
    simp
  · unfold FlagSet
    rw [State.fire_flag]
    simp

/-! ### The report to a source (R136, R137) -/

theorem State.reportSource_none (s : State) (g : Group) (c : Bool) (v : Word) (h : s.rse.service = none) :
    s.reportSource g c v = s := by
  have hs (a : Nat) : s.sourceWrite a v = s := by
    unfold State.sourceWrite
    rw [h]
  unfold State.reportSource
  split
  · rw [hs, ite_self]
  · rfl

/-- A report that changes no digest-region word, or is made to a repair service. -/
theorem State.reportSource_ignored (s : State) (g : Group) (c : Bool) (new : Word) (pl : WordPlace) (v : Service)
    (hpl : g.place = some pl) (hv : s.rse.service = some v) (h : pl.cls = .nonvital ∨ v.kind = .repair ∨ c = false) :
    s.reportSource g c new = s := by
  unfold State.reportSource State.sourceWrite
  rw [hpl, hv]
  dsimp only
  obtain h | h | h := h
  · rw [h]
    rfl
  · rw [if_pos h, ite_self]
  · rw [h, Bool.and_false]
    rfl

/-- A report that the engine takes by the state of the block (Table 9.4). -/
theorem State.reportSource_taken (s : State) (g : Group) (new : Word) (pl : WordPlace) (v : Service)
    (hpl : g.place = some pl) (hv : s.rse.service = some v) (hc : pl.cls ≠ .nonvital) (hk : v.kind = .reentry) :
    (v.writeAction g.op.addr = .none → s.reportSource g true new = s) ∧
      (v.writeAction g.op.addr = .patch → s.reportSource g true new = s.setService (some (v.patch g.op.addr new))) ∧
      (v.writeAction g.op.addr = .forward → s.reportSource g true new = s.queueForward v g.op.addr new) := by
  have hr : s.reportSource g true new = s.sourceWrite g.op.addr new := by
    unfold State.reportSource
    rw [hpl]
    exact if_pos (by simpa using hc)
  rw [hr]
  refine ⟨fun h => ?_, fun h => ?_, fun h => ?_⟩ <;> simp [State.sourceWrite, hv, hk, h]

theorem Service.writeAction_none (v : Service) (a : Nat)
    (h : v.blockState (a / 4096 * 4096) = none ∨ v.blockState (a / 4096 * 4096) = some .unsent) :
    v.writeAction a = .none := by
  unfold Service.writeAction blockOf Config.blockBytes
  obtain h | h := h <;> rw [h]

theorem Service.writeAction_sent (v : Service) (a : Nat) (h : v.blockState (a / 4096 * 4096) = some .sent) :
    v.writeAction a = .forward := by
  unfold Service.writeAction blockOf Config.blockBytes
  rw [h]

/-- In the block being sent, by the segment and the word the engine stands at. -/
theorem Service.writeAction_sending (v : Service) (a : Nat) (b : SegmentBuffer)
    (h : v.blockState (a / 4096 * 4096) = some .sending) (hb : v.buffer = some b) :
    v.writeAction a = if a % 4096 / 256 < b.seg then .forward
      else if a % 4096 / 256 = b.seg then (if a % 256 / 4 < b.words.length then .patch else .none) else .none := by
  unfold Service.writeAction blockOf Config.blockBytes
  rw [h, hb]
  rfl

/-- A FORWARD queued from a state that holds what the step began with of the services, the links and the RESENDS counter. -/
theorem forwardQueued_of {s x : State} {i : Instr} {v : Service} {addr : Nat} {new : Word} {st : ResponseStatus}
    (he : exec i s = .next ((x.queueForward v addr new).finish st [])) (hv : s.rse.service = some v)
    (hrse : x.rse = s.rse) (hlkc : x.lkc = s.lkc)
    (hcount : x.evu.counters[(14 : Fin 16)] = s.evu.counters[(14 : Fin 16)]) : ForwardQueued s i v addr new := by
  have hrse' := ((x.queueForward v addr new).finish_frame st []).2.2.2.2.2.2.2.2.2.1
  have hlkc' := ((x.queueForward v addr new).finish_frame st []).2.2.2.2.2.2.1
  have hevu' := ((x.queueForward v addr new).finish_frame st []).2.2.2.2.2.2.2.2.2.2.1
  refine ⟨fun h => ?_, fun h hr => ?_, fun h hr => ?_⟩
  · have hq : x.queueForward v addr new = x.setService (some { v with queue := v.queue ++ [.forward addr new] }) :=
      if_pos h
    refine ⟨_, he, ?_, ?_⟩
    · rw [hlkc', hq]
      exact hlkc
    · rw [hrse', hq, ← hrse]
      rfl
  · have hq : x.queueForward v addr new = (x.count .resends).setService (some (v.resendBlock (blockOf addr))) :=
      (if_neg (Nat.not_lt.2 h)).trans (if_pos hr)
    refine ⟨_, v.resendBlock (blockOf addr), he, ?_, ?_, ?_, ?_⟩
    · rw [hlkc', hq]
      exact hlkc
    · rw [hrse', hq, ← hrse]
      rfl
    · unfold Service.resendBlock
      rw [setBlock_eq_marked]
      exact Service.takeNext_takesNext _
    · have hc := x.count_counter .resends .resends
      simp only [true_and] at hc
      rw [hevu', hq, ← hcount]
      exact hc
  · have hq : x.queueForward v addr new = (x.count .resends).endService (some overflowReason) :=
      (if_neg (Nat.not_lt.2 h)).trans (if_neg (Nat.not_lt.2 hr))
    have hlink (p : Port) : (x.count .resends).link p = s.link p := by
      unfold State.link
      rw [← hlkc]
      rfl
    obtain ⟨hend, hflag, hport, hother⟩ := (x.count .resends).endService_ended v overflowReason (hrse ▸ hv)
    refine ⟨_, he, ?_, ?_, ?_, fun q hqv => ?_⟩
    · rw [hrse', hq, hend, ← hrse]
      rfl
    · unfold FlagSet
      rw [hevu', hq]
      exact hflag
    · rw [← hlink]
      unfold State.link at hport ⊢
      rw [hlkc', hq]
      exact hport
    · rw [← hlink]
      have := hother q hqv
      unfold State.link at this ⊢
      rw [hlkc', hq]
      exact this

end Sys2Proof.Machine
end

section
/-! The end of a group that writes a word for the processor, case by case of the old word (O45). -/

namespace Sys2Proof.Machine

/-! ### The report of a clean or corrected word leaves the services -/

theorem State.chooseMove_counters (s : State) : s.chooseMove.evu.counters = s.evu.counters := by
  unfold State.chooseMove
  split
  · rfl
  · split
    · exact (State.fire_evu ..).1
    · split <;> rfl

theorem State.hitRow_counters (s : State) (e : RowEntry) (word : Nat) :
    (s.hitRow e word).evu.counters = s.evu.counters := by
  rw [s.hitRow_eq]
  split
  · rw [State.chooseMove_counters, (State.fire_evu ..).1]
    rfl
  · rfl

theorem State.newRow_resends (s : State) (row word : Nat) :
    (s.newRow row word).evu.counters[(14 : Fin 16)] = s.evu.counters[(14 : Fin 16)] := by
  unfold State.newRow
  split
  · rfl
  · have h := (s.fire .rowTableFull).count_counter .rowTableOverflow .resends
    rw [if_neg (by simp), (State.fire_evu ..).1] at h
    exact h

theorem State.reportRow_resends (s : State) (row word : Nat) :
    (s.reportRow row word).evu.counters[(14 : Fin 16)] = s.evu.counters[(14 : Fin 16)] := by
  unfold State.reportRow
  split
  · rw [s.hitRow_counters]
  · exact s.newRow_resends _ _

theorem State.reportCorrected_resends (s : State) (g : Group) :
    (s.reportCorrected g).evu.counters[(14 : Fin 16)] = s.evu.counters[(14 : Fin 16)] := by
  have h := s.count_counter .corrected .resends
  rw [if_neg (by simp)] at h
  rw [s.reportCorrected_eq, State.reportRow_resends]
  unfold State.noteCorrected
  rw [(State.fire_evu ..).1]
  exact h

/-- A report without a consequence. -/
theorem State.reportOutcome_keeps (s : State) (g : Group) (o : ReadOutcome) (h : o ≠ .uncorrectable) :
    (s.reportOutcome g o).rse = s.rse ∧ (s.reportOutcome g o).lkc = s.lkc ∧ (s.reportOutcome g o).dgu = s.dgu ∧
      (s.reportOutcome g o).evu.counters[(14 : Fin 16)] = s.evu.counters[(14 : Fin 16)] := by
  cases o with
  | clean => exact ⟨rfl, rfl, rfl, rfl⟩
  | corrected =>
    refine ⟨?_, ?_, ?_, s.reportCorrected_resends g⟩ <;> simp [State.reportOutcome]
  | uncorrectable => exact absurd rfl h

/-- The rows of the table stay distinct under a report. -/
theorem State.reportRow_nodup (s : State) (g : Group) (row word : Nat) (hp : s.msq.port = some g)
    (hn : (s.ret.entries.map (·.row)).Nodup) : ((s.reportRow row word).ret.entries.map (·.row)).Nodup := by
  obtain ⟨hfound, hnew, hfull⟩ := s.reportRow_entries g row word hp
  by_cases h : ∃ e ∈ s.ret.entries, e.row = row
  · rw [hfound h, reportedEntries_eq, reported_rows]
    exact hn
  · have h' : ∀ e ∈ s.ret.entries, e.row ≠ row := fun e he hr => h ⟨e, he, hr⟩
    by_cases hl : s.ret.entries.length < 64
    · rw [hnew h' hl, List.map_append]
      refine hn.append (List.nodup_singleton _) fun r hr hr' => ?_
      obtain ⟨e, he, rfl⟩ := List.mem_map.1 hr
      exact h' e he (by simpa using hr')
    · rw [(hfull h' (by omega)).1]
      exact hn

/-- A corrected error reported within a group, up to the group's end. -/
theorem rowReported_of_finish {s x y : State} {g : Group} {st : ResponseStatus} {d : List Word}
    (hp : x.msq.port = some g) (hret : x.ret = s.ret) (hlim : x.cmi.settings.weakLimit = s.cmi.settings.weakLimit)
    (htime : x.evu.msTime = s.evu.msTime) (hn : RowTableLaw s) (hysrm : y.srm = (x.reportRow g.row g.word).srm)
    (hyret : y.ret = (x.reportRow g.row g.word).ret) (hy : Aftermath (x.reportRow g.row g.word) y) :
    RowReported s (y.finish st d) g.row g.word := by
  have hnx : (x.ret.entries.map (·.row)).Nodup := hret ▸ hn.2
  refine rowReported_of_report hp hret hlim htime ?_ fun hf => ?_
  · rw [(y.finish_rows _ st d hysrm hyret).2]
    exact State.endGroup_entries _ (x.reportRow_nodup g _ _ hp hnx)
  · have hf' := hy.flags _ hf
    unfold FlagSet at hf' ⊢
    rwa [(y.finish_frame st d).2.2.2.2.2.2.2.2.2.2.1]

/-! ### A group that reads the old word and writes a new one -/

/-- The new word stands, and the digest has followed it; the old word's outcome is still to be reported. -/
def State.overwritten (s : State) (g : Group) (m : CellSample) (new : Word) : State :=
  ((s.readSlot g.row g.word m).1.writeRows g.row g.word g.mirror new).reportDigest g (readResult (found s g m)).1
    (readResult (found s g m)).2 new

/-- The same at the end of the group. -/
def State.overwriteEnd (s : State) (g : Group) (m : CellSample) (new : Word) (st : ResponseStatus) : State :=
  (((s.overwritten g m new).reportOutcome g (readResult (found s g m)).1).reportSource g
    ((readResult (found s g m)).1 = .uncorrectable || (readResult (found s g m)).2 != new) new).finish st []

theorem State.processorWriteEnd_updating (s : State) (g : Group) (v : Word) (m : CellSample) (h : g.updating = true) :
    s.processorWriteEnd g v m = s.overwriteEnd g m v .okay := if_pos h

theorem State.processorWriteEnd_plain (s : State) (g : Group) (v : Word) (m : CellSample) (h : g.updating = false) :
    s.processorWriteEnd g v m = ((s.writeRows g.row g.word g.mirror v).reportSource g true v).finish .okay [] :=
  if_neg (by rw [h]; exact nofun)

theorem State.partialWriteEnd_eq (s : State) (g : Group) (v : Word) (k : BitVec 4) (m : CellSample) :
    s.partialWriteEnd g v k m = s.overwriteEnd g m (mergeBytes (readResult (found s g m)).2 v k)
      (statusOf (readResult (found s g m)).1) := rfl

@[simp] theorem State.overwritten_frame (s : State) (g : Group) (m : CellSample) (new : Word) :
    (s.overwritten g m new).chanId = s.chanId ∧ (s.overwritten g m new).msize = s.msize ∧
    (s.overwritten g m new).txi = s.txi ∧ (s.overwritten g m new).rgt = s.rgt ∧ (s.overwritten g m new).msq = s.msq ∧
    (s.overwritten g m new).ret = s.ret ∧ (s.overwritten g m new).srm = s.srm ∧
    (s.overwritten g m new).dgu.tableDigest = s.dgu.tableDigest ∧ (s.overwritten g m new).ptl = s.ptl ∧
    (s.overwritten g m new).lkc = s.lkc ∧ (s.overwritten g m new).vtu = s.vtu ∧ (s.overwritten g m new).mdc = s.mdc ∧
    (s.overwritten g m new).rse = s.rse ∧ (s.overwritten g m new).evu = s.evu ∧ (s.overwritten g m new).cmi = s.cmi ∧
    (s.overwritten g m new).pending = s.pending := by
  unfold State.overwritten
  simp

theorem State.overwritten_mem (s : State) (g : Group) (m : CellSample) (new : Word) : (s.overwritten g m new).mem =
    ((s.readSlot g.row g.word m).1.writeRows g.row g.word g.mirror new).mem := by
  unfold State.overwritten
  simp

theorem State.overwritten_record (s : State) (g : Group) (m : CellSample) (new : Word) (pl : WordPlace)
    (hpl : g.place = some pl) (hu : g.updating = true) (j : Fin 32) : (s.overwritten g m new).record j =
      if j = pl.region then
        (if (readResult (found s g m)).1 = .uncorrectable then (s.record pl.region).lose
          else (s.record pl.region).write pl.word (readResult (found s g m)).2 new)
      else s.record j := by
  have hr (i : Fin 32) : ((s.readSlot g.row g.word m).1.writeRows g.row g.word g.mirror new).record i = s.record i := by
    unfold State.record
    simp
  unfold State.overwritten
  rw [State.reportDigest_record _ _ _ _ _ pl hpl hu, hr, hr]

/-- Whatever the old word was: the rows, the answer, and the port. -/
theorem State.overwriteEnd_ended (s : State) (g : Group) (m : CellSample) (new : Word) (st : ResponseStatus)
    (hw : s.txi.waiting = []) : Stores (s.overwriteEnd g m new st) g new ∧
      CellsKept s (s.overwriteEnd g m new st) (writtenKeys g) ∧ WordAnswered s (s.overwriteEnd g m new st) st [] ∧
      (s.overwriteEnd g m new st).msq.port = none := by
  have hmem : (s.overwriteEnd g m new st).mem =
      ((s.readSlot g.row g.word m).1.writeRows g.row g.word g.mirror new).mem := by
    unfold State.overwriteEnd
    simp [State.overwritten_mem]
  refine ⟨stores_of_mem hmem, cellsKept_of_writeRows (s.readSlot_others g m) hmem, ?_, ?_⟩
  · exact State.finish_answered st [] (by simp) hw
  · unfold State.overwriteEnd
    simp

/-- A clean old word with no service to report to. -/
theorem State.overwriteEnd_clean (s : State) (g : Group) (m : CellSample) (new : Word) (st : ResponseStatus)
    (h : wrongBits (found s g m).flips = 0) (hs : s.rse.service = none) :
    s.overwriteEnd g m new st = (s.overwritten g m new).finish st [] := by
  unfold State.overwriteEnd
  rw [readResult_clean _ h]
  exact congrArg (State.finish · st []) ((s.overwritten g m new).reportSource_none _ _ _ (by simpa using hs))

/-- A clean or corrected old word hands on its data. -/
theorem readResult_of_le (w : Stored) (h : wrongBits w.flips ≤ 1) :
    (readResult w).1 ≠ .uncorrectable ∧ (readResult w).2 = w.data := by
  obtain h0 | h1 := Nat.le_one_iff_eq_zero_or_eq_one.1 h
  · rw [readResult_clean w h0]
    exact ⟨nofun, rfl⟩
  · rw [readResult_corrected w h1]
    exact ⟨nofun, rfl⟩

/-- The records are then those that the write has left. -/
theorem State.overwriteEnd_record (s : State) (g : Group) (m : CellSample) (new : Word) (st : ResponseStatus)
    (pl : WordPlace) (h : wrongBits (found s g m).flips ≤ 1) (hpl : g.place = some pl) (hu : g.updating = true)
    (j : Fin 32) : (s.overwriteEnd g m new st).record j =
      if j = pl.region then (s.record pl.region).write pl.word (found s g m).data new else s.record j := by
  obtain ⟨ho, hd⟩ := readResult_of_le _ h
  unfold State.overwriteEnd
  rw [State.finish_record]
  have hr := s.overwritten_record g m new pl hpl hu j
  rw [if_neg ho, hd] at hr
  rw [← hr]
  unfold State.record
  rw [(State.reportSource_frame ..).2.2.2.2.2.2.1, ((s.overwritten g m new).reportOutcome_keeps g _ ho).2.2.1]

/-- A corrected old word is reported (R30). -/
theorem State.overwriteEnd_corrected (s : State) (g : Group) (m : CellSample) (new : Word) (st : ResponseStatus)
    (hp : s.msq.port = some g) (h : wrongBits (found s g m).flips = 1) :
    FlagSet (s.overwriteEnd g m new st) .memCorrected ∧
      (RowTableLaw s → RowReported s (s.overwriteEnd g m new st) g.row g.word) := by
  have hr := readResult_corrected _ h
  have ha : Aftermath ((s.overwritten g m new).noteCorrected.reportRow g.row g.word)
      (((s.overwritten g m new).reportOutcome g .corrected).reportSource g
        ((ReadOutcome.corrected = .uncorrectable) || (found s g m).data != new) new) :=
    (Aftermath.refl _).reportSource _ _ _
  have he : s.overwriteEnd g m new st = (((s.overwritten g m new).reportOutcome g .corrected).reportSource g
      ((ReadOutcome.corrected = .uncorrectable) || (found s g m).data != new) new).finish st [] := by
    unfold State.overwriteEnd
    rw [hr]
  rw [he]
  refine ⟨?_, fun hn => ?_⟩
  · have hf := ((s.overwritten g m new).noteCorrected_flags .memCorrected).2 (.inr (by simp))
    have hf' := ha.flags _ (((Aftermath.refl _).reportRow g.row g.word).flags _ hf)
    unfold FlagSet at hf' ⊢
    rwa [(State.finish_frame ..).2.2.2.2.2.2.2.2.2.2.1]
  · refine rowReported_of_finish (x := (s.overwritten g m new).noteCorrected) ?_ ?_ ?_ ?_ hn ?_ ?_ ha
    · simpa [State.noteCorrected] using hp
    · simp [State.noteCorrected]
    · simp [State.noteCorrected]
    · simp [State.noteCorrected]
    · simp [State.reportOutcome, State.reportCorrected_eq]
    · simp [State.reportOutcome, State.reportCorrected_eq]

/-- An uncorrectable old word is reported and captured (R31), and the digest is lost (R58). -/
theorem State.overwriteEnd_uncorrectable (s : State) (g : Group) (m : CellSample) (new : Word) (st : ResponseStatus)
    (h : wrongBits (found s g m).flips = 2) :
    FlagSet (s.overwriteEnd g m new st) .memUncorrectable ∧
      Captured s (s.overwriteEnd g m new st) .memory g.op.requester (some g.op.addr) (.memory g.op.detail) ∧
      ∀ pl, g.place = some pl → g.updating = true → ((s.overwriteEnd g m new st).record pl.region).Lost := by
  have hr := readResult_uncorrectable _ h
  have ha : Aftermath ((s.overwritten g m new).noteUncorrectable g) (s.overwriteEnd g m new st) := by
    have hrep := ((s.overwritten g m new).reportUncorrectable_aftermath g).reportSource g
      (ReadOutcome.uncorrectable = .uncorrectable || (0 : Word) != new) new
    unfold State.overwriteEnd
    rw [hr]
    exact hrep.of_frame (State.finish_frame ..).2.2.2.2.2.2.2.2.2.2.1 (State.finish_frame ..).2.2.2.2.1
  refine ⟨ha.flags _ (((s.overwritten g m new).noteUncorrectable_flags g .memUncorrectable).2 (.inr (by simp))), ?_,
    fun pl hpl hu => ha.lost _ ?_⟩
  · have hc := ((s.overwritten g m new).noteUncorrectable_captured g).aftermath ha
    unfold Captured at hc ⊢
    simpa using hc
  · have hrec := s.overwritten_record g m new pl hpl hu pl.region
    rw [if_pos rfl, hr, if_pos rfl] at hrec
    show ((s.overwritten g m new).record pl.region).Lost
    rw [hrec]
    exact ⟨rfl, rfl, rfl⟩

end Sys2Proof.Machine
end

section
/-! The statement of the write ends (O45), assembled. -/

namespace Sys2Proof.Machine

theorem exec_processorWriteEnd_none {s : State} {g : Group} {a : Nat} {v : Word} (m : CellSample)
    (hp : s.msq.port = some g) (ho : g.op = .pWrite a v) (hw : s.txi.waiting = []) :
    exec (.processorWriteEnd m) s = .next (s.processorWriteEnd g v m) := by
  rw [exec_processorWriteEnd_of m hp ho, State.thenTake_none _ _ hw]

theorem exec_partialWriteEnd_none {s : State} {g : Group} {a : Nat} {v : Word} {k : BitVec 4} (m : CellSample)
    (hp : s.msq.port = some g) (ho : g.op = .pPartial a v k) (hw : s.txi.waiting = []) :
    exec (.partialWriteEnd m) s = .next (s.partialWriteEnd g v k m) := by
  rw [exec_partialWriteEnd_of m hp ho, State.thenTake_none _ _ hw]

/-! ### What a write end is -/

/-- A write that reads its old word as clean or corrected data. -/
theorem exec_writeOf {s : State} {g : Group} {i : Instr} {new : Word} {m : CellSample} (hp : s.msq.port = some g)
    (hw : s.txi.waiting = []) (h : WriteOf s g i new m) (hr : g.updating = true ∨ i = .partialWriteEnd m)
    (hf : wrongBits (found s g m).flips ≤ 1) : ∃ st, exec i s = .next (s.overwriteEnd g m new st) := by
  obtain ⟨rfl, a, ho⟩ | ⟨rfl, a, v, k, ho, -, hnew⟩ := h
  · have hu : g.updating = true := hr.resolve_right nofun
    exact ⟨.okay, by rw [exec_processorWriteEnd_none m hp ho hw, s.processorWriteEnd_updating g new m hu]⟩
  · have hm := mergeBytes_unique (found s g m).data v new k hnew
    refine ⟨statusOf (readResult (found s g m)).1, ?_⟩
    rw [exec_partialWriteEnd_none m hp ho hw, s.partialWriteEnd_eq, (readResult_of_le _ hf).2, hm]

/-- Any write of a known new value, as the services see it: it ends with a report of a change, or of none. -/
theorem exec_writeOf_reports {s : State} {g : Group} {i : Instr} {new : Word} {m : CellSample}
    (hp : s.msq.port = some g) (hw : s.txi.waiting = []) (h : WriteOf s g i new m)
    (hf : g.updating = false ∨ wrongBits (found s g m).flips ≤ 1) : ∃ (x : State) (c : Bool) (st : ResponseStatus),
      exec i s = .next ((x.reportSource g c new).finish st []) ∧ (c = false ↔ Unchanged s g i new m) ∧ x.rse = s.rse ∧
        x.lkc = s.lkc ∧ x.evu.counters[(14 : Fin 16)] = s.evu.counters[(14 : Fin 16)] := by
  by_cases hr : g.updating = true ∨ i = .partialWriteEnd m
  · have hle : wrongBits (found s g m).flips ≤ 1 := by
      obtain ⟨rfl, -⟩ | ⟨-, -, -, -, -, hle, -⟩ := h
      · exact hf.resolve_left (by rw [hr.resolve_right nofun]; exact nofun)
      · exact hle
    obtain ⟨st, he⟩ := exec_writeOf hp hw h hr hle
    obtain ⟨ho, hd⟩ := readResult_of_le _ hle
    obtain ⟨hrse, hlkc, -, hcount⟩ := (s.overwritten g m new).reportOutcome_keeps g _ ho
    refine ⟨_, _, st, he, ?_, hrse.trans (by simp), hlkc.trans (by simp), ?_⟩
    · rw [hd, decide_eq_false ho, Bool.false_or, bne_eq_false_iff_eq]
      exact ⟨fun h => ⟨hr, h⟩, fun h => h.2⟩
    · rw [hcount]
      simp
  · have hu : g.updating = false := by
      rw [← Bool.not_eq_true]
      exact fun h => hr (.inl h)
    obtain ⟨rfl, a, ho⟩ | ⟨rfl, -⟩ := h
    · refine ⟨s.writeRows g.row g.word g.mirror new, true, .okay, ?_, ?_, by simp, by simp, by simp⟩
      · rw [exec_processorWriteEnd_none m hp ho hw, s.processorWriteEnd_plain g new m hu]
      · exact ⟨nofun, fun h => absurd h.1 hr⟩
    · exact absurd (.inr rfl) hr

/-! ### The parts of the statement -/

/-- A group with no service to report to and no error to report. -/
theorem State.overwriteEnd_quiet (s : State) (g : Group) (m : CellSample) (new : Word) (st : ResponseStatus)
    (h : wrongBits (found s g m).flips = 0) (hs : s.rse.service = none) :
    WaitingStarts s (s.overwriteEnd g m new st) ∧ s.overwriteEnd g m new st = { s with
      mem := (s.overwriteEnd g m new st).mem, txi := (s.overwriteEnd g m new st).txi
      msq := { s.msq with port := none }, srm := (s.overwriteEnd g m new st).srm
      ret := (s.overwriteEnd g m new st).ret
      dgu := { s.dgu with records := (s.overwriteEnd g m new st).dgu.records } } := by
  rw [s.overwriteEnd_clean g m new st h hs]
  refine ⟨State.finish_starts st [] (by simp) (by simp), State.eq_of_blocks ?_⟩
  have htable := (s.overwritten_frame g m new).2.2.2.2.2.2.2.1
  have hdgu : (s.overwritten g m new).dgu = { s.dgu with records := (s.overwritten g m new).dgu.records } := by
    show (s.overwritten g m new).dgu =
      { records := (s.overwritten g m new).dgu.records, tableDigest := s.dgu.tableDigest }
    rw [← htable]
  simpa using hdgu

/-- What a processor write to a digest region with a clean or corrected old word leaves of the records (R57). -/
theorem State.overwriteEnd_digest (s : State) (g : Group) (m : CellSample) (new : Word) (st : ResponseStatus)
    (pl : WordPlace) (h : wrongBits (found s g m).flips ≤ 1) (hpl : g.place = some pl) (hu : g.updating = true) :
    let t := s.overwriteEnd g m new st
    (∀ j, j ≠ pl.region → t.record j = s.record j) ∧
    (t.record pl.region).valid = (s.record pl.region).valid ∧
    (t.record pl.region).pointer = (s.record pl.region).pointer ∧
    (t.record pl.region).running = (s.record pl.region).running ∧
    ((s.record pl.region).valid = true → (((t.record pl.region).digest : Nat) : Int) % (2 ^ 61 - 1) =
      ((s.record pl.region).digest + ((new.toNat : Int) - (found s g m).data.toNat) * (pl.word + 1)) %
        (2 ^ 61 - 1)) ∧
    ((s.record pl.region).running = true → pl.word < (s.record pl.region).pointer →
      (((t.record pl.region).acc : Nat) : Int) % (2 ^ 61 - 1) =
        ((s.record pl.region).acc + ((new.toNat : Int) - (found s g m).data.toNat) * (pl.word + 1)) %
          (2 ^ 61 - 1)) ∧
    ((s.record pl.region).pointer ≤ pl.word → (t.record pl.region).acc = (s.record pl.region).acc) := by
  have hrec := s.overwriteEnd_record g m new st pl h hpl hu
  have hown := hrec pl.region
  rw [if_pos rfl] at hown
  dsimp only
  rw [hown]
  exact ⟨fun j hj => by rw [hrec j, if_neg hj], rfl, rfl, rfl, DigestRecord.write_digest _ _ _ _,
    DigestRecord.write_acc _ _ _ _, DigestRecord.write_acc_ahead _ _ _ _⟩

/-- A full-word write with a plain write slot alone. -/
theorem State.processorWriteEnd_plain_ended (s : State) (g : Group) (v : Word) (m : CellSample) (h : g.updating = false)
    (hw : s.txi.waiting = []) : Stores (s.processorWriteEnd g v m) g v ∧
      CellsKept s (s.processorWriteEnd g v m) (writtenKeys g) ∧ WordAnswered s (s.processorWriteEnd g v m) .okay [] ∧
      (s.processorWriteEnd g v m).msq.port = none := by
  rw [s.processorWriteEnd_plain g v m h]
  have hmem : (((s.writeRows g.row g.word g.mirror v).reportSource g true v).finish .okay []).mem =
      (s.writeRows g.row g.word g.mirror v).mem := by simp
  exact ⟨stores_of_mem hmem, cellsKept_of_writeRows (fun _ _ => rfl) hmem,
    State.finish_answered .okay [] (by simp) hw, by simp⟩

theorem State.processorWriteEnd_plain_quiet (s : State) (g : Group) (v : Word) (m : CellSample) (h : g.updating = false)
    (hs : s.rse.service = none) : WaitingStarts s (s.processorWriteEnd g v m) ∧ s.processorWriteEnd g v m = { s with
      mem := (s.processorWriteEnd g v m).mem, txi := (s.processorWriteEnd g v m).txi
      msq := { s.msq with port := none }, srm := (s.processorWriteEnd g v m).srm
      ret := (s.processorWriteEnd g v m).ret } := by
  rw [s.processorWriteEnd_plain g v m h, State.reportSource_none _ _ _ _ (by simpa using hs)]
  exact ⟨State.finish_starts .okay [] (by simp) (by simp), State.eq_of_blocks (by simp)⟩

/-- What a write of a changed digest-region word does to a re-entry service (R136, R137). -/
theorem writeOf_reported {s : State} {g : Group} {i : Instr} {new : Word} {m : CellSample} {pl : WordPlace} {v : Service}
    (hp : s.msq.port = some g) (hw : s.txi.waiting = []) (hpl : g.place = some pl) (hv : s.rse.service = some v)
    (h : WriteOf s g i new m) (hf : g.updating = false ∨ wrongBits (found s g m).flips ≤ 1) (hc : pl.cls ≠ .nonvital)
    (hk : v.kind = .reentry) (hch : ¬ Unchanged s g i new m) : (v.writeAction g.op.addr = .none →
        ∃ t, exec i s = .next t ∧ t.rse = s.rse ∧ t.lkc = s.lkc) ∧
      (v.writeAction g.op.addr = .patch → ∃ t, exec i s = .next t ∧ t.lkc = s.lkc ∧
        t.rse = { s.rse with service := some (v.patch g.op.addr new) }) ∧
      (v.writeAction g.op.addr = .forward → ForwardQueued s i v g.op.addr new) := by
  obtain ⟨x, c, st, he, hcu, hrse, hlkc, hcount⟩ := exec_writeOf_reports hp hw h hf
  have hct : c = true := by
    rw [← Bool.not_eq_false, hcu]
    exact hch
  rw [hct] at he
  obtain ⟨hnone, hpatch, hforward⟩ := x.reportSource_taken g new pl v hpl (hrse ▸ hv) hc hk
  refine ⟨fun ha => ?_, fun ha => ?_, fun ha => ?_⟩
  · rw [hnone ha] at he
    exact ⟨_, he, by simpa using hrse, by simpa using hlkc⟩
  · rw [hpatch ha] at he
    refine ⟨_, he, ?_, ?_⟩
    · rw [(State.finish_frame ..).2.2.2.2.2.2.1]
      exact hlkc
    · rw [(State.finish_frame ..).2.2.2.2.2.2.2.2.2.1, ← hrse]
      rfl
  · rw [hforward ha] at he
    exact forwardQueued_of he hv hrse hlkc hcount

/-- Settles O45, by the old word's outcome and the state of the service. -/
theorem writeEndStoresAndFollowsDigest : Obligations.WriteEndStoresAndFollowsDigest := by
  refine ⟨fun s g a v m hp ho _ hw => ?_, fun s g i new m pl hp _ hw hpl hu hf h => ?_,
    fun s g i new m pl v hp _ hw hpl hv h hf => ⟨fun hno => ?_, fun hc hk hch => ?_⟩, fun s g a v k m hp ho _ hw hf => ?_⟩
  · refine ⟨_, exec_processorWriteEnd_none m hp ho hw, ?_⟩
    cases hu : g.updating with
    | false =>
      obtain ⟨hst, hcells, hans, hport⟩ := s.processorWriteEnd_plain_ended g v m hu hw
      exact ⟨hst, hcells, hans, hport, fun _ hs => s.processorWriteEnd_plain_quiet g v m hu hs, nofun, nofun⟩
    | true =>
      rw [s.processorWriteEnd_updating g v m hu]
      obtain ⟨hst, hcells, hans, hport⟩ := s.overwriteEnd_ended g m v .okay hw
      refine ⟨hst, hcells, hans, hport, nofun, fun pl hpl _ h0 hs => ?_, fun pl hpl _ h2 => ?_⟩
      · obtain ⟨hwait, heq⟩ := s.overwriteEnd_quiet g m v .okay h0 hs
        obtain ⟨hother, hvalid, hpointer, -, hdigest, hacc, hahead⟩ :=
          s.overwriteEnd_digest g m v .okay pl (by omega) hpl hu
        exact ⟨hwait, hother, hvalid, hpointer, hdigest, hacc, hahead, heq⟩
      · obtain ⟨hflag, hcap, hlost⟩ := s.overwriteEnd_uncorrectable g m v .okay h2
        obtain ⟨hvalid, hdigest, hrun⟩ := hlost pl hpl hu
        rw [ho] at hcap
        exact ⟨hvalid, hdigest, hrun, hflag, hcap⟩
  · obtain ⟨st, he⟩ := exec_writeOf hp hw h (.inl hu) hf
    obtain ⟨hother, hvalid, -, hrun, hdigest, hacc, hahead⟩ := s.overwriteEnd_digest g m new st pl hf hpl hu
    exact ⟨_, he, hother, hvalid, hrun, hdigest, hacc, hahead, s.overwriteEnd_corrected g m new st hp⟩
  · obtain ⟨x, c, st, he, hcu, hrse, hlkc, -⟩ := exec_writeOf_reports hp hw h hf
    rw [x.reportSource_ignored g c new pl v hpl (hrse ▸ hv) (hno.imp_right (Or.imp_right hcu.2))] at he
    exact ⟨_, he, by simpa using hrse, by simpa using hlkc⟩
  · obtain ⟨hnone, hpatch, hforward⟩ := writeOf_reported hp hw hpl hv h hf hc hk hch
    refine ⟨fun hb => hnone (v.writeAction_none _ hb), fun hb => hforward (v.writeAction_sent _ hb), fun b hb hbuf => ?_⟩
    have ha := v.writeAction_sending _ b hb hbuf
    refine ⟨fun hlt => hforward (by rw [ha, if_pos hlt]), fun heq hlt => ?_, fun hge => hnone ?_⟩
    · obtain ⟨t, he, hlkc, hrse⟩ := hpatch (by rw [ha, if_neg (by omega), if_pos heq, if_pos hlt])
      refine ⟨t, he, hlkc, hrse.trans ?_⟩
      unfold Service.patch
      rw [hbuf]
      rfl
    · obtain hgt | ⟨heq, hge⟩ := hge
      · rw [ha, if_neg (by omega), if_neg (by omega)]
      · rw [ha, if_neg (by omega), if_pos heq, if_neg (by omega)]
  · obtain ⟨hst, hcells, hans, hport⟩ := s.overwriteEnd_ended g m
      (mergeBytes (readResult (found s g m)).2 v k) (statusOf (readResult (found s g m)).1) hw
    refine ⟨_, _, exec_partialWriteEnd_none m hp ho hw, hst, hcells, hport, fun b hb => ?_, fun h0 => ?_,
      fun h1 => ⟨?_, ?_⟩, fun h2 => ⟨?_, ?_⟩, fun h0 hs => ?_⟩
    · rw [mergeBytes_getLsbD _ _ _ _ hb]
      by_cases h2 : wrongBits (found s g m).flips = 2
      · rw [readResult_uncorrectable _ h2, if_pos h2]
        simp
      · rw [(readResult_of_le _ (by omega)).2, if_neg h2]
    · rw [s.partialWriteEnd_eq]
      rwa [readResult_clean _ h0] at hans ⊢
    · rw [s.partialWriteEnd_eq]
      rwa [readResult_corrected _ h1] at hans ⊢
    · exact (s.overwriteEnd_corrected g m _ _ hp h1).1
    · rw [s.partialWriteEnd_eq]
      rwa [readResult_uncorrectable _ h2] at hans ⊢
    · obtain ⟨hflag, hcap, -⟩ := s.overwriteEnd_uncorrectable g m
        (mergeBytes (readResult (found s g m)).2 v k) (statusOf (readResult (found s g m)).1) h2
      rw [ho] at hcap
      exact ⟨hflag, hcap⟩
    · exact s.overwriteEnd_quiet g m _ _ h0 hs

end Sys2Proof.Machine
end

section
/-! What Table 8.4 asks for at an uncorrectable word (R125, R126): nothing, an isolation, a repair that begins (R150), or a
further block on the list. -/

namespace Sys2Proof.Machine

/-! ### Isolation -/

theorem State.isolateFor_mdc (s : State) (c : Cause) (h : s.mdc.mode.isolable = true) :
    (s.isolateFor c).mdc = { mode := .isolated, chen := false, cause := c } ∧
      (s.isolateFor c).rse.repairList = [] ∧ FlagSet (s.isolateFor c) .isolated := by
  have he : s.isolateFor c = s.enterIsolated c := if_pos h
  rw [he]
  refine ⟨?_, ?_, ?_⟩
  · unfold State.enterIsolated
    simp [State.voteIsolated, State.setMode]
  · unfold State.enterIsolated State.endServices
    simp [State.setRse]
  · unfold State.enterIsolated
    refine (((Aftermath.refl _).fire .modeChanged).patrolIsolated s.mdc.mode).moveOccasion .isolated |>.flags _ ?_
    unfold FlagSet
    rw [State.fire_flag]
    simp

/-! ### Asking for a block (R150, R151) -/

/-- How many ports have not been tried. -/
def Repair.untried (v : Repair) : Nat := [Port.a, Port.b].countP (fun p => !v.tried p)

theorem Repair.ask_tried (v : Repair) (p q : Port) : (v.ask p).tried q = (v.tried q || p == q) := by
  cases q <;> rfl

theorem Repair.untried_ask (v : Repair) (p : Port) (h : v.tried p = false) : (v.ask p).untried < v.untried := by
  unfold Repair.untried
  cases p <;> cases hq : v.triedA <;> cases hq' : v.triedB <;> simp_all [Repair.tried, Repair.ask]

theorem mem_portsByIdentity (s : State) (p : Port) : p ∈ s.portsByIdentity := by
  unfold State.portsByIdentity
  split <;> cases p <;> simp

theorem State.repairCandidate_some (s : State) (v : Repair) (p : Port) (h : s.repairCandidate v = some p) :
    s.expectedVoter p = true ∧ v.tried p = false := by
  have := List.find?_some h
  simpa using this

theorem State.repairCandidate_none (s : State) (v : Repair) (h : s.repairCandidate v = none) (p : Port)
    (hp : s.expectedVoter p = true) : v.tried p = true := by
  have := List.find?_eq_none.1 h p (mem_portsByIdentity s p)
  simpa [hp] using this

/-- The expected voter of the lower identity is looked at first. -/
theorem State.repairCandidate_first (s : State) (v : Repair) (p : Port) (hv : ∀ q, v.tried q = false)
    (h : FirstVoter s p) : s.repairCandidate v = some p := by
  obtain ⟨hp, hlow⟩ := h
  unfold State.repairCandidate State.portsByIdentity
  simp only [hv, Bool.not_false, Bool.and_true]
  cases p with
  | a =>
    split
    · rw [List.find?_cons_of_pos hp]
    · have hb : ¬ s.expectedVoter .b = true := fun hb => by have := hlow .b (by decide) hb; omega
      rw [List.find?_cons_of_neg hb, List.find?_cons_of_pos hp]
  | b =>
    split
    · have ha : ¬ s.expectedVoter .a = true := fun ha => by have := hlow .a (by decide) ha; omega
      rw [List.find?_cons_of_neg ha, List.find?_cons_of_pos hp]
    · rw [List.find?_cons_of_pos hp]

theorem State.expectedVoter_up (s : State) (p : Port) (h : s.expectedVoter p = true) : (s.link p).up = true := by
  unfold State.expectedVoter at h
  simp only [Bool.and_eq_true] at h
  exact h.1.1

/-- A request enters the queue of an expected voter where that has room. -/
theorem State.blockAsked_iff (s : State) (p : Port) (h : s.expectedVoter p = true) :
    s.blockAsked p = true ↔ (s.link p).tx.length < 16 := by
  have hup := s.expectedVoter_up p h
  unfold State.blockAsked State.offerResult Config.txQueueSize
  rw [hup]
  by_cases hl : (s.link p).tx.length < 16
  · simp [hl]
  · simp [hl]

theorem State.askBlock_link (s : State) (v : Repair) (p q : Port) : (s.askBlock v p).link q =
    if q = p then { s.link p with tx := queued (s.link p) s.repairRequestFrame } else s.link q := by
  obtain ⟨⟨hp, hq⟩, -⟩ := State.offerFrame_offered (s.setRepair (some (v.ask p))) p s.repairRequestFrame
  split
  · rename_i h
    rw [h]
    exact hp
  · rename_i h
    exact hq q h

/-- A request that finds no room changes no port. -/
theorem State.askBlock_link_of_full (s : State) (v : Repair) (p q : Port) (h : 16 ≤ (s.link p).tx.length) :
    (s.askBlock v p).link q = s.link q := by
  rw [State.askBlock_link]
  split
  · rename_i hq
    unfold queued
    rw [if_neg (by omega), hq]
  · rfl

theorem State.askBlock_rse (s : State) (v : Repair) (p : Port) :
    (s.askBlock v p).rse = { s.rse with repair := some (v.ask p) } := by
  unfold State.askBlock
  rw [(State.offerFrame_frame ..).2.2.2.2.2.2.2.2.2.2.2.1]
  rfl

/-- The search for a partner either leaves the mode and the list, or isolates the channel where every expected voter's queue
is full. -/
theorem State.seekBlock_outcome (k : Nat) (s : State) (v : Repair) (hv : s.rse.repair = some v) (hk : v.untried < k)
    (hm : s.mdc.mode = .repair)
    (ht : ∀ p, s.expectedVoter p = true → v.tried p = true → 16 ≤ (s.link p).tx.length) :
    ((State.seekBlock k s).mdc = s.mdc ∧ (State.seekBlock k s).rse.repairList = s.rse.repairList ∧
      (State.seekBlock k s).rse.service = s.rse.service) ∨
    ((State.seekBlock k s).mdc = { mode := .isolated, chen := false, cause := .noSource } ∧
      ∀ p, s.expectedVoter p = true → 16 ≤ (s.link p).tx.length) := by
  induction k generalizing s v with
  | zero => exact absurd hk (Nat.not_lt_zero _)
  | succ k ih =>
    unfold State.seekBlock
    rw [hv]
    dsimp only
    cases hc : s.repairCandidate v with
    | none =>
      exact .inr ⟨(s.isolateFor_mdc .noSource (by rw [hm]; rfl)).1,
        fun p hp => ht p hp (s.repairCandidate_none v hc p hp)⟩
    | some p =>
      obtain ⟨hp, hnt⟩ := s.repairCandidate_some v p hc
      dsimp only
      by_cases ha : s.blockAsked p = true
      · rw [if_pos ha]
        refine .inl ⟨?_, ?_, ?_⟩
        · unfold State.askBlock
          simp
        · rw [State.askBlock_rse]
        · rw [State.askBlock_rse]
      · rw [if_neg ha]
        have hfull : 16 ≤ (s.link p).tx.length := by
          rw [s.blockAsked_iff p hp] at ha
          omega
        have hlink (q : Port) := s.askBlock_link_of_full v p q hfull
        have hmdc : (s.askBlock v p).mdc = s.mdc := by
          unfold State.askBlock
          simp
        have hvoter (q : Port) : (s.askBlock v p).expectedVoter q = s.expectedVoter q := by
          unfold State.expectedVoter
          rw [hlink, hmdc]
        have hrse := s.askBlock_rse v p
        have hnext := ih (s.askBlock v p) (v.ask p) (by rw [hrse])
          (by have := v.untried_ask p hnt; omega) (by rw [hmdc, hm]) (fun q hq htq => by
            rw [hvoter] at hq
            rw [hlink]
            rw [v.ask_tried] at htq
            obtain h | h := Bool.or_eq_true_iff.1 htq
            · exact ht q hq h
            · rw [← eq_of_beq h]
              exact hfull)
        simp only [hlink, hvoter, hmdc, hrse] at hnext
        exact hnext

/-! ### A block joins the list while the SCRUB pass goes on -/

theorem State.abandonRiding_ptl (s : State) (i : Fin 32) :
    (s.abandonRiding i).ptl.kind = s.ptl.kind ∧ (s.abandonRiding i).ptl.asked = s.ptl.asked := by
  unfold State.abandonRiding
  split
  · split <;> exact ⟨rfl, rfl⟩
  · split
    · split <;> exact ⟨rfl, rfl⟩
    · exact ⟨rfl, rfl⟩

theorem State.blockJoined_scrub (s : State) (i : Fin 32) (g : Group) (a : Nat) (hk : s.ptl.kind = .scrub)
    (ha : s.ptl.asked = []) (hp : s.msq.port = some g) (ho : g.op = .pRead a) :
    s.blockJoined i = (s.abandonRiding i).skip := by
  obtain ⟨hk', ha'⟩ := s.abandonRiding_ptl i
  have hs : (s.abandonRiding i).scrubInFlight = false := by
    unfold State.scrubInFlight
    rw [(s.abandonRiding_frame i).2.2.2.2.1, hp]
    simp [ho]
  unfold State.blockJoined
  dsimp only
  rw [hk', ha', hk, ha, if_neg nofun, if_neg (by simp), hs]
  rfl

/-! ### A repair begins (R126, R150) -/

theorem State.endService_link (s : State) (w : Word) (p : Port) : (s.endService (some w)).link p = { s.link p with
    tx := if s.rse.service.map (·.port) = some p then queued (s.link p) (.abandon w) else (s.link p).tx } := by
  cases hv : s.rse.service with
  | none =>
    have he : s.endService (some w) = s := by
      unfold State.endService
      rw [hv]
    rw [he]
    simp
  | some v =>
    obtain ⟨-, -, hport, hother⟩ := s.endService_ended v w hv
    by_cases h : v.port = p
    · rw [← h, hport]
      simp
    · rw [hother p (Ne.symm h)]
      simp [h]

theorem State.endService_rse (s : State) (w : Word) : (s.endService (some w)).rse = { s.rse with service := none } := by
  cases hv : s.rse.service with
  | none =>
    have he : s.endService (some w) = s := by
      unfold State.endService
      rw [hv]
    rw [he, ← hv]
  | some v => exact (s.endService_ended v w hv).1

theorem State.endService_port (s : State) (w : Word) (g : Group) (a : Nat) (hp : s.msq.port = some g)
    (ho : g.op = .pRead a) : (s.endService (some w)).msq.port = some g := by
  unfold State.endService
  split
  · exact hp
  · show ((s.offerFrame _ _).msq.port.map fun g => if WordOp.ofCopy g.op then { g with live := false } else g) = some g
    rw [(State.offerFrame_frame ..).2.2.2.2.1, hp, Option.map_some, ho]
    rfl

/-- The mode is REPAIR with the block on the list, and SRM has its occasion to choose a move. -/
def State.repairEntered (s : State) (b : Nat) : State :=
  (((s.endService (some serviceEndedReason)).listBlock b).setMode .repair).fire .modeChanged

/-- The record of the repair is there, and a partner is to be asked. -/
def State.repairBegun (s : State) (i : Fin 32) (b : Nat) : State :=
  ((((s.repairEntered b).chooseMove).abandonRiding i).skip).setRepair (some Repair.new)

theorem State.enterRepair_eq (s : State) (i : Fin 32) (b : Nat) (g : Group) (a : Nat) (hm : s.mdc.mode = .run)
    (hk : s.ptl.kind = .scrub) (ha : s.ptl.asked = []) (hp : s.msq.port = some g) (ho : g.op = .pRead a) :
    s.enterRepair i b = State.seekBlock 3 (s.repairBegun i b) := by
  have hmode : ((s.endService (some serviceEndedReason)).listBlock b).mdc.mode.leadsTo .repair = true := by
    rw [State.listBlock_frame .. |>.2.2.2.2.2.2.2.2.2.2.2.1, State.endService_frame .. |>.2.2.2.2.2.2.2.2.2.1, hm]
    rfl
  have hreq : ((s.endService (some serviceEndedReason)).listBlock b).requestMode .repair =
      (s.repairEntered b).chooseMove := by
    rw [State.requestMode_repair, if_pos hmode]
    rfl
  have hport : (s.repairEntered b).chooseMove.msq.port = some g := by
    rw [(State.chooseMove_frame _).2.2.2.2.1]
    exact s.endService_port _ g a hp ho
  have hptl : (s.repairEntered b).chooseMove.ptl = s.ptl := by
    rw [(State.chooseMove_frame _).2.2.2.2.2.2.1]
    unfold State.repairEntered
    simp
  unfold State.enterRepair
  rw [hreq]
  dsimp only
  rw [State.blockJoined_scrub _ i g a (by rw [hptl, hk]) (by rw [hptl, ha]) hport ho]
  rfl

/-- What stands when the partner is asked. -/
theorem State.repairBegun_state (s : State) (i : Fin 32) (b : Nat) :
    (s.repairBegun i b).chanId = s.chanId ∧ (s.repairBegun i b).dgu.tableDigest = s.dgu.tableDigest ∧
    (s.repairBegun i b).lkc = (s.endService (some serviceEndedReason)).lkc ∧
    (s.repairBegun i b).mdc = { s.mdc with mode := .repair, chen := false } ∧
    (s.repairBegun i b).rse =
      { s.rse with service := none, repairList := s.rse.repairList ++ [b], repair := some Repair.new } ∧
    (s.repairBegun i b).srm = (s.repairEntered b).chooseMove.srm ∧
    (s.repairBegun i b).ret = (s.repairEntered b).chooseMove.ret := by
  have hrse : (s.repairEntered b).rse = { s.rse with service := none, repairList := s.rse.repairList ++ [b] } := by
    show { (s.endService (some serviceEndedReason)).rse with
      repairList := (s.endService (some serviceEndedReason)).rse.repairList ++ [b] } = _
    rw [s.endService_rse]
  refine ⟨?_, ?_, ?_, ?_, ?_, ?_, ?_⟩
  · simp [State.repairBegun, State.repairEntered]
  · simp [State.repairBegun, State.repairEntered]
  · simp [State.repairBegun, State.repairEntered]
  · simp [State.repairBegun, State.repairEntered, State.setMode]
  · show { (((s.repairEntered b).chooseMove).abandonRiding i).skip.rse with repair := some Repair.new } = _
    simp [hrse]
  · simp [State.repairBegun]
  · simp [State.repairBegun]

theorem State.repairBegun_aftermath (s : State) (i : Fin 32) (b : Nat) :
    Aftermath (s.repairEntered b).chooseMove (s.repairBegun i b) :=
  ((Aftermath.refl _).abandonRiding i).skip.setRse _

theorem State.repairEntered_flag (s : State) (b : Nat) : FlagSet (s.repairEntered b) .modeChanged := by
  unfold FlagSet State.repairEntered
  rw [State.fire_flag]
  simp

theorem State.repairBegun_link (s : State) (i : Fin 32) (b : Nat) (p : Port) : (s.repairBegun i b).link p = { s.link p with
    tx := if s.rse.service.map (·.port) = some p then queued (s.link p) (.abandon serviceEndedReason)
      else (s.link p).tx } := by
  rw [← s.endService_link]
  unfold State.link
  rw [(s.repairBegun_state i b).2.2.1]

theorem State.repairBegun_voter (s : State) (i : Fin 32) (b : Nat) (p : Port) (hm : s.mdc.mode = .run) :
    (s.repairBegun i b).expectedVoter p = s.expectedVoter p := by
  unfold State.expectedVoter
  rw [s.repairBegun_link, (s.repairBegun_state i b).2.2.2.1, hm]
  rfl

/-- The ABANDON to the service's port takes at most one place. -/
theorem State.repairBegun_tx (s : State) (i : Fin 32) (b : Nat) (p : Port) :
    ((s.repairBegun i b).link p).tx.length ≤ (s.link p).tx.length + 1 := by
  rw [s.repairBegun_link]
  dsimp only
  unfold queued
  split
  · split <;> simp
  · omega

theorem State.repairBegun_firstVoter (s : State) (i : Fin 32) (b : Nat) (p : Port) (hm : s.mdc.mode = .run)
    (h : FirstVoter s p) : FirstVoter (s.repairBegun i b) p := by
  have hid (q : Port) : (s.repairBegun i b).partnerId q = s.partnerId q := by
    cases q <;> (unfold State.partnerId; rw [(s.repairBegun_state i b).1])
  unfold FirstVoter at h ⊢
  simp only [s.repairBegun_voter i b _ hm, hid]
  exact h

/-- The expected voter of the lower identity is asked where its queue has room. -/
theorem State.seekBlock_first (s : State) (v : Repair) (p : Port) (hv : s.rse.repair = some v)
    (ht : ∀ q, v.tried q = false) (hf : FirstVoter s p) (hl : (s.link p).tx.length < 16) :
    State.seekBlock 3 s = s.askBlock v p := by
  unfold State.seekBlock
  rw [hv]
  dsimp only
  rw [s.repairCandidate_first v p ht hf]
  dsimp only
  rw [if_pos ((s.blockAsked_iff p hf.1).2 hl)]

/-! ### Table 8.4 -/

theorem State.consequence_eventOnly (s : State) (pl : WordPlace) (a : Nat) (h : EventOnly s.mdc.mode pl.cls) :
    s.consequence pl a = s := by
  unfold EventOnly at h
  unfold State.consequence
  split <;> simp_all

theorem State.consequence_vital (s : State) (pl : WordPlace) (a : Nat) (hc : pl.cls = .vital)
    (h : ¬ EventOnly s.mdc.mode pl.cls) :
    s.consequence pl a = s.isolateFor .vitalDamage ∧ s.mdc.mode.isolable = true := by
  unfold EventOnly at h
  unfold State.consequence
  rw [hc] at h ⊢
  cases hm : s.mdc.mode <;> simp_all [Mode.isolable]

theorem State.consequence_constant (s : State) (pl : WordPlace) (a : Nat) (hc : pl.cls = .constant) :
    ((s.mdc.mode = .sync ∨ s.mdc.mode = .verify ∨ s.mdc.mode = .ready) →
      s.consequence pl a = s.isolateFor .vitalDamage ∧ s.mdc.mode.isolable = true) ∧
    (s.mdc.mode = .run → s.consequence pl a = s.enterRepair pl.region (a / 4096 * 4096)) ∧
    (s.mdc.mode = .repair → s.consequence pl a = s.joinRepair pl.region (a / 4096 * 4096)) := by
  unfold State.consequence
  rw [hc]
  refine ⟨?_, fun h => ?_, fun h => ?_⟩
  · rintro (h | h | h) <;> (rw [h]; exact ⟨rfl, rfl⟩)
  · rw [h]
    rfl
  · rw [h]
    rfl

end Sys2Proof.Machine
end

section
/-! The end of a processor read (O44), by the outcome of its read slot. -/

namespace Sys2Proof.Machine

theorem exec_processorReadEnd_none {s : State} {g : Group} {a : Nat} (m : CellSample) (hp : s.msq.port = some g)
    (ho : g.op = .pRead a) (hw : s.txi.waiting = []) :
    exec (.processorReadEnd m) s = .next (s.processorReadEnd g m) := by
  rw [exec_processorReadEnd_of m hp ho, State.thenTake_none _ _ hw]

theorem State.finish_flag (s : State) (st : ResponseStatus) (d : List Word) (ev : Event) :
    FlagSet (s.finish st d) ev ↔ FlagSet s ev := by
  unfold FlagSet
  rw [(s.finish_frame st d).2.2.2.2.2.2.2.2.2.2.1]

/-! ### The three outcomes -/

theorem State.processorReadEnd_clean (s : State) (g : Group) (m : CellSample) (v : Word)
    (h : readResult (found s g m) = (.clean, v)) :
    s.processorReadEnd g m = (s.readSlot g.row g.word m).1.finish .okay [v] := by
  have hr : (s.readSlot g.row g.word m).2 = (.clean, v) := h
  unfold State.processorReadEnd State.countBack
  dsimp only
  rw [hr]
  simp [State.writeBack, State.reportOutcome, State.finish, statusOf]

/-- The state with the corrected word written back, before the report. -/
def State.readBack (s : State) (g : Group) (m : CellSample) (v : Word) : State :=
  (s.readSlot g.row g.word m).1.writeRows g.row g.word g.mirror v

theorem State.processorReadEnd_corrected (s : State) (g : Group) (m : CellSample) (v : Word)
    (h : readResult (found s g m) = (.corrected, v)) : s.processorReadEnd g m =
      (((s.readBack g m v).reportCorrected g).countBack g .corrected).finish .corrected [v] := by
  have hr : (s.readSlot g.row g.word m).2 = (.corrected, v) := h
  unfold State.processorReadEnd
  dsimp only
  rw [hr]
  simp [State.writeBack, State.reportOutcome, State.finish, statusOf, State.readBack]

/-- The state with the uncorrectable word noted, before the consequence. -/
def State.readNoted (s : State) (g : Group) (m : CellSample) : State :=
  (s.readSlot g.row g.word m).1.noteUncorrectable g

theorem State.processorReadEnd_uncorrectable (s : State) (g : Group) (m : CellSample)
    (h : readResult (found s g m) = (.uncorrectable, 0)) :
    s.processorReadEnd g m = ((s.readSlot g.row g.word m).1.reportUncorrectable g).finish .fault [0] := by
  have hr : (s.readSlot g.row g.word m).2 = (.uncorrectable, 0) := h
  unfold State.processorReadEnd State.countBack
  dsimp only
  rw [hr]
  simp [State.writeBack, State.reportOutcome, State.finish, statusOf]

@[simp] theorem State.readNoted_frame (s : State) (g : Group) (m : CellSample) :
    (s.readNoted g m).chanId = s.chanId ∧ (s.readNoted g m).msize = s.msize ∧ (s.readNoted g m).txi = s.txi ∧
    (s.readNoted g m).rgt = s.rgt ∧ (s.readNoted g m).msq = s.msq ∧ (s.readNoted g m).ret = s.ret ∧
    (s.readNoted g m).srm = s.srm ∧ (s.readNoted g m).dgu = s.dgu ∧ (s.readNoted g m).ptl = s.ptl ∧
    (s.readNoted g m).lkc = s.lkc ∧ (s.readNoted g m).vtu = s.vtu ∧ (s.readNoted g m).mdc = s.mdc ∧
    (s.readNoted g m).rse = s.rse ∧ (s.readNoted g m).cmi = s.cmi ∧ (s.readNoted g m).pending = s.pending := by
  unfold State.readNoted State.noteUncorrectable
  simp

theorem State.readNoted_link (s : State) (g : Group) (m : CellSample) (p : Port) :
    (s.readNoted g m).link p = s.link p := by
  unfold State.link
  simp

theorem State.readNoted_voter (s : State) (g : Group) (m : CellSample) (p : Port) :
    (s.readNoted g m).expectedVoter p = s.expectedVoter p := by
  unfold State.expectedVoter
  rw [State.readNoted_link]
  simp

/-! ### A clean word -/

theorem State.processorReadEnd_clean_ended (s : State) (g : Group) (m : CellSample) (v : Word)
    (h : readResult (found s g m) = (.clean, v)) (hw : s.txi.waiting = []) :
    memLookup (s.processorReadEnd g m).mem (groupKey g) = some (found s g m) ∧
      CellsKept s (s.processorReadEnd g m) [groupKey g] ∧ WordAnswered s (s.processorReadEnd g m) .okay [v] ∧
      (s.processorReadEnd g m).msq = { s.msq with port := none } ∧ WaitingStarts s (s.processorReadEnd g m) ∧
      s.processorReadEnd g m = { s with
        mem := (s.processorReadEnd g m).mem, txi := (s.processorReadEnd g m).txi
        msq := (s.processorReadEnd g m).msq, srm := (s.processorReadEnd g m).srm
        ret := (s.processorReadEnd g m).ret } := by
  rw [s.processorReadEnd_clean g m v h]
  obtain ⟨hmem, hcells⟩ := cellsKept_of_readSlot
    (t := (s.readSlot g.row g.word m).1.finish .okay [v]) (s := s) (g := g) (m := m) (by simp)
  exact ⟨hmem, hcells, State.finish_answered .okay [v] (by simp) hw, by simp,
    State.finish_starts .okay [v] (by simp) (by simp), State.eq_of_blocks (by simp)⟩

/-! ### A corrected word -/

@[simp] theorem State.readBack_frame (s : State) (g : Group) (m : CellSample) (v : Word) :
    (s.readBack g m v).chanId = s.chanId ∧ (s.readBack g m v).msize = s.msize ∧ (s.readBack g m v).txi = s.txi ∧
    (s.readBack g m v).rgt = s.rgt ∧ (s.readBack g m v).msq = s.msq ∧ (s.readBack g m v).ret = s.ret ∧
    (s.readBack g m v).srm = s.srm ∧ (s.readBack g m v).dgu = s.dgu ∧ (s.readBack g m v).ptl = s.ptl ∧
    (s.readBack g m v).lkc = s.lkc ∧ (s.readBack g m v).vtu = s.vtu ∧ (s.readBack g m v).mdc = s.mdc ∧
    (s.readBack g m v).rse = s.rse ∧ (s.readBack g m v).evu = s.evu ∧ (s.readBack g m v).cmi = s.cmi ∧
    (s.readBack g m v).pending = s.pending := by
  unfold State.readBack
  simp

/-- The write-back's slots count for a counted read (R34, log entry 10). -/
theorem State.countBack_msq (s : State) (g : Group) : (s.countBack g .corrected).msq = { s.msq with
    yieldCount := s.msq.yieldCount + (if g.counted = true then (if g.mirror = none then 1 else 2) else 0) } := by
  unfold State.countBack Group.backSlots
  cases hc : g.counted <;> cases hm : g.mirror <;> simp

/-- The rows written, the answer and the event. -/
theorem State.processorReadEnd_corrected_ended (s : State) (g : Group) (m : CellSample) (v : Word)
    (h : readResult (found s g m) = (.corrected, v)) (hw : s.txi.waiting = []) :
    Stores (s.processorReadEnd g m) g v ∧ CellsKept s (s.processorReadEnd g m) (writtenKeys g) ∧
      WordAnswered s (s.processorReadEnd g m) .corrected [v] ∧
      (s.processorReadEnd g m).msq = { s.msq with port := none, yieldCount := s.msq.yieldCount +
        (if g.counted = true then (if g.mirror = none then 1 else 2) else 0) } ∧
      Aftermath ((s.readBack g m v).noteCorrected.reportRow g.row g.word) (s.processorReadEnd g m) ∧
      FlagSet (s.processorReadEnd g m) .memCorrected := by
  rw [s.processorReadEnd_corrected g m v h]
  have hmem : ((((s.readBack g m v).reportCorrected g).countBack g .corrected).finish .corrected [v]).mem =
      ((s.readSlot g.row g.word m).1.writeRows g.row g.word g.mirror v).mem := by
    simp [State.readBack]
  have haft : Aftermath ((s.readBack g m v).noteCorrected.reportRow g.row g.word)
      ((((s.readBack g m v).reportCorrected g).countBack g .corrected).finish .corrected [v]) :=
    (Aftermath.refl _).of_frame (by simp [State.reportCorrected_eq]) (by simp [State.reportCorrected_eq])
  refine ⟨stores_of_mem hmem, cellsKept_of_writeRows (s.readSlot_others g m) hmem,
    State.finish_answered .corrected [v] (by simp) hw, ?_, haft, haft.flags _ ?_⟩
  · simp [State.countBack_msq]
  · exact ((Aftermath.refl _).reportRow g.row g.word).flags _
      (((s.readBack g m v).noteCorrected_flags .memCorrected).2 (.inr (by simp)))

/-- The counter, the captures, the row table and the rest of the part. -/
theorem State.processorReadEnd_corrected_reported (s : State) (g : Group) (m : CellSample) (v : Word)
    (h : readResult (found s g m) = (.corrected, v)) (hp : s.msq.port = some g) (hn : RowTableLaw s)
    (hw : s.txi.waiting = []) :
    RowReported s (s.processorReadEnd g m) g.row g.word ∧
      (s.processorReadEnd g m).evu.counters[(0 : Fin 16)] =
        (if s.evu.counters[(0 : Fin 16)] < 65535 then s.evu.counters[(0 : Fin 16)] + 1
          else s.evu.counters[(0 : Fin 16)]) ∧
      CapturesKept s (s.processorReadEnd g m) ∧ s.processorReadEnd g m = { s with
        mem := (s.processorReadEnd g m).mem, txi := (s.processorReadEnd g m).txi
        msq := { s.msq with port := none, yieldCount := (s.processorReadEnd g m).msq.yieldCount }
        srm := (s.processorReadEnd g m).srm, ret := (s.processorReadEnd g m).ret
        evu := (s.processorReadEnd g m).evu } := by
  obtain ⟨-, -, -, -, haft, -⟩ := s.processorReadEnd_corrected_ended g m v h hw
  have hrow : Aftermath (s.readBack g m v).noteCorrected (s.processorReadEnd g m) :=
    ((Aftermath.refl _).reportRow g.row g.word).trans haft
  refine ⟨?_, ?_, fun k => ?_, State.eq_of_blocks ?_⟩
  · rw [s.processorReadEnd_corrected g m v h]
    refine rowReported_of_finish (x := (s.readBack g m v).noteCorrected) ?_ ?_ ?_ ?_ hn ?_ ?_ ?_
    · simpa [State.noteCorrected] using hp
    · simp [State.noteCorrected]
    · simp [State.noteCorrected]
    · simp [State.noteCorrected]
    · simp [State.reportCorrected_eq]
    · simp [State.reportCorrected_eq]
    · exact (Aftermath.refl _).of_frame (by simp [State.reportCorrected_eq]) (by simp [State.reportCorrected_eq])
  · have hc := (s.readBack g m v).noteCorrected_counter
    simp only [(s.readBack_frame g m v).2.2.2.2.2.2.2.2.2.2.2.2.2.1] at hc
    exact (hrow.counters .corrected (.inl rfl)).trans hc
  · rw [hrow.captures k, (s.readBack g m v).noteCorrected_captures k]
    simp
  · rw [s.processorReadEnd_corrected g m v h]
    simp [State.countBack_msq]

/-- The occasion to choose a move that the report gives (R45, R46). -/
theorem State.processorReadEnd_corrected_weak (s : State) (g : Group) (a : Nat) (m : CellSample) (v : Word)
    (h : readResult (found s g m) = (.corrected, v)) (hp : s.msq.port = some g) (ho : g.op = .pRead a)
    (hn : RowTableLaw s) (hw : s.txi.waiting = []) (e : RowEntry) (he : e ∈ s.ret.entries) (hr : e.row = g.row)
    (ht : e.state = .tracking) (hl : s.cmi.settings.weakLimit ≤ countAfter e) (hm : ¬ MoveWaits s) :
    FlagSet (s.processorReadEnd g m) .rowWeak ∧
      MoveChosen s.srm (reportedEntries s g.row g.word) (MovePermitted s s.mdc.mode) False
        (s.processorReadEnd g m) := by
  obtain ⟨-, -, -, -, haft, -⟩ := s.processorReadEnd_corrected_ended g m v h hw
  have hret : (s.readBack g m v).noteCorrected.ret = s.ret := by simp [State.noteCorrected]
  have hcmi : (s.readBack g m v).noteCorrected.cmi = s.cmi := by simp [State.noteCorrected]
  have hsrm : (s.readBack g m v).noteCorrected.srm = s.srm := by simp [State.noteCorrected]
  have hmdc : (s.readBack g m v).noteCorrected.mdc = s.mdc := by simp [State.noteCorrected]
  have hport : (s.readBack g m v).noteCorrected.msq.port = some g := by simpa [State.noteCorrected] using hp
  generalize hx : (s.readBack g m v).noteCorrected = x at haft hret hcmi hsrm hmdc hport
  have hent : reportedEntries x g.row g.word = reportedEntries s g.row g.word := by
    rw [reportedEntries_eq, reportedEntries_eq, hret, hcmi]
  have hrep := x.reportRow_of_weak g.row g.word (hret ▸ hn.2) e (hret ▸ he) hr ht (hcmi ▸ hl)
  rw [hrep] at haft
  let y := (x.rowHit g.row g.word).fire .rowWeak
  have hys : y.srm = s.srm := hsrm
  have hyr : y.ret.entries = reportedEntries s g.row g.word := hent
  have hym : y.mdc = s.mdc := hmdc
  have hyp : y.msq.port = some g := hport
  have hnodup : (y.ret.entries.map (·.row)).Nodup := by
    rw [hyr, reportedEntries_eq, reported_rows]
    exact hn.2
  have hwait : y.srm.startWaiting = none := by
    rw [hys]
    simpa [MoveWaits] using hm
  have hchosen := y.chooseMove_atEnd g hnodup hwait hyp (by rw [ho]; exact nofun)
  rw [hys, hyr] at hchosen
  have hrows : (s.processorReadEnd g m).srm = y.chooseMove.endGroup.srm ∧
      (s.processorReadEnd g m).ret = y.chooseMove.endGroup.ret := by
    rw [s.processorReadEnd_corrected g m v h]
    refine State.finish_rows _ _ .corrected [v] ?_ ?_
    · rw [(State.countBack_frame ..).2.2.2.2.2.2.1, State.reportCorrected_eq, hx, hrep]
    · rw [(State.countBack_frame ..).2.2.2.2.2.1, State.reportCorrected_eq, hx, hrep]
  refine ⟨?_, hchosen.congr ?_ hrows.1 (by rw [hrows.2]) fun hf => haft.flags _ ?_⟩
  · refine haft.flags _ ((Aftermath.refl y).chooseMove.flags _ ?_)
    unfold FlagSet
    rw [State.fire_flag]
    simp
  · unfold MovePermitted
    rw [hys, hym, hyp, hp]
  · unfold FlagSet at hf ⊢
    rwa [(State.endGroup_frame _).2.2.2.2.2.2.2.2.2.2.1] at hf

end Sys2Proof.Machine
end

section
/-! A processor read whose word is uncorrectable, and the statement of the read end (O44), assembled. -/

namespace Sys2Proof.Machine

variable {s : State} {g : Group} {a : Nat} {m : CellSample} {pl : WordPlace}

/-! ### What is reported -/

theorem State.processorReadEnd_noted (s : State) (g : Group) (m : CellSample)
    (h : readResult (found s g m) = (.uncorrectable, 0)) : Aftermath (s.readNoted g m) (s.processorReadEnd g m) := by
  rw [s.processorReadEnd_uncorrectable g m h]
  exact ((s.readSlot g.row g.word m).1.reportUncorrectable_aftermath g).of_frame
    (State.finish_frame ..).2.2.2.2.2.2.2.2.2.2.1 (State.finish_frame ..).2.2.2.2.1

theorem State.readNoted_fired (s : State) (g : Group) (m : CellSample) : Fired s (s.readNoted g m) [.memUncorrectable] := by
  have h := (s.readSlot g.row g.word m).1.noteUncorrectable_flags g
  unfold Fired FlagSet at h ⊢
  rwa [(s.readSlot_frame g.row g.word m).2.2.2.2.2.2.2.2.2.2.2.2.2.1] at h

theorem State.readNoted_captured (s : State) (g : Group) (a : Nat) (m : CellSample) (ho : g.op = .pRead a) :
    Captured s (s.readNoted g m) .memory .p (some a) (.memory .read) := by
  have h : Captured (s.readSlot g.row g.word m).1 (s.readNoted g m) .memory .p (some a) (.memory .read) := by
    have hn := (s.readSlot g.row g.word m).1.noteUncorrectable_captured g
    rw [ho] at hn
    exact hn
  unfold Captured at h ⊢
  simpa using h

theorem State.readNoted_counter (s : State) (g : Group) (m : CellSample) :
    (s.readNoted g m).evu.counters[(1 : Fin 16)] =
      if s.evu.counters[(1 : Fin 16)] < 65535 then s.evu.counters[(1 : Fin 16)] + 1
      else s.evu.counters[(1 : Fin 16)] := by
  have h := (s.readSlot g.row g.word m).1.noteUncorrectable_counter g
  simp only [(s.readSlot_frame g.row g.word m).2.2.2.2.2.2.2.2.2.2.2.2.2.1] at h
  exact h

/-- The memory, the answer, the event and its capture, whatever the consequence. -/
theorem State.processorReadEnd_uncorrectable_ended (s : State) (g : Group) (a : Nat) (m : CellSample)
    (h : readResult (found s g m) = (.uncorrectable, 0)) (ho : g.op = .pRead a) (hw : s.txi.waiting = []) :
    let t := s.processorReadEnd g m
    memLookup t.mem (groupKey g) = some (found s g m) ∧ CellsKept s t [groupKey g] ∧ FlagSet t .memUncorrectable ∧
      t.evu.counters[(1 : Fin 16)] = (if s.evu.counters[(1 : Fin 16)] < 65535 then s.evu.counters[(1 : Fin 16)] + 1
        else s.evu.counters[(1 : Fin 16)]) ∧
      Captured s t .memory .p (some a) (.memory .read) ∧ WordAnswered s t .fault [0] ∧ t.msq.port = none := by
  have haft := s.processorReadEnd_noted g m h
  have he := s.processorReadEnd_uncorrectable g m h
  obtain ⟨hmem, hcells⟩ := cellsKept_of_readSlot (t := s.processorReadEnd g m) (s := s) (g := g) (m := m)
    (by rw [he]; simp)
  refine ⟨hmem, hcells, haft.flags _ ((s.readNoted_fired g m .memUncorrectable).2 (.inr (by simp))),
    (haft.counters .uncorrectable (.inr rfl)).trans (s.readNoted_counter g m),
    (s.readNoted_captured g a m ho).aftermath haft, ?_, ?_⟩
  · rw [he]
    exact State.finish_answered .fault [0] (by simp) hw
  · rw [he]
    simp

/-- The end of a read whose word has a place, and so a consequence. -/
theorem State.processorReadEnd_consequence (h : readResult (found s g m) = (.uncorrectable, 0)) (hpl : g.place = some pl)
    (ho : g.op = .pRead a) :
    s.processorReadEnd g m = ((s.readNoted g m).consequence pl a).finish .fault [0] := by
  rw [s.processorReadEnd_uncorrectable g m h, State.reportUncorrectable_eq, hpl, ho]
  rfl

/-- No consequence: nothing more than the event. -/
theorem State.readNoted_quiet (s : State) (g : Group) (m : CellSample) :
    let t := (s.readNoted g m).finish .fault [0]
    Fired s t [.memUncorrectable] ∧ WaitingStarts s t ∧ t = { s with
      mem := t.mem, txi := t.txi, msq := { s.msq with port := none }, srm := t.srm, ret := t.ret, evu := t.evu } := by
  refine ⟨fun ev => ?_, State.finish_starts .fault [0] (by simp) (by simp), State.eq_of_blocks (by simp)⟩
  rw [State.finish_flag]
  exact s.readNoted_fired g m ev

theorem State.processorReadEnd_eventOnly (h : readResult (found s g m) = (.uncorrectable, 0))
    (hev : ∀ pl, g.place = some pl → EventOnly s.mdc.mode pl.cls) :
    s.processorReadEnd g m = (s.readNoted g m).finish .fault [0] := by
  rw [s.processorReadEnd_uncorrectable g m h, State.reportUncorrectable_eq]
  cases hpl : g.place with
  | none => rfl
  | some pl =>
    have hmode : (s.readNoted g m).mdc = s.mdc := by simp
    have hc := (s.readNoted g m).consequence_eventOnly pl g.op.addr (by rw [hmode]; exact hev pl hpl)
    exact congrArg (State.finish · .fault [0]) hc

/-! ### The consequences -/

/-- An isolation as the consequence. -/
theorem State.processorReadEnd_isolates (h : readResult (found s g m) = (.uncorrectable, 0)) (hpl : g.place = some pl)
    (ho : g.op = .pRead a) (c : Cause)
    (hc : (s.readNoted g m).consequence pl a = (s.readNoted g m).isolateFor c) (hi : s.mdc.mode.isolable = true) :
    (s.processorReadEnd g m).mdc = { mode := .isolated, chen := false, cause := c } ∧
      (s.processorReadEnd g m).rse.repairList = [] ∧ FlagSet (s.processorReadEnd g m) .isolated := by
  have hi' : (s.readNoted g m).mdc.mode.isolable = true := by simpa using hi
  obtain ⟨hmdc, hlist, hflag⟩ := (s.readNoted g m).isolateFor_mdc c hi'
  rw [State.processorReadEnd_consequence h hpl ho, hc, State.finish_flag]
  exact ⟨by simpa using hmdc, by simpa using hlist, hflag⟩

theorem State.processorReadEnd_vital (h : readResult (found s g m) = (.uncorrectable, 0)) (hpl : g.place = some pl)
    (ho : g.op = .pRead a) (hc : pl.cls = .vital) (hev : ¬ EventOnly s.mdc.mode pl.cls) :
    (s.processorReadEnd g m).mdc = { mode := .isolated, chen := false, cause := .vitalDamage } ∧
      FlagSet (s.processorReadEnd g m) .isolated := by
  have hmdc : (s.readNoted g m).mdc = s.mdc := by simp
  obtain ⟨hcon, hi⟩ := (s.readNoted g m).consequence_vital pl a hc (by rwa [hmdc])
  obtain ⟨hm, -, hf⟩ := State.processorReadEnd_isolates h hpl ho _ hcon (hmdc ▸ hi)
  exact ⟨hm, hf⟩

theorem State.processorReadEnd_constant (h : readResult (found s g m) = (.uncorrectable, 0)) (hpl : g.place = some pl)
    (ho : g.op = .pRead a) (hc : pl.cls = .constant)
    (hmode : s.mdc.mode = .sync ∨ s.mdc.mode = .verify ∨ s.mdc.mode = .ready) :
    (s.processorReadEnd g m).mdc = { mode := .isolated, chen := false, cause := .vitalDamage } ∧
      FlagSet (s.processorReadEnd g m) .isolated := by
  have hmdc : (s.readNoted g m).mdc = s.mdc := by simp
  obtain ⟨hcon, hi⟩ := ((s.readNoted g m).consequence_constant pl a hc).1 (by rwa [hmdc])
  obtain ⟨hm, -, hf⟩ := State.processorReadEnd_isolates h hpl ho _ hcon (hmdc ▸ hi)
  exact ⟨hm, hf⟩

/-! ### A repair begins -/

/-- The state in which a partner is asked for the block that could not be read. -/
def State.readAsks (s : State) (g : Group) (a : Nat) (m : CellSample) (pl : WordPlace) : State :=
  (s.readNoted g m).repairBegun pl.region (a / 4096 * 4096)

theorem State.processorReadEnd_asks (h : readResult (found s g m) = (.uncorrectable, 0)) (hpl : g.place = some pl)
    (hp : s.msq.port = some g) (ho : g.op = .pRead a) (hc : pl.cls = .constant) (hm : s.mdc.mode = .run)
    (hk : s.ptl.kind = .scrub) (hask : s.ptl.asked = []) :
    s.processorReadEnd g m = (State.seekBlock 3 (s.readAsks g a m pl)).finish .fault [0] := by
  rw [State.processorReadEnd_consequence h hpl ho,
    ((s.readNoted g m).consequence_constant pl a hc).2.1 (by simpa using hm),
    State.enterRepair_eq _ _ _ g a (by simpa using hm) (by simpa using hk) (by simpa using hask) (by simpa using hp) ho]
  rfl

theorem State.readAsks_state (s : State) (g : Group) (a : Nat) (m : CellSample) (pl : WordPlace) :
    (s.readAsks g a m pl).dgu.tableDigest = s.dgu.tableDigest ∧
    (s.readAsks g a m pl).mdc = { s.mdc with mode := .repair, chen := false } ∧
    (s.readAsks g a m pl).rse = { s.rse with
      service := none, repairList := s.rse.repairList ++ [a / 4096 * 4096], repair := some Repair.new } := by
  obtain ⟨-, htable, -, hmdc, hrse, -⟩ := (s.readNoted g m).repairBegun_state pl.region (a / 4096 * 4096)
  unfold State.readAsks
  rw [htable, hmdc, hrse]
  simp

theorem State.readAsks_voter (s : State) (g : Group) (a : Nat) (m : CellSample) (pl : WordPlace) (p : Port)
    (hm : s.mdc.mode = .run) : (s.readAsks g a m pl).expectedVoter p = s.expectedVoter p := by
  unfold State.readAsks
  rw [State.repairBegun_voter _ _ _ _ (by simpa using hm), State.readNoted_voter]

theorem State.readAsks_tx (s : State) (g : Group) (a : Nat) (m : CellSample) (pl : WordPlace) (p : Port) :
    ((s.readAsks g a m pl).link p).tx.length ≤ (s.link p).tx.length + 1 := by
  have h := (s.readNoted g m).repairBegun_tx pl.region (a / 4096 * 4096) p
  rwa [State.readNoted_link] at h

theorem State.readAsks_flag (s : State) (g : Group) (a : Nat) (m : CellSample) (pl : WordPlace) :
    FlagSet (s.readAsks g a m pl) .modeChanged :=
  ((s.readNoted g m).repairBegun_aftermath _ _).flags _
    ((Aftermath.refl _).chooseMove.flags _ ((s.readNoted g m).repairEntered_flag _))

/-- The repair has begun, or no partner could be asked (R126, R150, R151). -/
theorem State.processorReadEnd_run (h : readResult (found s g m) = (.uncorrectable, 0)) (hpl : g.place = some pl)
    (hp : s.msq.port = some g) (ho : g.op = .pRead a) (hc : pl.cls = .constant) (hm : s.mdc.mode = .run)
    (hlist : s.rse.repairList = []) (hk : s.ptl.kind = .scrub) (hask : s.ptl.asked = []) :
    ((s.processorReadEnd g m).mdc = { s.mdc with mode := .repair, chen := false } ∧
      (s.processorReadEnd g m).rse.repairList = [a / 4096 * 4096] ∧ (s.processorReadEnd g m).rse.service = none ∧
      FlagSet (s.processorReadEnd g m) .modeChanged) ∨
    ((s.processorReadEnd g m).mdc = { mode := .isolated, chen := false, cause := .noSource } ∧
      ∀ p, s.expectedVoter p = true → 15 ≤ (s.link p).tx.length) := by
  obtain ⟨-, hmdc, hrse⟩ := s.readAsks_state g a m pl
  have hout := State.seekBlock_outcome 3 (s.readAsks g a m pl) Repair.new (by rw [hrse]) (by decide) (by rw [hmdc])
    fun p _ ht => by cases p <;> cases ht
  have hflag := ((Aftermath.refl _).seekBlock 3).flags _ (s.readAsks_flag g a m pl)
  rw [State.processorReadEnd_asks h hpl hp ho hc hm hk hask, State.finish_flag]
  refine hout.imp (fun ⟨h1, h2, h3⟩ => ⟨?_, ?_, ?_, hflag⟩) fun ⟨h1, h2⟩ => ⟨by simpa using h1, fun p hv => ?_⟩
  · simpa using h1.trans hmdc
  · rw [hrse, hlist] at h2
    simpa using h2
  · rw [hrse] at h3
    simpa using h3
  · have hfull := h2 p (by rwa [s.readAsks_voter g a m pl p hm])
    have := s.readAsks_tx g a m pl p
    omega

/-- The expected voter of the lower identity is asked where its queue has room for the request (R150). -/
theorem State.processorReadEnd_asked (h : readResult (found s g m) = (.uncorrectable, 0)) (hpl : g.place = some pl)
    (hp : s.msq.port = some g) (ho : g.op = .pRead a) (hc : pl.cls = .constant) (hm : s.mdc.mode = .run)
    (hk : s.ptl.kind = .scrub) (hask : s.ptl.asked = []) (p : Port) (hf : FirstVoter s p)
    (hl : (s.link p).tx.length < 15) :
    s.processorReadEnd g m = ((s.readAsks g a m pl).askBlock Repair.new p).finish .fault [0] := by
  have hfirst : FirstVoter (s.readAsks g a m pl) p := by
    refine State.repairBegun_firstVoter _ _ _ p (by simpa using hm) ?_
    have hid (q : Port) : (s.readNoted g m).partnerId q = s.partnerId q := by
      cases q <;> (unfold State.partnerId; rw [(s.readNoted_frame g m).1])
    unfold FirstVoter at hf ⊢
    simp only [State.readNoted_voter, hid]
    exact hf
  have hroom : ((s.readAsks g a m pl).link p).tx.length < 16 := by
    have := s.readAsks_tx g a m pl p
    omega
  rw [State.processorReadEnd_asks h hpl hp ho hc hm hk hask, State.seekBlock_first _ Repair.new p
    (by rw [(s.readAsks_state g a m pl).2.2]) (fun q => by cases q <;> rfl) hfirst hroom]

/-- The request at the tail of the partner's queue. -/
theorem State.readAsks_request (s : State) (g : Group) (a : Nat) (m : CellSample) (pl : WordPlace) (p : Port)
    (hlist : s.rse.repairList = []) (hv : s.expectedVoter p = true) (hl : (s.link p).tx.length < 15) :
    (((s.readAsks g a m pl).askBlock Repair.new p).link p).tx =
      (if s.rse.service.map (·.port) = some p then queued (s.link p) (.abandon 19) else (s.link p).tx) ++
        [.repairRequest s.dgu.tableDigest (a / 4096 * 4096)] := by
  obtain ⟨htable, -, hrse⟩ := s.readAsks_state g a m pl
  have hframe : (s.readAsks g a m pl).repairRequestFrame = .repairRequest s.dgu.tableDigest (a / 4096 * 4096) := by
    unfold State.repairRequestFrame State.headBlock
    rw [htable, hrse, hlist]
    rfl
  have hlink : (s.readAsks g a m pl).link p = { s.link p with
      tx := if s.rse.service.map (·.port) = some p then queued (s.link p) (.abandon 19) else (s.link p).tx } := by
    have := (s.readNoted g m).repairBegun_link pl.region (a / 4096 * 4096) p
    rwa [State.readNoted_link, (s.readNoted_frame g m).2.2.2.2.2.2.2.2.2.2.2.2.1] at this
  have hroom : ((s.readAsks g a m pl).link p).tx.length < 16 := by
    have := s.readAsks_tx g a m pl p
    omega
  have hup : ((s.readAsks g a m pl).link p).up = true := by
    rw [hlink]
    exact s.expectedVoter_up p hv
  rw [State.askBlock_link, if_pos rfl, hframe]
  show queued ((s.readAsks g a m pl).link p) _ = _
  unfold queued
  rw [if_pos ⟨hup, hroom⟩, hlink]
  rfl

/-- The change of mode gives the occasion to choose a move (R45). -/
theorem State.processorReadEnd_moves (h : readResult (found s g m) = (.uncorrectable, 0)) (hpl : g.place = some pl)
    (hp : s.msq.port = some g) (ho : g.op = .pRead a) (hc : pl.cls = .constant) (hm : s.mdc.mode = .run)
    (hk : s.ptl.kind = .scrub) (hask : s.ptl.asked = []) (p : Port) (hf : FirstVoter s p)
    (hl : (s.link p).tx.length < 15) (hn : RowTableLaw s) (hw : ¬ MoveWaits s) :
    MoveChosen s.srm s.ret.entries (MovePermitted s .repair) False (s.processorReadEnd g m) := by
  let y := (s.readNoted g m).repairEntered (a / 4096 * 4096)
  obtain ⟨-, -, -, -, -, hbsrm, hbret⟩ := (s.readNoted g m).repairBegun_state pl.region (a / 4096 * 4096)
  have hys : y.srm = s.srm := by simp [y, State.repairEntered]
  have hyr : y.ret = s.ret := by simp [y, State.repairEntered]
  have hym : y.mdc.mode = .repair := rfl
  have hyp : y.msq.port = some g := (s.readNoted g m).endService_port _ g a (by simpa using hp) ho
  have hwait : y.srm.startWaiting = none := by
    rw [hys]
    simpa [MoveWaits] using hw
  have hchosen := y.chooseMove_atEnd g (hyr ▸ hn.2) hwait hyp (by rw [ho]; exact nofun)
  rw [hys, hyr, hym] at hchosen
  have haft : Aftermath y.chooseMove ((s.readAsks g a m pl).askBlock Repair.new p) :=
    ((s.readNoted g m).repairBegun_aftermath pl.region (a / 4096 * 4096)).askBlock _ _
  rw [State.processorReadEnd_asked h hpl hp ho hc hm hk hask p hf hl]
  obtain ⟨hsrm, hret⟩ := State.finish_rows ((s.readAsks g a m pl).askBlock Repair.new p) y.chooseMove .fault [0]
    ((State.askBlock_frame ..).2.2.2.2.2.2.1.trans hbsrm) ((State.askBlock_frame ..).2.2.2.2.2.1.trans hbret)
  refine hchosen.congr ?_ hsrm (by rw [hret]) fun hflag => ?_
  · unfold MovePermitted
    rw [hys, hyp, hp]
  · rw [State.finish_flag]
    refine haft.flags _ ?_
    unfold FlagSet at hflag ⊢
    rwa [(State.endGroup_frame _).2.2.2.2.2.2.2.2.2.2.1] at hflag

/-! ### A repair goes on -/

/-- A further block joins the list (R149). -/
theorem State.processorReadEnd_joins (h : readResult (found s g m) = (.uncorrectable, 0)) (hpl : g.place = some pl)
    (hp : s.msq.port = some g) (ho : g.op = .pRead a) (hc : pl.cls = .constant) (hm : s.mdc.mode = .repair)
    (hlen : s.rse.repairList.length < 8) (hnew : a / 4096 * 4096 ∉ s.rse.repairList) (hk : s.ptl.kind = .scrub)
    (hask : s.ptl.asked = []) :
    (s.processorReadEnd g m).rse = { s.rse with repairList := s.rse.repairList ++ [a / 4096 * 4096] } ∧
      (s.processorReadEnd g m).mdc = s.mdc ∧ (s.processorReadEnd g m).lkc = s.lkc := by
  have hrse : (s.readNoted g m).rse = s.rse := by simp
  have hjoin : (s.readNoted g m).joinRepair pl.region (a / 4096 * 4096) =
      (((s.readNoted g m).listBlock (a / 4096 * 4096)).abandonRiding pl.region).skip := by
    unfold State.joinRepair Config.repairSize
    rw [hrse, if_neg hnew, if_pos hlen]
    exact State.blockJoined_scrub _ _ g a (by simpa using hk) (by simpa using hask) (by simpa using hp) ho
  rw [State.processorReadEnd_consequence h hpl ho,
    ((s.readNoted g m).consequence_constant pl a hc).2.2 (by simpa using hm), hjoin]
  refine ⟨?_, by simp, by simp⟩
  rw [(State.finish_frame ..).2.2.2.2.2.2.2.2.2.1, (State.skip_frame _).2.2.2.2.2.2.2.2.2.2.2.1,
    (State.abandonRiding_frame ..).2.2.2.2.2.2.2.2.2.2.2.1, ← hrse]
  rfl

theorem State.processorReadEnd_listed (h : readResult (found s g m) = (.uncorrectable, 0)) (hpl : g.place = some pl)
    (ho : g.op = .pRead a) (hc : pl.cls = .constant) (hm : s.mdc.mode = .repair)
    (hold : a / 4096 * 4096 ∈ s.rse.repairList) :
    s.processorReadEnd g m = (s.readNoted g m).finish .fault [0] := by
  rw [State.processorReadEnd_consequence h hpl ho,
    ((s.readNoted g m).consequence_constant pl a hc).2.2 (by simpa using hm)]
  exact congrArg (State.finish · .fault [0]) (if_pos (by simpa using hold))

/-- A ninth block isolates the channel (R126). -/
theorem State.processorReadEnd_overflows (h : readResult (found s g m) = (.uncorrectable, 0)) (hpl : g.place = some pl)
    (ho : g.op = .pRead a) (hc : pl.cls = .constant) (hm : s.mdc.mode = .repair)
    (hlen : s.rse.repairList.length = 8) (hnew : a / 4096 * 4096 ∉ s.rse.repairList) :
    (s.processorReadEnd g m).mdc = { mode := .isolated, chen := false, cause := .repairOverflow } ∧
      (s.processorReadEnd g m).rse.repairList = [] := by
  have hrse : (s.readNoted g m).rse = s.rse := by simp
  have hcon : (s.readNoted g m).consequence pl a = (s.readNoted g m).isolateFor .repairOverflow := by
    rw [((s.readNoted g m).consequence_constant pl a hc).2.2 (by simpa using hm)]
    unfold State.joinRepair Config.repairSize
    rw [hrse, if_neg hnew, if_neg (by omega)]
  obtain ⟨hmdc, hlist, -⟩ := State.processorReadEnd_isolates h hpl ho _ hcon (by rw [hm]; rfl)
  exact ⟨hmdc, hlist⟩

/-! ### Three wrong bits and more -/

/-- A word with one bit taken for the wrong one (R22). -/
theorem correctBit_cases (v : Word) (b : Fin 39) :
    correctBit v b = v ∨ ∃ k, k < 32 ∧ correctBit v b = v ^^^ BitVec.twoPow 32 k := by
  unfold correctBit
  split
  · rename_i h
    exact .inr ⟨b.val, h, rfl⟩
  · exact .inl rfl

theorem readResult_wide (w : Stored) (h : 3 ≤ wrongBits w.flips) :
    readResult w = (.clean, storedBits w) ∨ (∃ v, readResult w = (.corrected, v) ∧
      (v = storedBits w ∨ ∃ b, b < 32 ∧ v = storedBits w ^^^ BitVec.twoPow 32 b)) ∨
    readResult w = (.uncorrectable, 0) := by
  unfold readResult
  cases decodeOutcome w with
  | clean => exact .inl rfl
  | corrected =>
    refine .inr (.inl ⟨_, rfl, ?_⟩)
    unfold correctedData
    rw [if_neg (by omega)]
    exact correctBit_cases _ _
  | uncorrectable => exact .inr (.inr rfl)

/-- Settles O44, by the number of wrong bits and, where there are two, by the word's class and the mode. -/
theorem readEndAnswersByOutcome : Obligations.ReadEndAnswersByOutcome := by
  intro s g a m hp ho _ hn hw
  have he := exec_processorReadEnd_none m hp ho hw
  refine ⟨fun h0 => ?_, fun h1 => ?_, fun h2 => ?_, fun h3 => ?_⟩
  · obtain ⟨hmem, hcells, hans, hmsq, hwait, heq⟩ := s.processorReadEnd_clean_ended g m _ (readResult_clean _ h0) hw
    exact ⟨_, he, hmem, hcells, hans, hmsq, hwait, heq⟩
  · have hr := readResult_corrected _ h1
    obtain ⟨hst, hcells, hans, hmsq, -, hflag⟩ := s.processorReadEnd_corrected_ended g m _ hr hw
    obtain ⟨hrow, hcount, hcapt, heq⟩ := s.processorReadEnd_corrected_reported g m _ hr hp hn hw
    exact ⟨_, he, hst, hcells, hans, by rw [hmsq], by rw [hmsq], hflag, hrow,
      fun e hmem hrw ht hl hm => s.processorReadEnd_corrected_weak g a m _ hr hp ho hn hw e hmem hrw ht hl hm, hcount,
      hcapt, heq⟩
  · have hr := readResult_uncorrectable _ h2
    obtain ⟨hmem, hcells, hflag, hcount, hcapt, hans, hport⟩ := s.processorReadEnd_uncorrectable_ended g a m hr ho hw
    refine ⟨_, he, hmem, hcells, hflag, hcount, hcapt, hans, hport, fun hev => ?_,
      fun pl hpl hc hev => State.processorReadEnd_vital hr hpl ho hc hev,
      fun pl hpl hc hm => State.processorReadEnd_constant hr hpl ho hc hm,
      fun pl hpl hc hm hl hk hask => State.processorReadEnd_run hr hpl hp ho hc hm hl hk hask,
      fun pl p hpl hc hm hl hk hask hf htx => ?_,
      fun pl hpl hc hm hlen hnew hk hask => State.processorReadEnd_joins hr hpl hp ho hc hm hlen hnew hk hask,
      fun pl hpl hc hm hold => ?_,
      fun pl hpl hc hm hlen hnew => State.processorReadEnd_overflows hr hpl ho hc hm hlen hnew⟩
    · rw [State.processorReadEnd_eventOnly hr hev]
      exact s.readNoted_quiet g m
    · have hmoves := State.processorReadEnd_moves hr hpl hp ho hc hm hk hask p hf htx hn
      obtain ⟨-, hmdc, hrse⟩ := s.readAsks_state g a m pl
      rw [State.processorReadEnd_asked hr hpl hp ho hc hm hk hask p hf htx] at hmoves ⊢
      refine ⟨?_, ?_, ?_, hmoves⟩
      · rw [(State.finish_frame ..).2.2.2.2.2.2.2.2.1, (State.askBlock_frame ..).2.2.2.2.2.2.2.2.2.2.1, hmdc]
      · rw [(State.finish_frame ..).2.2.2.2.2.2.2.2.2.1, State.askBlock_rse, hrse, hl]
        rfl
      · have hreq := s.readAsks_request g a m pl p hl hf.1 htx
        unfold State.link at hreq ⊢
        rw [(State.finish_frame ..).2.2.2.2.2.2.1]
        exact hreq
    · rw [State.processorReadEnd_listed hr hpl ho hc hm hold]
      exact s.readNoted_quiet g m
  · have hown (key : Nat) (hk : key ∈ [groupKey g]) : key ∈ writtenKeys g := by
      rw [List.mem_singleton.1 hk]
      exact groupKey_mem g
    obtain hr | ⟨v, hr, hv⟩ | hr := readResult_wide _ h3
    · obtain ⟨hmem, hcells, hans, hmsq, -, -⟩ := s.processorReadEnd_clean_ended g m _ hr hw
      exact ⟨_, he, by rw [hmsq], hcells.mono hown, .inl ⟨hans, hmem⟩⟩
    · obtain ⟨hst, hcells, hans, hmsq, -, hflag⟩ := s.processorReadEnd_corrected_ended g m v hr hw
      exact ⟨_, he, by rw [hmsq], hcells, .inr (.inl ⟨v, hv, hans, hst, hflag⟩)⟩
    · obtain ⟨hmem, hcells, hflag, -, -, hans, hport⟩ := s.processorReadEnd_uncorrectable_ended g a m hr ho hw
      exact ⟨_, he, hport, hcells.mono hown, .inr (.inr ⟨hans, hmem, hflag⟩)⟩

end Sys2Proof.Machine
end

section
/-! PACING_TICK (O16). -/

namespace Sys2Proof.Machine

theorem NoticeLine.tick_quiet (n : NoticeLine) (h : n.state = .quiet) : n.tick = n := if_pos h

/-- A pulse or a gap grows older by one pacing tick, up to the top of its range (log entries 13 and 18). -/
theorem NoticeLine.tick_running (n : NoticeLine) (h : n.state ≠ .quiet) :
    n.tick = { n with ticks := min 25500 (n.ticks + 1) } := if_neg h

theorem NoticeLine.tick_keeps (n : NoticeLine) : n.tick.state = n.state ∧ n.tick.pending = n.pending := by
  by_cases h : n.state = .quiet
  · rw [n.tick_quiet h]
    exact ⟨rfl, rfl⟩
  · rw [n.tick_running h]
    exact ⟨rfl, rfl⟩

/-- Settles O16. -/
theorem pacingTickSetsCredits : Obligations.PacingTickSetsCredits := by
  intro s
  refine ⟨_, rfl, rfl, fun l => ?_, rfl⟩
  rw [show Evu.line { s.evu with na := s.evu.na.tick, nb := s.evu.nb.tick } l = (s.evu.line l).tick by cases l <;> rfl]
  obtain ⟨hstate, hpending⟩ := (s.evu.line l).tick_keeps
  refine ⟨hstate, hpending, (s.evu.line l).tick_quiet, fun h hlt => ?_⟩
  rw [(s.evu.line l).tick_running h]
  exact min_eq_right (by omega)

end Sys2Proof.Machine
end

section
/-! The map of rows (R23, R46) and what the requesters of the memory port present (Table 2.2), by the state that makes them
present it. -/

namespace Sys2Proof.Machine

/-! ### Searches of the spares -/

/-- A search that only one index answers finds its answer. -/
theorem finRange_findSome_unique {n : Nat} {α : Type} (f : Fin n → Option α) (i : Fin n) (b : α) (hi : f i = some b)
    (hu : ∀ j c, f j = some c → j = i) : (List.finRange n).findSome? f = some b := by
  cases hf : (List.finRange n).findSome? f with
  | none => exact absurd (List.findSome?_eq_none_iff.1 hf i (List.mem_finRange i)) (by simp [hi])
  | some c =>
    obtain ⟨j, -, hj⟩ := List.exists_of_findSome?_eq_some hf
    rw [← hi, ← hu j c hj, hj]

theorem finRange_find_unique {n : Nat} (f : Fin n → Bool) (i : Fin n) (hi : f i = true) (hu : ∀ j, f j = true → j = i) :
    (List.finRange n).find? f = some i := by
  cases hf : (List.finRange n).find? f with
  | none => exact absurd hi (List.find?_eq_none.1 hf i (List.mem_finRange i))
  | some j => rw [hu j (List.find?_some hf)]

/-! ### The map of rows -/

/-- The one spare that receives a row. -/
theorem State.moving_of (s : State) (i : Fin 16) (row p : Nat) (hi : s.srm.spares[i] = .moving row p) (hm : MoveLaw s) :
    s.moving = some (i, row, p) := by
  refine finRange_findSome_unique _ i _ (by rw [hi]) fun j c hj => hm j i ?_ (by rw [hi]; rfl)
  cases h : s.srm.spares[j] with
  | moving => rfl
  | free => rw [h] at hj; cases hj
  | active => rw [h] at hj; cases hj
  | retired => rw [h] at hj; cases hj

theorem State.logicalOf_home (s : State) (row : Nat) (h : row < s.rows - 16) : s.logicalOf row = some row := if_pos h

/-- A row of the spare area serves the row that its spare is ACTIVE for. -/
theorem State.logicalOf_spare (s : State) (j : Fin 16) (r : Nat) (b : Word) (h : s.srm.spares[j] = .active r b) :
    s.logicalOf (s.rows - 16 + j.val) = some r := by
  refine (if_neg (by omega)).trans (finRange_findSome_unique _ j r (by rw [h]; exact if_pos rfl) fun k c hk => ?_)
  cases hs : s.srm.spares[k] with
  | active r' a =>
    rw [hs] at hk
    dsimp only at hk
    split at hk
    · rename_i hrow
      exact Fin.ext (Nat.add_left_cancel hrow)
    · cases hk
  | free => rw [hs] at hk; cases hk
  | moving => rw [hs] at hk; cases hk
  | retired => rw [hs] at hk; cases hk

theorem State.activeSpare_none (s : State) (l : Nat) (h : ∀ (i : Fin 16) r a, s.srm.spares[i] = .active r a → r ≠ l) :
    s.activeSpare l = none := by
  refine List.find?_eq_none.2 fun i _ => ?_
  cases hs : s.srm.spares[i] with
  | active r a => simpa using h i r a hs
  | free => simp
  | moving => simp
  | retired => simp

theorem State.activeSpare_of (s : State) (l : Nat) (i : Fin 16) (a : Word) (hi : s.srm.spares[i] = .active l a)
    (hu : ∀ (j : Fin 16) b, s.srm.spares[j] = .active l b → j = i) : s.activeSpare l = some i := by
  refine finRange_find_unique _ i (by rw [hi]; exact beq_self_eq_true l) fun j hj => ?_
  cases hs : s.srm.spares[j] with
  | active r b =>
    rw [hs] at hj
    exact hu j b (eq_of_beq hj ▸ hs)
  | free => rw [hs] at hj; cases hj
  | moving => rw [hs] at hj; cases hj
  | retired => rw [hs] at hj; cases hj

/-! ### P and X -/

theorem State.opP_of_held (s : State) (h : Held) (hh : s.txi.held = some h) :
    (h.writes = [] → 0 < h.reads → s.opP = some (.pRead h.next)) ∧
    (∀ v ws, h.writes = (v, 15) :: ws → s.opP = some (.pWrite h.next v)) ∧
    ∀ v k ws, h.writes = (v, k) :: ws → k ≠ 15 → s.opP = some (.pPartial h.next v k) := by
  unfold State.opP
  rw [hh]
  dsimp only
  refine ⟨fun hw hr => ?_, fun v ws hw => ?_, fun v k ws hw hk => ?_⟩
  · rw [hw]
    exact if_pos hr
  · rw [hw]
    rfl
  · rw [hw]
    exact congrArg some (if_neg hk)

theorem FrameWork.op_cons (w : FrameWork) (p : Port) (v : Word) (vs : List Word) (h : w.words = v :: vs) :
    w.op p = some (if w.restoring then .restoringWrite p w.next v else .frameWrite p w.next v) := by
  unfold FrameWork.op
  rw [h]

/-- A frame in work at port A is written first, then one at port B (log entry 31). -/
theorem State.opX_of_work (s : State) (w : FrameWork) (v : Word) (vs : List Word) (h : w.words = v :: vs) :
    ((s.link .a).work = some w → s.opX = some (if w.restoring then .restoringWrite .a w.next v
      else .frameWrite .a w.next v)) ∧
    ((s.link .b).work = some w → (s.link .a).work = none → s.opX = some (if w.restoring then
      .restoringWrite .b w.next v else .frameWrite .b w.next v)) := by
  refine ⟨fun ha => ?_, fun hb ha => ?_⟩
  · have ht : s.opTarget = some (if w.restoring then .restoringWrite .a w.next v else .frameWrite .a w.next v) := by
      unfold State.opTarget
      rw [show s.lkc.a.work = some w from ha, Option.bind_some, w.op_cons .a v vs h]
    unfold State.opX
    rw [ht]
  · have ht : s.opTarget = some (if w.restoring then .restoringWrite .b w.next v else .frameWrite .b w.next v) := by
      unfold State.opTarget
      rw [show s.lkc.a.work = none from ha, show s.lkc.b.work = some w from hb, Option.bind_none, Option.bind_some,
        w.op_cons .b v vs h]
    unfold State.opX
    rw [ht]

theorem State.opX_of_service (s : State) (ha : (s.link .a).work = none) (hb : (s.link .b).work = none) :
    s.opX = (s.rse.service.bind (·.readAddress)).map .copyRead := by
  have ht : s.opTarget = none := by
    unfold State.opTarget
    rw [show s.lkc.a.work = none from ha, show s.lkc.b.work = none from hb]
    rfl
  unfold State.opX
  rw [ht]

/-- Where the copy engine reads (R134): in its buffer while that has room, and otherwise at the start of the block it takes
next. -/
theorem Service.readAddress_cases (v : Service) :
    (∀ b, v.buffer = some b → b.words.length < 64 → v.readAddress = some (b.block + b.seg * 256 + b.words.length * 4)) ∧
    (∀ b, v.buffer = some b → 64 ≤ b.words.length → v.readAddress = none) ∧
    (∀ n st, v.buffer = none → v.map[v.walk]? = some (n, st) → v.readAddress = some n) ∧
    (∀ n ns, v.buffer = none → v.map.length ≤ v.walk → v.resend = n :: ns → v.readAddress = some n) ∧
    (v.buffer = none → v.map.length ≤ v.walk → v.resend = [] → v.readAddress = none) := by
  obtain ⟨hkeep, hwalk, hresend⟩ := v.takeNext_takesNext
  unfold Service.readAddress
  refine ⟨fun b hb hl => ?_, fun b hb hl => ?_, fun n st hb hn => ?_, fun n ns hb hw hr => ?_, fun hb hw hr => ?_⟩
  · rw [hkeep (by rw [hb]; rfl), hb]
    exact if_pos hl
  · rw [hkeep (by rw [hb]; rfl), hb]
    exact if_neg (Nat.not_lt.2 hl)
  · rw [hwalk n st hb hn]
    simp
  · rw [hresend n ns hb hw hr]
    simp
  · have he : v.takeNext = v := by
      unfold Service.takeNext
      rw [hb, List.getElem?_eq_none hw, hr]
      rfl
    rw [he, hb]

/-! ### M and S -/

theorem State.opM_none (s : State) (h : ∀ i : Fin 16, s.srm.spares[i].isMoving = false) : s.opM = none := by
  unfold State.opM
  rw [s.moving_none.2 h]

theorem State.opM_of (s : State) (i : Fin 16) (row p : Nat) (hi : s.srm.spares[i] = .moving row p) (hm : MoveLaw s) :
    s.opM = if s.mdc.mode.permitsMoves then (s.logicalOf row).map (fun r => .moveCopy (r * 1024 + 4 * p)) else none := by
  unfold State.opM
  rw [s.moving_of i row p hi hm]

theorem State.opS_none (s : State) (h : s.ptl.place = none ∨ s.ptl.kind = .none) : s.opS = none := by
  unfold State.opS
  obtain h | h := h
  · rw [h]
  · rw [h]
    split <;> rfl

theorem State.opS_of (s : State) (pl : Place) (r : Region) (hpl : s.ptl.place = some pl) (hr : s.region pl.region = some r) :
    (s.ptl.kind = .scrub → s.opS = some (.scrubRead pl.region pl.word (r.base + 4 * pl.word))) ∧
    (s.ptl.kind = .clear → s.opS = some (.clearWrite pl.region pl.word (r.base + 4 * pl.word))) ∧
    (s.ptl.kind = .verifyAudit ∨ s.ptl.kind = .repairAudit →
      s.opS = some (.auditRead pl.region pl.word (r.base + 4 * pl.word))) := by
  have ha : s.wordAddress pl.region pl.word = r.base + 4 * pl.word := by
    unfold State.wordAddress
    rw [hr]
    rfl
  unfold State.opS
  rw [hpl]
  dsimp only
  rw [ha]
  refine ⟨fun h => ?_, fun h => ?_, fun h => ?_⟩
  · rw [h]
  · rw [h]
  · obtain h | h := h <;> rw [h]

end Sys2Proof.Machine
end

section
/-! The arbiter's choice and the group that a grant fixes (R23, R25, R28, R33 to R35). -/

namespace Sys2Proof.Machine

/-! ### Credit and the background requesters (R33, R35) -/

theorem State.hasCredit_scrubRead (s : State) (i : Fin 32) (w a : Nat) :
    s.hasCredit (.scrubRead i w a) = true ↔ 1 ≤ s.msq.scrubCredit := decide_eq_true_iff

theorem State.hasCredit_copyRead (s : State) (a : Nat) : s.hasCredit (.copyRead a) = true ↔ 1 ≤ s.msq.sourceCredit :=
  decide_eq_true_iff

theorem State.hasCredit_other (s : State) (o : WordOp) (hs : ∀ i w a, o ≠ .scrubRead i w a) (hc : ∀ a, o ≠ .copyRead a) :
    s.hasCredit o = true := by
  cases o
  case scrubRead i w a => exact absurd rfl (hs i w a)
  case copyRead a => exact absurd rfl (hc a)
  all_goals rfl

theorem State.background_iff (s : State) (o : WordOp) : s.background = some o ↔
    (s.opX = some o ∧ s.hasCredit o = true) ∨
      ((∀ x, s.opX = some x → s.hasCredit x = false) ∧
        (s.opM = some o ∨ (s.opM = none ∧ s.opS = some o ∧ s.hasCredit o = true))) := by
  unfold State.background
  cases hX : s.opX.filter s.hasCredit with
  | some x =>
    rw [Option.filter_eq_some_iff] at hX
    obtain ⟨hx, hc⟩ := hX
    dsimp only
    refine ⟨fun h => .inl (by cases h; exact ⟨hx, hc⟩), ?_⟩
    rintro (⟨hxo, -⟩ | ⟨hn, -⟩)
    · rw [← hx, hxo]
    · rw [hn x hx] at hc
      cases hc
  | none =>
    have hn : ∀ x, s.opX = some x → s.hasCredit x = false := by
      simpa [Option.filter_eq_none_iff] using hX
    dsimp only
    have hno : ¬ (s.opX = some o ∧ s.hasCredit o = true) := fun ⟨hx, hc⟩ => by rw [hn o hx] at hc; cases hc
    rw [or_iff_right hno, and_iff_right hn]
    cases hm : s.opM with
    | some m => simp
    | none => simp [Option.filter_eq_some_iff]

/-! ### The group -/

theorem WordOp.mayUpdate_iff (o : WordOp) : o.mayUpdate = true ↔
    (∃ a v, o = .pWrite a v) ∨ (∃ a v k, o = .pPartial a v k) ∨ ∃ p a v, o = .frameWrite p a v := by
  cases o <;> simp [WordOp.mayUpdate]

/-- The slots certain at a grant to P (Table 2.3). -/
theorem Group.slots_of_processor (g : Group) (n : Nat) (hn : n = if g.mirror = none then 1 else 2) :
    (∀ a, g.op = .pRead a → g.slots = 1) ∧ (∀ a v k, g.op = .pPartial a v k → g.slots = 1 + n) ∧
    ∀ a v, g.op = .pWrite a v → g.slots = if g.updating = true then 1 + n else n := by
  have hw : (if g.mirror.isSome then 2 else 1) = n := by
    rw [hn]
    cases g.mirror <;> rfl
  unfold Group.slots
  rw [hw]
  exact ⟨fun a h => by rw [h], fun a v k h => by rw [h], fun a v h => by rw [h]⟩

theorem State.carriesAudit_iff (s : State) (o : WordOp) : s.carriesAudit o = true ↔
    (∃ i w a, o = .auditRead i w a) ∨ ((∃ i w a, o = .scrubRead i w a) ∧ s.ptl.riding = true) := by
  cases o <;> simp [State.carriesAudit]

theorem State.updates_iff (s : State) (x : Option WordPlace) : s.updates x = true ↔
    ∃ pl, x = some pl ∧ pl.cls ≠ .nonvital ∧ ((s.record pl.region).valid = true ∨ (s.record pl.region).running = true) := by
  cases x <;> simp [State.updates]

theorem State.mirrorFor_none (s : State) (op : WordOp) (row word : Nat)
    (h : ∀ i : Fin 16, s.srm.spares[i].isMoving = false) : s.mirrorFor op row word = none := by
  unfold State.mirrorFor State.mirrorOf
  rw [s.moving_none.2 h]
  split <;> rfl

theorem State.mirrorFor_moving (s : State) (op : WordOp) (row word : Nat) (i : Fin 16) (old p : Nat)
    (hi : s.srm.spares[i] = .moving old p) (hm : MoveLaw s) :
    (∀ a, op = .moveCopy a → s.mirrorFor op row word = some (s.rows - 16 + i.val)) ∧
    ((∀ a, op ≠ .moveCopy a) →
      s.mirrorFor op row word = if old = row ∧ word < p then some (s.rows - 16 + i.val) else none) := by
  have hmv := s.moving_of i old p hi hm
  refine ⟨?_, fun h => ?_⟩
  · rintro a rfl
    unfold State.mirrorFor
    rw [hmv]
    rfl
  · have hw : s.mirrorFor op row word = s.mirrorOf row word := by
      cases op
      case moveCopy a => exact absurd rfl (h a)
      all_goals rfl
    rw [hw]
    unfold State.mirrorOf
    rw [hmv]
    simp [State.spareRow]

theorem State.currentRow_home (s : State) (l : Nat) (h : ∀ (i : Fin 16) r a, s.srm.spares[i] = .active r a → r ≠ l) :
    s.currentRow l = l := by
  unfold State.currentRow
  rw [s.activeSpare_none l h]

theorem State.currentRow_spare (s : State) (l : Nat) (i : Fin 16) (a : Word) (hi : s.srm.spares[i] = .active l a)
    (hu : ∀ (j : Fin 16) b, s.srm.spares[j] = .active l b → j = i) : s.currentRow l = s.rows - 16 + i.val := by
  unfold State.currentRow
  rw [s.activeSpare_of l i a hi hu]
  rfl

/-! ### The grant -/

theorem State.arbitrate_busy (s : State) (h : s.msq.port ≠ none) : s.arbitrate = s :=
  if_pos (Option.isSome_iff_ne_none.2 h)

theorem State.arbitrate_idle (s : State) (hp : s.opP = none) (hb : s.background = none) : s.arbitrate = s := by
  unfold State.arbitrate
  rw [hp, hb]
  exact ite_self s

theorem State.arbitrate_processor (s : State) (o : WordOp) (hn : s.msq.port = none) (hp : s.opP = some o)
    (h : s.background = none ∨ s.msq.yieldCount < 8) : s.arbitrate = s.grantP o := by
  unfold State.arbitrate
  rw [hn, hp]
  cases hb : s.background with
  | none => rfl
  | some b => exact if_neg (Nat.not_le.2 (h.resolve_left (by rw [hb]; nofun)))

theorem State.arbitrate_background (s : State) (o : WordOp) (hn : s.msq.port = none) (hb : s.background = some o)
    (h : s.opP = none ∨ 8 ≤ s.msq.yieldCount) : s.arbitrate = s.grantBackground o := by
  unfold State.arbitrate
  rw [hn, hb]
  cases hp : s.opP with
  | none => rfl
  | some p => exact if_pos (h.resolve_left (by rw [hp]; nofun))

theorem State.grantP_msq (s : State) (o : WordOp) : (s.grantP o).msq = { s.msq with
    port := some (s.groupOf o s.background.isSome)
    yieldCount := if s.background = none then 0
      else s.msq.yieldCount + (s.groupOf o s.background.isSome).slots } := by
  unfold State.grantP
  cases s.background <;> rfl

theorem State.grantBackground_msq (s : State) (o : WordOp) : (s.grantBackground o).msq =
    { s.msq.draw o with port := some (s.groupOf o false), yieldCount := 0 } := by
  unfold State.grantBackground
  rw [(State.startCopy_frame ..).2.2.2.2.1]

/-- The credits after a background grant (R35). -/
theorem Msq.draw_credits (q : Msq) (o : WordOp) :
    (q.draw o).scrubCredit = (match o with | .scrubRead _ _ _ => q.scrubCredit - 1 | _ => q.scrubCredit) ∧
    (q.draw o).sourceCredit = (match o with | .copyRead _ => q.sourceCredit - 1 | _ => q.sourceCredit) := by
  cases o <;> exact ⟨rfl, rfl⟩

/-- The engine takes its block at the grant of its copy read (R134, log entry 20). -/
theorem State.grantBackground_rse (s : State) (o : WordOp) :
    ((∀ a, o ≠ .copyRead a) → (s.grantBackground o).rse = s.rse) ∧
    ∀ a v, o = .copyRead a → s.rse.service = some v →
      (s.grantBackground o).rse = { s.rse with service := some v.takeNext } := by
  refine ⟨fun h => ?_, ?_⟩
  · cases o
    case copyRead a => exact absurd rfl (h a)
    all_goals rfl
  · rintro a v rfl hv
    show { s.rse with service := s.rse.service.map Service.takeNext } = _
    rw [hv]
    rfl

/-- The group that a grant puts on the port, and when its slots count toward the yield count (R34). -/
theorem State.arbitrate_port (s : State) (g : Group) (hn : s.msq.port = none) (hg : s.arbitrate.msq.port = some g) :
    ∃ o c, g = s.groupOf o c ∧ (c = true ↔ s.background ≠ none ∧ s.opP = some o ∧ s.msq.yieldCount < 8) := by
  have hP (o : WordOp) (ho : s.opP = some o) (h : s.background = none ∨ s.msq.yieldCount < 8) : g = s.groupOf o
      s.background.isSome ∧ (s.background.isSome = true ↔ s.background ≠ none ∧ s.opP = some o ∧
        s.msq.yieldCount < 8) := by
    rw [s.arbitrate_processor o hn ho h, s.grantP_msq, Option.some.injEq] at hg
    refine ⟨hg.symm, fun hb => ?_, fun hb => Option.isSome_iff_ne_none.2 hb.1⟩
    have hb' := Option.isSome_iff_ne_none.1 hb
    exact ⟨hb', ho, h.resolve_left hb'⟩
  have hB (o : WordOp) (ho : s.background = some o) (h : s.opP = none ∨ 8 ≤ s.msq.yieldCount) :
      g = s.groupOf o false ∧ (false = true ↔ s.background ≠ none ∧ s.opP = some o ∧ s.msq.yieldCount < 8) := by
    rw [s.arbitrate_background o hn ho h, s.grantBackground_msq, Option.some.injEq] at hg
    refine ⟨hg.symm, nofun, fun ⟨_, hp, hy⟩ => ?_⟩
    obtain h | h := h
    · rw [h] at hp
      cases hp
    · omega
  obtain hp | ⟨p, hp⟩ := Option.eq_none_or_eq_some s.opP
  · obtain hb | ⟨b, hb⟩ := Option.eq_none_or_eq_some s.background
    · rw [s.arbitrate_idle hp hb, hn] at hg
      cases hg
    · exact ⟨b, false, hB b hb (.inl hp)⟩
  · obtain hb | ⟨b, hb⟩ := Option.eq_none_or_eq_some s.background
    · exact ⟨p, _, hP p hp (.inl hb)⟩
    · obtain hy | hy := Nat.lt_or_ge s.msq.yieldCount 8
      · exact ⟨p, _, hP p hp (.inr hy)⟩
      · exact ⟨b, false, hB b hb (.inr hy)⟩

theorem exec_arbiterGrant {s t : State} (h : s.arbitrate = t) : exec .arbiterGrant s = .next t := congrArg _ h

/-- Settles O43. -/
theorem grantFollowsArbiterOrder : Obligations.GrantFollowsArbiterOrder := by
  refine ⟨fun s h => exec_arbiterGrant (s.arbitrate_busy h), fun s hp hb => exec_arbiterGrant (s.arbitrate_idle hp hb),
    fun s h hh => s.opP_of_held h hh, fun s o hn hp h => ?_, fun s o hn hb h => ?_, fun s o => s.background_iff o,
    fun s i w a => ⟨s.hasCredit_scrubRead i w a, s.hasCredit_copyRead a⟩, fun s o hs hc => s.hasCredit_other o hs hc,
    fun o => o.mayUpdate_iff, fun g n hn => g.slots_of_processor n hn, fun s w v vs h => s.opX_of_work w v vs h,
    fun s ha hb => ?_, fun s => ⟨s.opM_none, fun i row p hi hm => ?_⟩,
    fun s => ⟨s.opS_none, fun pl r hpl hr => s.opS_of pl r hpl hr⟩, fun s t g he hg hn => ?_⟩
  · exact ⟨_, s.groupOf o s.background.isSome, exec_arbiterGrant (s.arbitrate_processor o hn hp h), rfl, rfl, s.grantP_msq o, rfl⟩
  · have hmsq := s.grantBackground_msq o
    obtain ⟨hscrub, hsource⟩ := s.msq.draw_credits o
    obtain ⟨hkeep, htake⟩ := s.grantBackground_rse o
    refine ⟨_, s.groupOf o false, exec_arbiterGrant (s.arbitrate_background o hn hb h), rfl, rfl, by rw [hmsq], by rw [hmsq], ?_, ?_,
      hkeep, fun a v ho hv => ⟨_, htake a v ho hv, v.takeNext_takesNext⟩, State.eq_of_blocks ?_⟩
    · rw [hmsq]
      exact hscrub.trans (by cases o <;> rfl)
    · rw [hmsq]
      exact hsource.trans (by cases o <;> rfl)
    · have hrse : (s.grantBackground o).rse = { s.rse with service := (s.grantBackground o).rse.service } := by
        cases o <;> rfl
      simp [← hrse]
  · rw [s.opX_of_service ha hb]
    refine ⟨fun h => by rw [h]; rfl, fun v hv => ?_⟩
    rw [hv, Option.bind_some]
    obtain ⟨hbuf, hfull, hwalk, hresend, hdone⟩ := v.readAddress_cases
    exact ⟨fun b h hl => by rw [hbuf b h hl]; rfl, fun b h hl => by rw [hfull b h hl]; rfl,
      fun n st h hn => by rw [hwalk n st h hn]; rfl, fun n ns h hw hr => by rw [hresend n ns h hw hr]; rfl,
      fun h hw hr => by rw [hdone h hw hr]; rfl⟩
  · rw [s.opM_of i row p hi hm]
    refine ⟨fun h => ?_, fun h => ?_⟩
    · rw [if_neg]
      rw [Mode.permitsMoves_iff]
      unfold PermitsMoves
      obtain h | h | h | h | h := h <;> simp [h]
    · have hperm : s.mdc.mode.permitsMoves = true := (Mode.permitsMoves_iff _).2 h
      rw [if_pos hperm]
      refine ⟨fun hrow => by rw [s.logicalOf_home row hrow]; rfl, fun j r b hj hrow => ?_⟩
      rw [hrow, s.logicalOf_spare j r b hj]
      rfl
  · have ht : s.arbitrate = t := by
      cases he
      rfl
    obtain ⟨o, c, rfl, hc⟩ := s.arbitrate_port g hn (ht ▸ hg)
    refine ⟨rfl, rfl, s.carriesAudit_iff o, hc, s.mirrorFor_none o _ _, fun i row p hi hm => ?_, s.currentRow_home _,
      fun i a hi hu => s.currentRow_spare _ i a hi hu, ?_⟩
    · exact s.mirrorFor_moving o _ _ i row p hi hm
    · show (o.mayUpdate && s.updates (s.placeOf o.addr)) = true ↔ _
      rw [Bool.and_eq_true, s.updates_iff]
      rfl

end Sys2Proof.Machine
end

section
/-! A row move in flight (R45 to R49): the report of its copy, the spares and entries that its end leaves, and the next move
chosen while the copy's group still holds the port. -/

namespace Sys2Proof.Machine

/-! ### A move chosen within a group, seen at the group's end -/

theorem State.chooseMove_spares (s : State) (g : Group) (hp : s.msq.port = some g) :
    s.chooseMove.srm.spares = s.srm.spares := by
  unfold State.chooseMove
  rw [hp]
  split
  · rfl
  · split <;> rfl

/-- A move starts in a FREE spare, so any other spare stands. -/
theorem State.startChosen_spare (s : State) (row : Nat) (j : Fin 16) (h : s.srm.spares[j] ≠ .free) :
    (s.startChosen row).srm.spares[j] = s.srm.spares[j] := by
  unfold State.startChosen
  split
  · rename_i k hk
    split
    · refine (s.setSpare_spare k j _).trans (if_neg ?_)
      rintro rfl
      exact h ((s.lowestFree_some _).1 hk).1
    · rfl
  · rfl

theorem State.startChosen_of_noWeak (s : State) (row : Nat) (h : ∀ e ∈ s.ret.entries, e.state ≠ .weak) :
    s.startChosen row = s := by
  have hany : s.ret.entries.any (fun e => e.row == row && e.state == .weak) = false :=
    List.any_eq_false.2 fun e he => by simpa using fun _ => h e he
  unfold State.startChosen
  rw [hany, Bool.and_false]
  split <;> rfl

/-- While a row is moving no other move starts. -/
theorem State.startChosen_of_moving (s : State) (row : Nat) (h : s.moving ≠ none) : s.startChosen row = s := by
  have hm : s.moving.isNone = false := Option.isNone_eq_false_iff.2 (Option.isSome_iff_ne_none.2 h)
  unfold State.startChosen
  rw [hm, Bool.false_and]
  split <;> rfl

theorem State.endGroup_spare (s : State) (j : Fin 16) (h : s.srm.spares[j] ≠ .free) :
    s.endGroup.srm.spares[j] = s.srm.spares[j] := by
  unfold State.endGroup
  split
  · exact State.startChosen_spare _ _ j h
  · rfl

theorem State.endGroup_of_moving (s : State) (h : s.moving ≠ none) : s.endGroup =
    { s with msq := { s.msq with port := none }, srm := { s.srm with startWaiting := none } } := by
  unfold State.endGroup
  split
  · exact State.startChosen_of_moving _ _ h
  · rfl

theorem State.chosen_spare (s : State) (g : Group) (hp : s.msq.port = some g) (j : Fin 16) (h : s.srm.spares[j] ≠ .free) :
    s.chooseMove.endGroup.srm.spares[j] = s.srm.spares[j] := by
  have hs := s.chooseMove_spares g hp
  rw [s.chooseMove.endGroup_spare j (by rwa [hs]), hs]

/-- A row whose entry is not WEAK is not chosen. -/
theorem State.chosen_entries (s : State) (g : Group) (hp : s.msq.port = some g) (hn : (s.ret.entries.map (·.row)).Nodup)
    (row : Nat) (st : RowState) (hst : st ≠ .weak) (h : ∀ e ∈ s.ret.entries, e.row = row → e.state = st) :
    ∀ e ∈ s.chooseMove.endGroup.ret.entries, e.row = row → e.state = st := by
  have hr := s.chooseMove_ret g hp
  have hmoved := s.chooseMove.endGroup_entries (by rwa [hr])
  rw [hr] at hmoved
  intro e' he' hrow
  obtain ⟨k, hk⟩ := List.mem_iff_getElem?.1 he'
  obtain ⟨e, he, hee⟩ := forall₂_getElem? hmoved.flip k e' hk
  have hmem := List.mem_of_getElem? he
  obtain rfl | ⟨hw, rfl⟩ := hee
  · exact h e' hmem hrow
  · exact absurd ((h e hmem hrow).symm.trans hw) hst

/-- With no WEAK entry nothing is chosen and nothing starts. -/
theorem State.chosen_of_noWeak (s : State) (h : ∀ e ∈ s.ret.entries, e.state ≠ .weak) :
    s.chooseMove.endGroup.srm.spares = s.srm.spares := by
  have hold : s.oldestWeak = none := List.find?_eq_none.2 fun e he => by simpa using h e he
  have hkeep : s.chooseMove = s := by
    unfold State.chooseMove State.weakToMove
    rw [hold, ite_self]
  rw [hkeep]
  unfold State.endGroup
  split
  · dsimp only
    rw [State.startChosen_of_noWeak]
    exact h
  · rfl

/-! ### The copy in flight -/

/-- The group in flight is the copy of the move that spare `i` receives: the word `p` of a row (R46, R47). -/
structure State.Copying (s : State) (g : Group) (i : Fin 16) (row p : Nat) : Prop where
  port : s.msq.port = some g
  live : g.live = true
  spare : s.srm.spares[i] = .moving row p
  law : MoveLaw s

section
variable {s x : State} {g : Group} {i : Fin 16} {row p : Nat}

theorem State.Copying.congr (h : s.Copying g i row p) (hmsq : x.msq = s.msq) (hsrm : x.srm = s.srm) :
    x.Copying g i row p := by
  refine ⟨hmsq ▸ h.port, h.live, hsrm ▸ h.spare, ?_⟩
  have hl := h.law
  unfold MoveLaw at hl ⊢
  rwa [hsrm]

theorem State.Copying.moving (h : s.Copying g i row p) : s.moving = some (i, row, p) := s.moving_of i row p h.spare h.law

/-- The move stands in the way of another (R45). -/
theorem State.Copying.chooseMove (h : s.Copying g i row p) : s.chooseMove = s := by
  have he : s.endedMove = false := by
    unfold State.endedMove
    rw [h.port, Option.any_some, h.live]
    rfl
  have hw : s.weakToMove = none := by
    unfold State.weakToMove State.noMove
    rw [h.moving, he]
    rfl
  unfold State.chooseMove
  rw [hw]

/-- The report of a corrected copy read leaves the spares: it chooses no move. -/
theorem State.Copying.reportRow (h : s.Copying g i row p) (r w : Nat) :
    (s.reportRow r w).srm = s.srm ∧ (s.reportRow r w).evu.msTime = s.evu.msTime := by
  have hhit (e : RowEntry) : (s.hitRow e w).srm = s.srm ∧ (s.hitRow e w).evu.msTime = s.evu.msTime := by
    rw [s.hitRow_eq]
    split
    · rw [State.Copying.chooseMove (h.congr (x := (s.rowHit e.row w).fire .rowWeak) rfl rfl)]
      exact ⟨rfl, (State.fire_evu _ _).2.1⟩
    · exact ⟨rfl, rfl⟩
  unfold State.reportRow
  split
  · exact hhit _
  · refine ⟨(State.newRow_frame ..).2.2.2.2.2.1, ?_⟩
    unfold State.newRow
    split
    · rfl
    · rw [(State.count_evu _ _).2.1, (State.fire_evu _ _).2.1]

/-- What the report of a copy read that can be stored leaves. -/
theorem State.Copying.reportOutcome (h : s.Copying g i row p) (o : ReadOutcome) (ho : o ≠ .uncorrectable)
    (hn : (s.ret.entries.map (·.row)).Nodup) :
    (s.reportOutcome g o).srm = s.srm ∧ (s.reportOutcome g o).msq = s.msq ∧
      (s.reportOutcome g o).evu.msTime = s.evu.msTime ∧ (s.reportOutcome g o).mdc = s.mdc ∧
      ((s.reportOutcome g o).ret.entries.map (·.row)).Nodup := by
  cases o with
  | clean => exact ⟨rfl, rfl, rfl, rfl, hn⟩
  | uncorrectable => exact absurd rfl ho
  | corrected =>
    have hx : s.noteCorrected.Copying g i row p := h.congr (by simp [State.noteCorrected]) (by simp [State.noteCorrected])
    obtain ⟨hsrm, htime⟩ := hx.reportRow g.row g.word
    have hret : s.noteCorrected.ret = s.ret := by simp [State.noteCorrected]
    refine ⟨?_, ?_, ?_, ?_, s.noteCorrected.reportRow_nodup g _ _ hx.port (hret ▸ hn)⟩
    · exact hsrm.trans (by simp [State.noteCorrected])
    · simp [State.reportOutcome]
    · refine htime.trans ?_
      unfold State.noteCorrected
      rw [(State.fire_evu _ _).2.1, (State.count_evu _ _).2.1]
    · simp [State.reportOutcome]

end

/-! ### The spares and entries after the last word -/

/-- The logical row that a moved row serves: itself, or that of its ACTIVE spare (R46). -/
theorem State.logicalOf_served (s : State) (row r : Nat) (h : row < s.rows - 16 ∧ r = row ∨
    ∃ j : Fin 16, (∃ b, s.srm.spares[j] = .active r b) ∧ row = s.rows - 16 + j.val) : s.logicalOf row = some r := by
  obtain ⟨hlt, rfl⟩ | ⟨j, ⟨b, hj⟩, rfl⟩ := h
  · exact s.logicalOf_home r hlt
  · exact s.logicalOf_spare j r b hj

/-- R48: a spare has become ACTIVE for a logical row, one that was so is RETIRED, and the others stand. -/
def SpareHandedOver (old new : Vector Spare 16) (i : Fin 16) (r : Nat) (time : Word) : Prop :=
  new[i] = .active r time ∧ (∀ j : Fin 16, j ≠ i → ∀ b, old[j] = .active r b → new[j] = .retired b) ∧
    ∀ j : Fin 16, j ≠ i → (∀ b, old[j] ≠ .active r b) → new[j] = old[j]

/-- The part with a move completed (R48), before the occasion to choose the next. -/
def State.moveDone (s : State) (sp : Vector Spare 16) (row : Nat) : State :=
  (({ s with srm := { s.srm with spares := sp } } : State).setEntries
    (setRowState row .replaced s.ret.entries)).fire .rowSubstituted

/-- The part with a move failed (R49), before the occasion to choose the next. -/
def State.moveFailedAt (s : State) (i : Fin 16) (row : Nat) : State :=
  ((s.setSpare i .free).setEntries (setRowState row .moveFailed s.ret.entries)).fire .moveFailed

/-- No row has two ACTIVE spares (R44). -/
theorem active_unique {s : State} (h : RowMapLaw s) (j k : Fin 16) (r : Nat) (b c : Word)
    (hj : s.srm.spares[j] = .active r b) (hk : s.srm.spares[k] = .active r c) : j = k :=
  h.1 j k r (by rw [hj]; rfl) (by rw [hk]; rfl)

theorem State.completeMove_handsOver (s : State) (i : Fin 16) (row r : Nat)
    (hu : ∀ (j k : Fin 16) b c, s.srm.spares[j] = .active r b → s.srm.spares[k] = .active r c → j = k)
    (hr : s.logicalOf row = some r) : ∃ sp, SpareHandedOver s.srm.spares sp i r s.evu.msTime ∧
      s.completeMove i row = (s.moveDone sp row).chooseMove := by
  unfold State.completeMove
  rw [hr]
  dsimp only
  by_cases hk : ∃ (k : Fin 16) (a : Word), s.srm.spares[k] = .active r a
  · obtain ⟨k, a, hk⟩ := hk
    rw [s.activeSpare_of r k a hk fun j b hj => hu j k b a hj hk]
    dsimp only
    rw [hk]
    refine ⟨((s.setSpare k (.retired a)).setSpare i (.active r s.evu.msTime)).srm.spares, ⟨?_, fun j hj b hb => ?_,
      fun j hj hb => ?_⟩, rfl⟩
    · exact (State.setSpare_spare _ i i _).trans (if_pos rfl)
    · rw [State.setSpare_spare, if_neg hj, State.setSpare_spare, if_pos (hu j k b a hb hk)]
      rw [hu j k b a hb hk, hk] at hb
      cases hb
      rfl
    · rw [State.setSpare_spare, if_neg hj, State.setSpare_spare, if_neg]
      rintro rfl
      exact hb a hk
  · have hnone (j : Fin 16) (b : Word) : s.srm.spares[j] ≠ .active r b := fun h => hk ⟨j, b, h⟩
    rw [s.activeSpare_none r fun j q b hj hq => hnone j b (hq ▸ hj)]
    refine ⟨(s.setSpare i (.active r s.evu.msTime)).srm.spares, ⟨?_, fun j _ b hb => absurd hb (hnone j b),
      fun j hj _ => ?_⟩, rfl⟩
    · exact (State.setSpare_spare _ i i _).trans (if_pos rfl)
    · rw [State.setSpare_spare, if_neg hj]

theorem setRowState_rows (row : Nat) (st : RowState) (es : List RowEntry) :
    (setRowState row st es).map (·.row) = es.map (·.row) := by
  unfold setRowState
  rw [List.map_map]
  refine List.map_congr_left fun e _ => ?_
  show (if e.row = row then { e with state := st } else e).row = e.row
  split <;> rfl

theorem setRowState_state (row : Nat) (st : RowState) (es : List RowEntry) :
    ∀ e ∈ setRowState row st es, e.row = row → e.state = st := by
  intro e he hrow
  obtain ⟨x, -, rfl⟩ := List.mem_map.1 he
  split at hrow
  · rename_i h
    rw [if_pos h]
  · exact absurd hrow (by assumption)

end Sys2Proof.Machine
end

section
/-! The end of a row-move copy (O49): a word stored, a move completed, and a move that fails. -/

namespace Sys2Proof.Machine

variable {s x : State} {g : Group} {i : Fin 16} {row p : Nat}

theorem exec_rowMoveCopyEnd_of {a : Nat} (m : CellSample) (hp : s.msq.port = some g) (ho : g.op = .moveCopy a) :
    exec (.rowMoveCopyEnd m) s = .next (s.rowMoveCopyEnd g m) := by
  simp only [exec, execRowMoveCopyEnd, hp, ho]

theorem Aftermath.endGroup {r s : State} (h : Aftermath r s) : Aftermath r s.endGroup := h.of_frame (by simp) (by simp)

theorem Aftermath.setSpare {r s : State} (h : Aftermath r s) (i : Fin 16) (v : Spare) : Aftermath r (s.setSpare i v) :=
  h.of_frame rfl rfl

theorem Aftermath.completeMove {r s : State} (h : Aftermath r s) (i : Fin 16) (row : Nat) :
    Aftermath r (s.completeMove i row) := by
  unfold State.completeMove
  split
  · exact h.setSpare i _
  · refine (((Aftermath.setSpare ?_ i _).setEntries _).fire _).chooseMove
    split
    · split
      · exact h.setSpare _ _
      · exact h
    · exact h

theorem Aftermath.advanceMove {r s : State} (h : Aftermath r s) : Aftermath r s.advanceMove := by
  unfold State.advanceMove
  split
  · exact h
  · split
    · exact h.completeMove _ _
    · exact h.setSpare _ _

/-! ### A word that can be stored -/

/-- The word read stands in the spare, before its outcome is reported (R29). -/
def State.copied (s : State) (g : Group) (m : CellSample) : State :=
  (s.readSlot g.row g.word m).1.copyToSpare g (readResult (found s g m)).1 (readResult (found s g m)).2

/-- The outcome of a word that can be stored has been reported (R30). -/
def State.copyReported (s : State) (g : Group) (m : CellSample) : State :=
  (s.copied g m).reportOutcome g (readResult (found s g m)).1

theorem State.rowMoveCopyEnd_stores (s : State) (g : Group) (m : CellSample) (hl : g.live = true)
    (h : wrongBits (found s g m).flips ≤ 1) :
    s.rowMoveCopyEnd g m = (s.copyReported g m).advanceMove.endGroup := by
  have ho := (readResult_of_le _ h).1
  have hr : (s.readSlot g.row g.word m).2 = readResult (found s g m) := rfl
  unfold State.rowMoveCopyEnd
  dsimp only
  rw [hr, if_pos hl, if_neg ho]
  rfl

@[simp] theorem State.copied_frame (s : State) (g : Group) (m : CellSample) :
    (s.copied g m).chanId = s.chanId ∧ (s.copied g m).msize = s.msize ∧ (s.copied g m).txi = s.txi ∧
    (s.copied g m).rgt = s.rgt ∧ (s.copied g m).msq = s.msq ∧ (s.copied g m).ret = s.ret ∧
    (s.copied g m).srm = s.srm ∧ (s.copied g m).dgu = s.dgu ∧ (s.copied g m).ptl = s.ptl ∧
    (s.copied g m).lkc = s.lkc ∧ (s.copied g m).vtu = s.vtu ∧ (s.copied g m).mdc = s.mdc ∧
    (s.copied g m).rse = s.rse ∧ (s.copied g m).evu = s.evu ∧ (s.copied g m).cmi = s.cmi ∧
    (s.copied g m).pending = s.pending := by
  unfold State.copied
  simp

theorem State.copied_lookup (s : State) (g : Group) (m : CellSample) (spare : Nat)
    (h : wrongBits (found s g m).flips ≤ 1) (hs : g.mirror = some spare) (key : Nat) :
    memLookup (s.copied g m).mem key = if key = spare * 256 + g.word then some { data := (found s g m).data, flips := 0 }
      else memLookup (s.readSlot g.row g.word m).1.mem key := by
  obtain ⟨ho, hd⟩ := readResult_of_le _ h
  unfold State.copied State.copyToSpare
  rw [hs, hd]
  dsimp only
  rw [if_neg ho]
  exact memLookup_memInsert _ _ _ _

/-- The memory at the end of the group. -/
theorem State.rowMoveCopyEnd_mem (s : State) (g : Group) (m : CellSample) (spare : Nat) (hl : g.live = true)
    (h : wrongBits (found s g m).flips ≤ 1) (hs : g.mirror = some spare) :
    memLookup (s.rowMoveCopyEnd g m).mem (spare * 256 + g.word) = some { data := (found s g m).data, flips := 0 } ∧
      CellsKept s (s.rowMoveCopyEnd g m) (writtenKeys g) := by
  have hmem : (s.rowMoveCopyEnd g m).mem = (s.copied g m).mem := by
    rw [s.rowMoveCopyEnd_stores g m hl h]
    simp [State.copyReported]
  refine ⟨by rw [hmem, s.copied_lookup g m spare h hs, if_pos rfl], fun key hk => ?_⟩
  unfold writtenKeys at hk
  rw [hs] at hk
  simp only [Option.map_some, Option.toList_some, List.mem_cons, List.not_mem_nil, or_false, not_or] at hk
  rw [hmem, s.copied_lookup g m spare h hs, if_neg hk.2, s.readSlot_others g m key hk.1]

theorem State.rowMoveCopyEnd_port (s : State) (g : Group) (m : CellSample) : (s.rowMoveCopyEnd g m).msq.port = none := by
  unfold State.rowMoveCopyEnd
  dsimp only
  split <;> rw [State.endGroup_msq]

/-- The part when the outcome of a word that can be stored has been reported: the copy is still in flight. -/
theorem State.Copying.copyReported (h : s.Copying g i row p) (m : CellSample) (hw : wrongBits (found s g m).flips ≤ 1)
    (hn : RowTableLaw s) :
    (s.copyReported g m).Copying g i row p ∧ (s.copyReported g m).srm = s.srm ∧
      (s.copyReported g m).msize = s.msize ∧ (s.copyReported g m).evu.msTime = s.evu.msTime ∧
      (s.copyReported g m).mdc = s.mdc ∧ ((s.copyReported g m).ret.entries.map (·.row)).Nodup := by
  have hc : (s.copied g m).Copying g i row p := h.congr (by simp) (by simp)
  obtain ⟨hsrm, hmsq, htime, hmdc, hnodup⟩ :=
    hc.reportOutcome (readResult (found s g m)).1 (readResult_of_le _ hw).1 (by simpa using hn.2)
  exact ⟨hc.congr hmsq hsrm, hsrm.trans (by simp), by simp [State.copyReported], htime.trans (by simp), hmdc.trans (by simp),
    hnodup⟩

/-- A clean word has nothing to report. -/
theorem State.copyReported_clean (s : State) (g : Group) (m : CellSample) (h : wrongBits (found s g m).flips = 0) :
    s.copyReported g m = s.copied g m := by
  unfold State.copyReported
  rw [readResult_clean _ h]
  rfl

theorem State.copyReported_flag (s : State) (g : Group) (m : CellSample) (h : wrongBits (found s g m).flips = 1) :
    FlagSet (s.copyReported g m) .memCorrected := by
  have hf := ((s.copied g m).noteCorrected_flags .memCorrected).2 (.inr (by simp))
  have hr := ((Aftermath.refl (s.copied g m).noteCorrected).reportRow g.row g.word).flags _ hf
  unfold State.copyReported
  rw [readResult_corrected _ h]
  exact hr

/-! ### The pointer moves on, or the move completes (R47, R48) -/

theorem State.Copying.advanceMove_next (h : s.Copying g i row p) (hp : p + 1 < 256) :
    s.advanceMove = s.setSpare i (.moving row (p + 1)) := by
  unfold State.advanceMove
  rw [h.moving]
  exact if_neg (Nat.ne_of_lt hp)

theorem State.Copying.advanceMove_last (h : s.Copying g i row p) (hp : p + 1 = 256) :
    s.advanceMove = s.completeMove i row := by
  unfold State.advanceMove
  rw [h.moving]
  exact if_pos hp

/-- With words left to copy, the end of the group moves the pointer and nothing else of the spares. -/
theorem State.Copying.next_ends (h : s.Copying g i row p) (hp : p + 1 < 256) : s.advanceMove.endGroup =
    { s.setSpare i (.moving row (p + 1)) with
      msq := { s.msq with port := none }
      srm := { (s.setSpare i (.moving row (p + 1))).srm with startWaiting := none } } := by
  rw [h.advanceMove_next hp, State.endGroup_of_moving _ fun hm => ?_]
  · rfl
  · have hi := (State.moving_none _).1 hm i
    rw [State.setSpare_spare, if_pos rfl] at hi
    cases hi

/-- The move completes, and SRM has its occasion to choose the next. -/
theorem State.Copying.last_completes (h : s.Copying g i row p) (hp : p + 1 = 256) (r : Nat)
    (hu : ∀ (j k : Fin 16) b c, s.srm.spares[j] = .active r b → s.srm.spares[k] = .active r c → j = k)
    (hr : s.logicalOf row = some r) : ∃ sp, SpareHandedOver s.srm.spares sp i r s.evu.msTime ∧
      s.advanceMove = (s.moveDone sp row).chooseMove := by
  rw [h.advanceMove_last hp]
  exact s.completeMove_handsOver i row r hu hr

/-- No spare is MOVING when the one that was has been handed over. -/
theorem State.Copying.handedOver_still (h : s.Copying g i row p) {sp : Vector Spare 16} {r : Nat} {time : Word}
    (hs : SpareHandedOver s.srm.spares sp i r time) (j : Fin 16) : sp[j].isMoving = false := by
  obtain ⟨hi, hret, hkeep⟩ := hs
  by_cases hj : j = i
  · rw [hj, hi]
    rfl
  · by_cases hb : ∃ b, s.srm.spares[j] = .active r b
    · obtain ⟨b, hb⟩ := hb
      rw [hret j hj b hb]
      rfl
    · rw [hkeep j hj fun b hb' => hb ⟨b, hb'⟩]
      refine Bool.eq_false_iff.2 fun hm => hj (h.law j i hm ?_)
      rw [h.spare]
      rfl

/-! ### A word that cannot be stored (R31, R49) -/

/-- An uncorrectable word is an event only, and the move fails. -/
theorem State.rowMoveCopyEnd_fails (s : State) (g : Group) (m : CellSample) (hl : g.live = true)
    (h : wrongBits (found s g m).flips = 2) (hev : ∀ pl, g.place = some pl → EventOnly s.mdc.mode pl.cls) :
    s.rowMoveCopyEnd g m = (s.readNoted g m).failMove.endGroup := by
  have hr : (s.readSlot g.row g.word m).2 = (.uncorrectable, 0) := readResult_uncorrectable _ h
  have hcopy : (s.readSlot g.row g.word m).1.copyToSpare g .uncorrectable 0 = (s.readSlot g.row g.word m).1 := by
    unfold State.copyToSpare
    split <;> rfl
  have hrep : (s.readSlot g.row g.word m).1.reportUncorrectable g = s.readNoted g m := by
    rw [State.reportUncorrectable_eq]
    cases hpl : g.place with
    | none => rfl
    | some pl =>
      have hmode : (s.readNoted g m).mdc = s.mdc := by simp
      exact (s.readNoted g m).consequence_eventOnly pl g.op.addr (by rw [hmode]; exact hev pl hpl)
  unfold State.rowMoveCopyEnd
  dsimp only
  rw [hr]
  dsimp only
  rw [if_pos hl, hcopy, if_pos rfl]
  exact congrArg (fun x => x.failMove.endGroup) hrep

theorem State.Copying.failMove_eq (h : s.Copying g i row p) : s.failMove = (s.moveFailedAt i row).chooseMove := by
  unfold State.failMove
  rw [h.moving]
  rfl

/-! ### The parts of the statement -/

/-- A corrected word is flagged (R30). -/
theorem State.rowMoveCopyEnd_flag (s : State) (g : Group) (m : CellSample) (hl : g.live = true)
    (h : wrongBits (found s g m).flips = 1) : FlagSet (s.rowMoveCopyEnd g m) .memCorrected := by
  rw [s.rowMoveCopyEnd_stores g m hl (by omega)]
  exact (Aftermath.refl (s.copyReported g m)).advanceMove.endGroup.flags _ (s.copyReported_flag g m h)

/-- A word stored with more to copy (R47). -/
theorem State.Copying.moves_on (h : s.Copying g i row p) (m : CellSample) (hw : wrongBits (found s g m).flips ≤ 1)
    (hn : RowTableLaw s) (hp : p + 1 < 256) :
    let t := s.rowMoveCopyEnd g m
    t.srm.spares[i] = .moving row (p + 1) ∧ (∀ j, j ≠ i → t.srm.spares[j] = s.srm.spares[j]) ∧
      (wrongBits (found s g m).flips = 0 → ¬ MoveWaits s → t = { s with
        mem := t.mem, msq := { s.msq with port := none }, srm := t.srm }) := by
  obtain ⟨hz, hsrm, -⟩ := h.copyReported m hw hn
  have hspare (j : Fin 16) : (s.rowMoveCopyEnd g m).srm.spares[j] =
      if j = i then .moving row (p + 1) else s.srm.spares[j] := by
    rw [s.rowMoveCopyEnd_stores g m h.live hw, hz.next_ends hp, ← hsrm]
    exact State.setSpare_spare _ i j _
  refine ⟨(hspare i).trans (if_pos rfl), fun j hj => (hspare j).trans (if_neg hj), fun h0 _ => State.eq_of_blocks ?_⟩
  rw [s.rowMoveCopyEnd_stores g m h.live hw, hz.next_ends hp, s.copyReported_clean g m h0]
  simp

/-- The last word (R48), and the occasion to choose the next move (R45, R46). -/
theorem State.Copying.completes (h : s.Copying g i row p) (m : CellSample) (hw : wrongBits (found s g m).flips ≤ 1)
    (hn : RowTableLaw s) (hmap : RowMapLaw s) (r : Nat) (hr : s.logicalOf row = some r) (hp : p + 1 = 256) :
    let t := s.rowMoveCopyEnd g m
    t.srm.spares[i] = .active r s.evu.msTime ∧ FlagSet t .rowSubstituted ∧
      (∀ e ∈ t.ret.entries, e.row = row → e.state = .replaced) ∧
      (∀ (j : Fin 16) b, s.srm.spares[j] = .active r b → t.srm.spares[j] = .retired b) ∧
      (wrongBits (found s g m).flips = 0 → ¬ MoveWaits s → ∃ sp : Vector Spare 16,
        SpareHandedOver s.srm.spares sp i r s.evu.msTime ∧
        MoveChosen { s.srm with spares := sp } (setRowState row .replaced s.ret.entries) (PermitsMoves s.mdc.mode) False t) := by
  obtain ⟨hz, hsrm, hmsize, htime, hmdc, hnodup⟩ := h.copyReported m hw hn
  have hlog : (s.copyReported g m).logicalOf row = some r := by
    rw [← hr]
    unfold State.logicalOf State.spareRow State.rows
    rw [hsrm, hmsize]
  obtain ⟨sp, hsp, hdone⟩ := hz.last_completes hp r (by rw [hsrm]; exact fun j k b c => active_unique hmap j k r b c) hlog
  have hstill := hz.handedOver_still hsp
  rw [hsrm, htime] at hsp
  obtain ⟨hi, hret, hkeep⟩ := hsp
  let y := (s.copyReported g m).moveDone sp row
  have hend : s.rowMoveCopyEnd g m = y.chooseMove.endGroup := by
    rw [s.rowMoveCopyEnd_stores g m h.live hw, hdone]
  have hport : y.msq.port = some g := hz.port
  have hrows : (y.ret.entries.map (·.row)).Nodup := (setRowState_rows _ _ _).symm ▸ hnodup
  have hactive (j : Fin 16) (b : Word) (hb : s.srm.spares[j] = .active r b) : sp[j] = .retired b := by
    refine hret j ?_ b hb
    rintro rfl
    rw [h.spare] at hb
    cases hb
  rw [hend]
  refine ⟨?_, ?_, ?_, fun j b hb => ?_, fun h0 hm => ⟨sp, ⟨hi, hret, hkeep⟩, ?_⟩⟩
  · exact (y.chosen_spare g hport i (by rw [show y.srm.spares[i] = _ from hi]; nofun)).trans hi
  · refine (Aftermath.refl y).chooseMove.endGroup.flags _ ?_
    unfold FlagSet
    exact (State.fire_flag ..).trans (by simp)
  · exact y.chosen_entries g hport hrows row .replaced nofun (setRowState_state row _ _)
  · have hj := hactive j b hb
    exact (y.chosen_spare g hport j (by rw [show y.srm.spares[j] = _ from hj]; nofun)).trans hj
  · have hwait : y.srm.startWaiting = none := by
      show (s.copyReported g m).srm.startWaiting = none
      rw [hsrm]
      simpa [MoveWaits] using hm
    have hchosen := y.chooseMove_endGroup hrows hstill hwait (by rw [hport]; nofun)
    rw [show y.srm = { s.srm with spares := sp } by rw [← hsrm]; rfl,
      show y.mdc.mode = s.mdc.mode from congrArg _ hmdc,
      show y.ret.entries = setRowState row .replaced s.ret.entries by
        show setRowState row .replaced (s.copyReported g m).ret.entries = _
        rw [s.copyReported_clean g m h0]
        simp] at hchosen
    exact hchosen

/-- A word that cannot be stored (R49), and the occasion to choose the next move (R45, R46). -/
theorem State.Copying.fails (h : s.Copying g i row p) (m : CellSample) (a : Nat) (ho : g.op = .moveCopy a)
    (hw : wrongBits (found s g m).flips = 2) (hev : ∀ pl, g.place = some pl → EventOnly s.mdc.mode pl.cls)
    (hn : RowTableLaw s) :
    let t := s.rowMoveCopyEnd g m
    FlagSet t .moveFailed ∧ FlagSet t .memUncorrectable ∧ Captured s t .memory .m (some a) (.memory .moveCopy) ∧
      memLookup t.mem (groupKey g) = some (found s g m) ∧ CellsKept s t [groupKey g] ∧
      (∀ e ∈ t.ret.entries, e.row = row → e.state = .moveFailed) ∧
      ((∀ e ∈ s.ret.entries, e.state ≠ .weak) → t.srm.spares[i] = .free ∧
        ∀ j, j ≠ i → t.srm.spares[j] = s.srm.spares[j]) ∧
      (¬ MoveWaits s → MoveChosen { s.srm with spares := s.srm.spares.set i .free }
        (setRowState row .moveFailed s.ret.entries) (PermitsMoves s.mdc.mode) False t) ∧
      t = { s with
        mem := t.mem, msq := { s.msq with port := none }, srm := t.srm, ret := t.ret, evu := t.evu } := by
  have hx : (s.readNoted g m).Copying g i row p := h.congr (by simp) (by simp)
  let y := (s.readNoted g m).moveFailedAt i row
  have hend : s.rowMoveCopyEnd g m = y.chooseMove.endGroup := by
    rw [s.rowMoveCopyEnd_fails g m h.live hw hev, hx.failMove_eq]
  have hport : y.msq.port = some g := hx.port
  have hent : y.ret.entries = setRowState row .moveFailed s.ret.entries := by
    show setRowState row .moveFailed (s.readNoted g m).ret.entries = _
    simp
  have hsrm : y.srm = { s.srm with spares := s.srm.spares.set i .free } := by
    show { (s.readNoted g m).srm with spares := (s.readNoted g m).srm.spares.set i .free } = _
    simp
  have hspare (j : Fin 16) : y.srm.spares[j] = if j = i then .free else s.srm.spares[j] := by
    rw [hsrm]
    exact s.setSpare_spare i j .free
  have hrows : (y.ret.entries.map (·.row)).Nodup := by
    rw [hent, setRowState_rows]
    exact hn.2
  have hnoted : Aftermath (s.readNoted g m) y.chooseMove.endGroup :=
    ((((Aftermath.refl _).setSpare i .free).setEntries _).fire .moveFailed).chooseMove.endGroup
  have hcaptured : Captured s (s.readNoted g m) .memory .m (some a) (.memory .moveCopy) := by
    have hc := (s.readSlot g.row g.word m).1.noteUncorrectable_captured g
    rw [ho] at hc
    have hc' : Captured (s.readSlot g.row g.word m).1 (s.readNoted g m) .memory .m (some a) (.memory .moveCopy) := hc
    unfold Captured at hc' ⊢
    simpa using hc'
  obtain ⟨hmem, hcells⟩ := cellsKept_of_readSlot (t := s.rowMoveCopyEnd g m) (s := s) (g := g) (m := m) (by
    rw [hend]
    simp [y, State.moveFailedAt, State.readNoted, State.noteUncorrectable])
  rw [hend] at hmem hcells ⊢
  refine ⟨?_, ?_, hcaptured.aftermath hnoted, hmem, hcells, ?_, fun hno => ?_, fun hm => ?_, State.eq_of_blocks ?_⟩
  · refine (Aftermath.refl y).chooseMove.endGroup.flags _ ?_
    unfold FlagSet
    exact (State.fire_flag ..).trans (by simp)
  · exact hnoted.flags _ (((s.readSlot g.row g.word m).1.noteUncorrectable_flags g .memUncorrectable).2 (.inr (by simp)))
  · exact y.chosen_entries g hport hrows row .moveFailed nofun (hent ▸ setRowState_state row _ _)
  · have hkeep : y.chooseMove.endGroup.srm.spares = y.srm.spares := by
      refine y.chosen_of_noWeak fun e he => ?_
      rw [hent] at he
      obtain ⟨e', he', rfl⟩ := List.mem_map.1 he
      split
      · nofun
      · exact hno e' he'
    rw [hkeep]
    exact ⟨(hspare i).trans (if_pos rfl), fun j hj => (hspare j).trans (if_neg hj)⟩
  · have hstill (j : Fin 16) : y.srm.spares[j].isMoving = false := by
      rw [hspare]
      split
      · rfl
      · rename_i hj
        refine Bool.eq_false_iff.2 fun hmv => hj (h.law j i hmv ?_)
        rw [h.spare]
        rfl
    have hwait : y.srm.startWaiting = none := by
      rw [hsrm]
      simpa [MoveWaits] using hm
    have hchosen := y.chooseMove_endGroup hrows hstill hwait (by rw [hport]; nofun)
    rwa [hsrm, hent, show y.mdc.mode = s.mdc.mode from congrArg Mdc.mode (by simp [y, State.moveFailedAt])] at hchosen
  · simp [y, State.moveFailedAt, State.endGroup_msq]

/-- Settles O49. -/
theorem rowMoveCopiesWords : Obligations.RowMoveCopiesWords := by
  intro s g a m i row p r hport ho hl hmirror hspare hmove hmap _ hrows hserved
  have hc : s.Copying g i row p := ⟨hport, hl, hspare, hmove⟩
  have he := exec_rowMoveCopyEnd_of m hport ho
  refine ⟨fun hw => ?_, fun hw hev => ⟨_, he, hc.fails m a ho hw hev hrows⟩⟩
  obtain ⟨hmem, hcells⟩ := s.rowMoveCopyEnd_mem g m _ hl hw hmirror
  refine ⟨_, he, hmem, hcells, s.rowMoveCopyEnd_port g m, s.rowMoveCopyEnd_flag g m hl, hc.moves_on m hw hrows, fun hp => ?_⟩
  obtain ⟨hi, hflag, hentries, hretired, hnext⟩ := hc.completes m hw hrows hmap r (s.logicalOf_served row r hserved) hp
  refine ⟨hi, hflag, hentries, hretired, fun h0 hm => ?_⟩
  obtain ⟨sp, ⟨hsi, hsr, hsk⟩, hchosen⟩ := hnext h0 hm
  exact ⟨sp, hsi, hsr, hsk, hchosen⟩

end Sys2Proof.Machine
end

section
/-! RESTART (O37): the services that end, the group in flight that no one waits for, the move that ends, and the blocks of
Table 12.6. -/

namespace Sys2Proof.Machine

/-! ### The services end (R127) -/

theorem State.endService_none (s : State) (w : Option Word) (h : s.rse.service = none) : s.endService w = s := by
  unfold State.endService
  rw [h]

theorem State.endReentry_none (s : State) (w : Word) (h : s.rse.reentry = none) : s.endReentry w = s := by
  unfold State.endReentry
  rw [h]

theorem State.endRepair_none (s : State) (w : Word) (b : Bool) (h : s.rse.repair = none) : s.endRepair w b = s := by
  unfold State.endRepair
  rw [h]

theorem State.endReentry_some (s : State) (w : Word) (v : Reentry) (h : s.rse.reentry = some v) : s.endReentry w =
    ((s.offerFrame v.asked (.abandon w)).setReentry none).fire .serviceEnded := by
  unfold State.endReentry
  rw [h]

theorem State.endRepair_some (s : State) (w : Word) (b : Bool) (v : Repair) (h : s.rse.repair = some v) : s.endRepair w b =
    ((if v.abandons b then s.offerFrame v.asked (.abandon w) else s).setRepair none).fire .serviceEnded := by
  unfold State.endRepair
  rw [h]

theorem State.offerFrame_link (s : State) (p q : Port) (f : Frame) : (s.offerFrame p f).link q =
    { s.link q with tx := if p = q then queued (s.link q) f else (s.link q).tx } := by
  obtain ⟨⟨hp, hq⟩, -⟩ := State.offerFrame_offered s p f
  by_cases h : p = q
  · rw [← h, hp, if_pos rfl]
  · rw [hq q (Ne.symm h), if_neg h]

theorem State.endReentry_link (s : State) (w : Word) (p : Port) : (s.endReentry w).link p = { s.link p with
    tx := if s.rse.reentry.map (·.asked) = some p then queued (s.link p) (.abandon w) else (s.link p).tx } := by
  cases hv : s.rse.reentry with
  | none =>
    rw [s.endReentry_none w hv]
    simp
  | some v =>
    rw [s.endReentry_some w v hv]
    refine (s.offerFrame_link v.asked p _).trans ?_
    simp

/-- A repair's end offers ABANDON where a partner has been asked (log entries 51 and 52). -/
theorem State.endRepair_link (s : State) (w : Word) (b : Bool) (p : Port) : (s.endRepair w b).link p = { s.link p with
    tx := if (s.rse.repair.filter (·.abandons b)).map (·.asked) = some p then queued (s.link p) (.abandon w)
      else (s.link p).tx } := by
  cases hv : s.rse.repair with
  | none =>
    rw [s.endRepair_none w b hv]
    simp
  | some v =>
    rw [s.endRepair_some w b v hv]
    cases ha : v.abandons b with
    | true =>
      refine (s.offerFrame_link v.asked p _).trans ?_
      simp [ha]
    | false =>
      simp [ha]
      rfl

/-! ### The event unit through the end of the services -/

/-- What the end of a service reports: SERVICE_ENDED, and TX_DROP where the ABANDON finds no room. -/
structure EndReported (s t : State) (ended : Prop) : Prop where
  flags : ∀ ev, FlagSet t ev ↔ FlagSet s ev ∨ (ev = .serviceEnded ∧ ended)
  counters : ∀ c : Counter, c ≠ .txDrop → t.evu.counters[c.index] = s.evu.counters[c.index]
  captures : CapturesKept s t
  time : TimeKept s t

theorem EndReported.of_evu {s t : State} {ended : Prop} (h : t.evu = s.evu) (hn : ¬ ended) : EndReported s t ended := by
  refine ⟨fun ev => ?_, fun c _ => by rw [h], fun k => by rw [h], by unfold TimeKept; rw [h]⟩
  unfold FlagSet
  rw [h]
  simp [hn]

theorem EndReported.fire {s x t : State} {ended : Prop} (hx : EndReported s x False) (h : t.evu = (x.fire .serviceEnded).evu)
    (he : ended) : EndReported s t ended := by
  obtain ⟨hcounters, htime, hcaptures⟩ := State.fire_evu x .serviceEnded
  refine ⟨fun ev => ?_, fun c hc => ?_, fun k => ?_, ?_⟩
  · have hf := hx.flags ev
    unfold FlagSet at hf ⊢
    rw [h, State.fire_flag, Bool.or_eq_true, hf]
    simp [he]
  · rw [h, hcounters, hx.counters c hc]
  · rw [h, hcaptures, hx.captures k]
  · have ht := hx.time
    unfold TimeKept at ht ⊢
    rw [h, htime, ht]

theorem EndReported.offerFrame (s : State) (p : Port) (f : Frame) : EndReported s (s.offerFrame p f) False := by
  obtain ⟨-, hfired, hcaptures, hcounted⟩ := State.offerFrame_offered s p f
  refine ⟨fun ev => ?_, fun c hc => ?_, hcaptures, ?_⟩
  · rw [hfired ev]
    simp
  · rw [hcounted c, if_neg]
    rintro ⟨hm, -⟩
    unfold dropped at hm
    split at hm
    · exact hc (List.mem_singleton.1 hm)
    · cases hm
  · unfold TimeKept State.offerFrame
    split
    · simp
    · rfl
    · exact (State.count_evu s .txDrop).2.1

theorem EndReported.trans {r s t : State} {P Q : Prop} (h : EndReported r s P) (k : EndReported s t Q) :
    EndReported r t (P ∨ Q) := by
  refine ⟨fun ev => ?_, fun c hc => (k.counters c hc).trans (h.counters c hc), fun c => (k.captures c).trans (h.captures c),
    Eq.trans k.time h.time⟩
  rw [k.flags ev, h.flags ev]
  tauto

theorem State.endService_reported (s : State) (w : Word) :
    EndReported s (s.endService (some w)) (s.rse.service ≠ none) := by
  cases hv : s.rse.service with
  | none =>
    rw [s.endService_none _ hv]
    exact .of_evu rfl (by simp)
  | some v =>
    refine (EndReported.offerFrame s v.port (.abandon w)).fire ?_ (by simp)
    unfold State.endService
    rw [hv]
    rfl

theorem State.endReentry_reported (s : State) (w : Word) : EndReported s (s.endReentry w) (s.rse.reentry ≠ none) := by
  cases hv : s.rse.reentry with
  | none =>
    rw [s.endReentry_none _ hv]
    exact .of_evu rfl (by simp)
  | some v =>
    rw [s.endReentry_some w v hv]
    exact (EndReported.offerFrame s v.asked (.abandon w)).fire rfl (by simp)

theorem State.endRepair_reported (s : State) (w : Word) (b : Bool) :
    EndReported s (s.endRepair w b) (s.rse.repair ≠ none) := by
  cases hv : s.rse.repair with
  | none =>
    rw [s.endRepair_none _ _ hv]
    exact .of_evu rfl (by simp)
  | some v =>
    rw [s.endRepair_some w b v hv]
    split
    · exact (EndReported.offerFrame s v.asked (.abandon w)).fire rfl (by simp)
    · exact EndReported.fire (.of_evu (s := s) (t := s) rfl not_false) rfl (by simp)

/-! ### All services -/

/-- The three kinds of service have ended; the frames in work are still to be given up. -/
def State.servicesOver (s : State) (w : Word) (b : Bool) : State :=
  ((s.endService (some w)).endReentry w).endRepair w b

theorem State.endServices_link (s : State) (w : Word) (b : Bool) (p : Port) :
    (s.endServices w b).link p = { (s.servicesOver w b).link p with work := none } := by
  cases p <;> rfl

theorem State.endServices_reported (s : State) (w : Word) (b : Bool) : EndReported s (s.endServices w b)
    (s.rse.service ≠ none ∨ s.rse.reentry ≠ none ∨ s.rse.repair ≠ none) := by
  have h1 := s.endService_reported w
  have h2 := (s.endService (some w)).endReentry_reported w
  have h3 := ((s.endService (some w)).endReentry w).endRepair_reported w b
  rw [s.endService_rse] at h2
  have hrep : ((s.endService (some w)).endReentry w).rse.repair = s.rse.repair := by simp
  rw [hrep] at h3
  have h := (h1.trans h2).trans h3
  exact ⟨fun ev => (h.flags ev).trans (by rw [or_assoc]), h.counters, h.captures, h.time⟩

/-- Beside the transmit queues the services' ends leave the ports. -/
theorem State.servicesOver_link (s : State) (w : Word) (b : Bool) (p : Port) :
    (s.servicesOver w b).link p = { s.link p with tx := ((s.servicesOver w b).link p).tx } := by
  unfold State.servicesOver
  rw [State.endRepair_link, State.endReentry_link, State.endService_link]

theorem State.servicesOver_quiet (s : State) (w : Word) (b : Bool) (hs : s.rse.service = none) (hr : s.rse.reentry = none)
    (hp : s.rse.repair = none) : s.servicesOver w b = s := by
  unfold State.servicesOver
  rw [s.endService_none _ hs, s.endReentry_none w hr, s.endRepair_none w b hp]

theorem State.servicesOver_service (s : State) (w : Word) (b : Bool) (v : Service) (hs : s.rse.service = some v)
    (hr : s.rse.reentry = none) (hp : s.rse.repair = none) :
    ((s.servicesOver w b).link v.port).tx = queued (s.link v.port) (.abandon w) := by
  unfold State.servicesOver
  rw [State.endReentry_none _ w (by simpa using hr), State.endRepair_none _ w b (by simpa using hp), s.endService_link, hs]
  exact if_pos rfl

theorem State.servicesOver_reentry (s : State) (w : Word) (b : Bool) (v : Reentry) (hr : s.rse.reentry = some v)
    (hs : s.rse.service = none) (hp : s.rse.repair = none) :
    ((s.servicesOver w b).link v.asked).tx = queued (s.link v.asked) (.abandon w) := by
  unfold State.servicesOver
  rw [s.endService_none _ hs, State.endRepair_none _ w b (by simpa using hp), s.endReentry_link, hr]
  exact if_pos rfl

/-- At RESTART a repair in AUDITING abandons too (log entry 52), and one that has asked nobody does not (log entry 51). -/
theorem State.servicesOver_repair (s : State) (w : Word) (v : Repair) (hp : s.rse.repair = some v)
    (hs : s.rse.service = none) (hr : s.rse.reentry = none) :
    (v.triedA = true ∨ v.triedB = true →
      ((s.servicesOver w false).link v.asked).tx = queued (s.link v.asked) (.abandon w)) ∧
    (v.triedA = false → v.triedB = false → ((s.servicesOver w false).link v.asked).tx = (s.link v.asked).tx) ∧
    ∀ q, q ≠ v.asked → ((s.servicesOver w false).link q).tx = (s.link q).tx := by
  unfold State.servicesOver
  rw [s.endService_none _ hs, s.endReentry_none w hr]
  have ha : v.abandons false = (v.triedA || v.triedB) := by simp [Repair.abandons, Repair.hasAsked]
  refine ⟨fun h => ?_, fun hA hB => ?_, fun q hq => ?_⟩
  · rw [s.endRepair_link, hp, Option.filter_some, ha, Bool.or_eq_true_iff.2 h]
    exact if_pos rfl
  · rw [s.endRepair_link, hp, Option.filter_some, ha, hA, hB]
    rfl
  · rw [s.endRepair_link, hp, if_neg]
    intro h
    obtain ⟨x, hx, hxq⟩ := Option.map_eq_some_iff.1 h
    obtain ⟨hvx, -⟩ := Option.filter_eq_some_iff.1 hx
    cases hvx
    exact hq hxq.symm

/-! ### The group in flight (R36, log entry 66) -/

theorem State.forget_orphan (s : State) (who : WordOp → Bool) : (s.forget who).orphanGroup.msq = s.orphanGroup.msq := by
  unfold State.forget State.orphanGroup
  cases s.msq.port with
  | none => rfl
  | some g =>
    dsimp only [Option.map_some]
    split <;> rfl

theorem State.orphanGroup_msq_congr {s t : State} (h : t.msq = s.msq) : t.orphanGroup.msq = s.orphanGroup.msq := by
  unfold State.orphanGroup
  rw [h]

theorem State.endService_orphan (s : State) (w : Option Word) : (s.endService w).orphanGroup.msq = s.orphanGroup.msq := by
  unfold State.endService
  split
  · rfl
  · refine (State.forget_orphan _ WordOp.ofCopy).trans (State.orphanGroup_msq_congr ?_)
    split <;> simp

/-- The group in flight ends as granted, and no block acts on its reports: whatever forgot it before makes no difference. -/
theorem State.endServices_orphan (s : State) (w : Word) (b : Bool) : (s.endServices w b).orphanGroup.msq =
    { s.msq with port := s.msq.port.map Group.orphan } :=
  calc (s.endServices w b).orphanGroup.msq
    _ = ((s.servicesOver w b).forget WordOp.ofTarget).orphanGroup.msq := rfl
    _ = (s.servicesOver w b).orphanGroup.msq := State.forget_orphan _ _
    _ = (s.endService (some w)).orphanGroup.msq := State.orphanGroup_msq_congr (by unfold State.servicesOver; simp)
    _ = s.orphanGroup.msq := s.endService_orphan _

/-! ### The move in flight (R51) -/

theorem State.moving_some (s : State) (i : Fin 16) (row p : Nat) (h : s.moving = some (i, row, p)) :
    s.srm.spares[i] = .moving row p := by
  obtain ⟨j, -, hj⟩ := List.exists_of_findSome?_eq_some h
  split at hj
  · rename_i hs
    cases hj
    exact hs
  · cases hj

theorem State.releaseSpare_still (s : State) (j : Fin 16) (h : s.srm.spares[j].isMoving = false) :
    s.releaseSpare.srm.spares[j] = s.srm.spares[j] := by
  unfold State.releaseSpare
  split
  · rfl
  · rename_i i row p hm
    refine (s.setSpare_spare i j _).trans (if_neg ?_)
    rintro rfl
    rw [s.moving_some j row p hm] at h
    cases h

theorem State.releaseSpare_frees (s : State) (hl : MoveLaw s) (j : Fin 16) (h : s.srm.spares[j].isMoving = true) :
    s.releaseSpare.srm.spares[j] = .free := by
  unfold State.releaseSpare
  split
  · rename_i hm
    rw [s.moving_none.1 hm j] at h
    cases h
  · rename_i i row p hm
    refine (s.setSpare_spare i j _).trans (if_pos (hl j i h ?_))
    rw [s.moving_some i row p hm]
    rfl

theorem WordOp.ofM_iff (o : WordOp) : o.ofM = true ↔ ∃ a, o = .moveCopy a := by
  cases o <;> simp [WordOp.ofM]

theorem State.restartMove_ret (s : State) :
    s.restartMove.ret = { s.ret with entries := s.ret.entries.map RowEntry.restarted } := by
  unfold State.restartMove
  dsimp only
  split
  · rfl
  · rw [(State.releaseSpare_frame s).2.2.2.2.2.1]

theorem State.restartMove_copying (s : State) (h : s.msq.port.any (fun g => g.op.ofM) = true) :
    s.restartMove.srm.spares = s.srm.spares := by
  unfold State.restartMove
  rw [if_pos h]

theorem State.restartMove_resting (s : State) (h : ¬ s.msq.port.any (fun g => g.op.ofM) = true) :
    s.restartMove.srm.spares = s.releaseSpare.srm.spares := by
  unfold State.restartMove
  rw [if_neg h]

/-- No spare is receiving a row any more, but for one whose copy is in flight (log entry 25). -/
theorem State.restartMove_move (s : State) :
    (∀ i : Fin 16, s.srm.spares[i].isMoving = false → s.restartMove.srm.spares[i] = s.srm.spares[i]) ∧
    ((∀ g a, s.msq.port = some g → g.op ≠ .moveCopy a) → MoveLaw s →
      ∀ i : Fin 16, s.restartMove.srm.spares[i].isMoving = false ∧
        (s.srm.spares[i].isMoving = true → s.restartMove.srm.spares[i] = .free)) := by
  refine ⟨fun i hi => ?_, fun hno hl i => ?_⟩
  · by_cases h : s.msq.port.any (fun g => g.op.ofM) = true
    · simp only [s.restartMove_copying h]
    · simp only [s.restartMove_resting h]
      exact s.releaseSpare_still i hi
  · have h : ¬ s.msq.port.any (fun g => g.op.ofM) = true := by
      intro h
      obtain ⟨g, hg, hM⟩ := (Option.any_eq_true _ _).1 h
      obtain ⟨a, ha⟩ := (WordOp.ofM_iff _).1 hM
      exact hno g a hg ha
    simp only [s.restartMove_resting h]
    cases hi : s.srm.spares[i].isMoving with
    | true =>
      have hf := s.releaseSpare_frees hl i hi
      exact ⟨(congrArg Spare.isMoving hf).trans rfl, fun _ => hf⟩
    | false => exact ⟨(congrArg Spare.isMoving (s.releaseSpare_still i hi)).trans hi, nofun⟩

/-! ### The blocks (Table 12.6) -/

/-- The part when the services have ended and the group in flight is no one's. -/
def State.restartOver (s : State) : State := (s.endServices serviceEndedReason false).orphanGroup

@[simp] theorem State.restartOver_frame (s : State) :
    s.restartOver.ret = s.ret ∧ s.restartOver.srm = s.srm ∧ s.restartOver.mdc = s.mdc := by
  unfold State.restartOver
  simp

theorem Rgt.initial_entry (i : Fin 32) : Rgt.initial.table[i] = none := Vector.getElem_replicate _

theorem Dgu.initial_record (i : Fin 32) : Dgu.initial.records[i] = DigestRecord.initial := Vector.getElem_replicate _

theorem State.restart_mdc (s : State) : s.restart.mdc = { s.mdc with mode := .start, chen := false } := by
  have h : s.restart.mdc = { s.restartOver.restartMove.mdc with mode := .start, chen := false } := rfl
  rw [h]
  simp

/-- The group in flight, which no block waits for. -/
theorem State.restartOver_msq (s : State) : s.restartOver.msq = { s.msq with port := s.msq.port.map Group.orphan } :=
  s.endServices_orphan _ _

theorem State.restart_msq (s : State) : s.restart.msq = { s.msq with port := s.msq.port.map Group.orphan } :=
  ((State.restartMove_frame s.restartOver).2.2.2.2.1).trans s.restartOver_msq

theorem State.restart_ret (s : State) :
    s.restart.ret = { s.ret with entries := s.ret.entries.map RowEntry.restarted } := by
  have h : s.restart.ret = s.restartOver.restartMove.ret := rfl
  rw [h, State.restartMove_ret]
  simp

/-- The spares: the move in flight has ended, and one that waited does not start (R51, log entries 24 and 25). -/
theorem State.restart_spares (s : State) :
    (∀ i : Fin 16, s.srm.spares[i].isMoving = false → s.restart.srm.spares[i] = s.srm.spares[i]) ∧
    ((∀ g a, s.msq.port = some g → g.op ≠ .moveCopy a) → MoveLaw s →
      ∀ i : Fin 16, s.restart.srm.spares[i].isMoving = false ∧
        (s.srm.spares[i].isMoving = true → s.restart.srm.spares[i] = .free)) ∧
    s.restart.srm.startWaiting = none := by
  have h := s.restartOver.restartMove_move
  unfold MoveLaw at h
  simp only [State.restartOver_frame, State.restartOver_msq, Option.map_eq_some_iff] at h
  refine ⟨h.1, fun hno hl => h.2 ?_ hl, rfl⟩
  rintro _ a ⟨g, hg, rfl⟩
  exact hno g a hg

/-- A port keeps all but the frame in work, its partner's absence and flags, and the ABANDON offered. -/
theorem State.restart_link (s : State) (p : Port) : s.restart.link p = { s.link p with
    work := none, tx := ((s.servicesOver serviceEndedReason false).link p).tx
    partner := { (s.link p).partner with absence := 0, lost := false, suspect := false } } := by
  have h : s.restart.link p = ((s.endServices serviceEndedReason false).link p).restarted := by
    have hlkc : s.restartOver.restartMove.lkc = (s.endServices serviceEndedReason false).lkc := by
      rw [(State.restartMove_frame _).2.2.2.2.2.2.2.1]
      rfl
    cases p
    · exact congrArg (fun l : Lkc => l.a.restarted) hlkc
    · exact congrArg (fun l : Lkc => l.b.restarted) hlkc
  rw [h, s.endServices_link, s.servicesOver_link]
  rfl

/-- The events of the services' ends, and MODE_CHANGED. -/
theorem State.restart_evu (s : State) :
    (∀ ev, FlagSet s.restart ev ↔ FlagSet s ev ∨ ev = .modeChanged ∨ (ev = .serviceEnded ∧
      (s.rse.service ≠ none ∨ s.rse.reentry ≠ none ∨ s.rse.repair ≠ none))) ∧
    (∀ c : Counter, c ≠ .txDrop → s.restart.evu.counters[c.index] = s.evu.counters[c.index]) ∧
    CapturesKept s s.restart ∧ TimeKept s s.restart := by
  have hr := s.endServices_reported serviceEndedReason false
  have he : s.restart.evu = ((s.endServices serviceEndedReason false).fire .modeChanged).evu := by
    show (s.restartOver.restartMove.evu).report s.restartOver.restartMove.cmi.settings _ = _
    rw [(State.restartMove_frame _).2.2.2.2.2.2.2.2.2.2.2.1, (State.restartMove_frame _).2.2.2.2.2.2.2.2.2.2.2.2.1]
    rfl
  obtain ⟨hcounters, htime, hcaptures⟩ := State.fire_evu (s.endServices serviceEndedReason false) .modeChanged
  refine ⟨fun ev => ?_, fun c hc => ?_, fun k => ?_, ?_⟩
  · have hf := hr.flags ev
    unfold FlagSet at hf ⊢
    rw [he, State.fire_flag, Bool.or_eq_true, hf, decide_eq_true_iff]
    tauto
  · rw [he, hcounters, hr.counters c hc]
  · rw [he, hcaptures, hr.captures k]
  · have ht := hr.time
    unfold TimeKept at ht ⊢
    rw [he, htime, ht]

/-- Settles O37. -/
theorem restartReturnsToStart : Obligations.RestartReturnsToStart := by
  intro s hb
  obtain ⟨hcmd, x, ws, ht⟩ := s.issue_changed 4 [] State.cmdRestart (s.presented 4 []).restart .done [] hb (by simp) rfl
    (by simp) (by simp)
  refine ⟨_, rfl, hcmd, ?_⟩
  rw [ht, s.presented_words]
  let y : State := { s with cmi := { s.cmi with words := (s.presented 4 []).cmi.words } }
  obtain ⟨hstill, hfreed, hwait⟩ := y.restart_spares
  obtain ⟨hflags, hcounters, hcaptures, htime⟩ := y.restart_evu
  have htx (p : Port) : (y.restart.link p).tx = ((y.servicesOver serviceEndedReason false).link p).tx := by
    rw [y.restart_link]
  refine ⟨y.restart_mdc, Rgt.initial_entry, rfl, Dgu.initial_record, rfl, rfl, rfl, rfl, rfl, rfl, rfl, rfl, y.restart_ret,
    hstill, hfreed, fun p => ?_, fun hs hr hp p => ?_, fun v hs hr hp => ?_, fun v hr hs hp => ?_, fun v hp hs hr => ?_,
    hflags, hcounters, hcaptures, htime, hwait, y.restart_msq, State.eq_of_blocks ?_⟩
  · exact ⟨congrArg LinkPort.work (y.restart_link p), (y.restart_link p).trans (by rw [← htx]; rfl)⟩
  · exact (htx p).trans (by rw [y.servicesOver_quiet _ _ hs hr hp]; rfl)
  · exact (htx v.port).trans (y.servicesOver_service _ _ v hs hr hp)
  · exact (htx v.asked).trans (y.servicesOver_reentry _ _ v hr hs hp)
  · obtain ⟨hasked, hnone, hother⟩ := y.servicesOver_repair serviceEndedReason v hp hs hr
    exact ⟨fun h => (htx _).trans (hasked h), fun hA hB => (htx _).trans (hnone hA hB), fun q hq => (htx q).trans (hother q hq)⟩
  · simp

end Sys2Proof.Machine
end

section
/-! The row error table and the spares through every operation (R37, R44): one relation says the three laws of O7 of the entries
and the spares that an operation leaves, so that each operation is walked through once. -/

namespace Sys2Proof.Machine

/-! ### The laws of the entries and the spares -/

/-- R44: at most one spare is MOVING. -/
def OneMoving (sp : Vector Spare 16) : Prop :=
  ∀ i j : Fin 16, sp[i].isMoving = true → sp[j].isMoving = true → i = j

/-- R44: what RowMapLaw says of the spares and the entries, in a part with so many rows. -/
def RowsMapped (n : Nat) (es : List RowEntry) (sp : Vector Spare 16) : Prop :=
  (∀ (i j : Fin 16) r, sp[i].row = some r → sp[j].row = some r → i = j) ∧
    (∀ (i : Fin 16) r a, sp[i] = .active r a → r < n - 16 ∧
      (∃ e ∈ es, e.row = r) ∧ ∀ e ∈ es, e.row = r → e.state = .replaced) ∧
    ∀ (i : Fin 16) row p, sp[i] = .moving row p → ∃ e ∈ es, e.row = row ∧ e.state ≠ .tracking

/-- The laws of O7 that held in `r` hold of these entries and spares. -/
structure RowsKept (r : State) (es : List RowEntry) (sp : Vector Spare 16) : Prop where
  table : RowTableLaw r → es.length ≤ 64 ∧ (es.map (·.row)).Nodup
  move : MoveLaw r → OneMoving sp
  map : RowMapLaw r → RowsMapped r.rows es sp

variable {r s : State} {es : List RowEntry} {sp : Vector Spare 16}

theorem RowsKept.refl (s : State) : RowsKept s s.ret.entries s.srm.spares := ⟨id, id, id⟩

/-- The laws of a state that has the size of `r`. -/
theorem RowsKept.laws {t : State} (h : RowsKept r t.ret.entries t.srm.spares) (hm : t.msize = r.msize) :
    (RowTableLaw r → RowTableLaw t) ∧ (MoveLaw r → MoveLaw t) ∧ (RowMapLaw r → RowMapLaw t) := by
  refine ⟨h.table, h.move, fun hr => ?_⟩
  have hn : t.rows = r.rows := by unfold State.rows; rw [hm]
  have hx := h.map hr
  rw [← hn] at hx
  exact hx

/-! ### Entries that change under spares that stand -/

/-- Entries changed in their rows, where REPLACED stays and no entry becomes TRACKING. -/
theorem RowsKept.mapEntries (h : RowsKept r es sp) (f : RowEntry → RowEntry) (hrow : ∀ e, (f e).row = e.row)
    (hrep : ∀ e, e.state = .replaced → (f e).state = .replaced)
    (htrk : ∀ e, e.state ≠ .tracking → (f e).state ≠ .tracking) : RowsKept r (es.map f) sp where
  table ht := by
    have hm : (es.map f).map (·.row) = es.map (·.row) := by simp [hrow]
    rw [hm, List.length_map]
    exact h.table ht
  move := h.move
  map hr := by
    obtain ⟨hu, ha, hm⟩ := h.map hr
    refine ⟨hu, fun i row a hi => ?_, fun i row p hi => ?_⟩
    · obtain ⟨hlt, ⟨e, he, hrw⟩, hall⟩ := ha i row a hi
      refine ⟨hlt, ⟨f e, List.mem_map_of_mem he, (hrow e).trans hrw⟩, fun x hx hxr => ?_⟩
      obtain ⟨y, hy, rfl⟩ := List.mem_map.1 hx
      exact hrep y (hall y hy ((hrow y).symm.trans hxr))
    · obtain ⟨e, he, hrw, hst⟩ := hm i row p hi
      exact ⟨f e, List.mem_map_of_mem he, (hrow e).trans hrw, htrk e hst⟩

/-- Entries removed that are TRACKING (R40). -/
theorem RowsKept.filterEntries (h : RowsKept r es sp) (keep : RowEntry → Bool)
    (hk : ∀ e, e.state ≠ .tracking → keep e = true) : RowsKept r (es.filter keep) sp where
  table ht := by
    obtain ⟨hl, hn⟩ := h.table ht
    exact ⟨(List.length_filter_le _ _).trans hl, hn.sublist (List.filter_sublist.map _)⟩
  move := h.move
  map hr := by
    obtain ⟨hu, ha, hm⟩ := h.map hr
    refine ⟨hu, fun i row a hi => ?_, fun i row p hi => ?_⟩
    · obtain ⟨hlt, ⟨e, he, hrw⟩, hall⟩ := ha i row a hi
      have hs := hall e he hrw
      exact ⟨hlt, ⟨e, List.mem_filter.2 ⟨he, hk e (by rw [hs]; decide)⟩, hrw⟩,
        fun x hx => hall x (List.mem_of_mem_filter hx)⟩
    · obtain ⟨e, he, hrw, hst⟩ := hm i row p hi
      exact ⟨e, List.mem_filter.2 ⟨he, hk e hst⟩, hrw, hst⟩

/-- An entry added for a row that has none, while fewer than 64 are held (R38). -/
theorem RowsKept.addEntry (h : RowsKept r es sp) (x : RowEntry) (hx : ∀ e ∈ es, e.row ≠ x.row) (hl : es.length < 64) :
    RowsKept r (es ++ [x]) sp where
  table ht := by
    obtain ⟨-, hn⟩ := h.table ht
    refine ⟨by simpa using hl, ?_⟩
    rw [List.map_append, List.nodup_append]
    refine ⟨hn, by simp, fun a ha b hb => ?_⟩
    obtain ⟨e, he, rfl⟩ := List.mem_map.1 ha
    obtain rfl : b = x.row := by simpa using hb
    exact hx e he
  move := h.move
  map hr := by
    obtain ⟨hu, ha, hm⟩ := h.map hr
    refine ⟨hu, fun i row a hi => ?_, fun i row p hi => ?_⟩
    · obtain ⟨hlt, ⟨e, he, hrw⟩, hall⟩ := ha i row a hi
      refine ⟨hlt, ⟨e, List.mem_append_left _ he, hrw⟩, fun y hy hyr => ?_⟩
      obtain hy | hy := List.mem_append.1 hy
      · exact hall y hy hyr
      · obtain rfl : y = x := by simpa using hy
        exact absurd (hrw.trans hyr.symm) (hx e he)
    · obtain ⟨e, he, hrw⟩ := hm i row p hi
      exact ⟨e, List.mem_append_left _ he, hrw⟩

/-! ### One spare that changes -/

theorem spares_set (sp : Vector Spare 16) (i j : Fin 16) (x : Spare) : (sp.set i x)[j] = if j = i then x else sp[j] := by
  simp only [Fin.getElem_fin, Vector.getElem_set, Fin.ext_iff, eq_comm]

/-- One spare changed: it is MOVING afterwards only where no other one is. -/
theorem OneMoving.set (h : OneMoving sp) (i : Fin 16) (x : Spare)
    (hx : x.isMoving = true → ∀ j, j ≠ i → sp[j].isMoving = false) : OneMoving (sp.set i x) := by
  intro a b ha hb
  rw [spares_set] at ha hb
  by_cases hai : a = i <;> by_cases hbi : b = i
  · rw [hai, hbi]
  · rw [if_pos hai] at ha; rw [if_neg hbi, hx ha b hbi] at hb; cases hb
  · rw [if_pos hbi] at hb; rw [if_neg hai, hx hb a hai] at ha; cases ha
  · rw [if_neg hai] at ha; rw [if_neg hbi] at hb; exact h a b ha hb

/-- A spare that no longer replaces a row (R48, R49, R51). -/
theorem RowsKept.dropSpare (h : RowsKept r es sp) (i : Fin 16) (x : Spare) (hx : x.row = none) :
    RowsKept r es (sp.set i x) where
  table := h.table
  move hr := (h.move hr).set i x fun hm => by cases x <;> cases hx <;> cases hm
  map hr := by
    obtain ⟨hu, ha, hm⟩ := h.map hr
    refine ⟨fun a b row hra hrb => ?_, fun j row t hj => ?_, fun j row p hj => ?_⟩
    · rw [spares_set] at hra hrb
      split at hra
      · rw [hx] at hra; cases hra
      · split at hrb
        · rw [hx] at hrb; cases hrb
        · exact hu a b row hra hrb
    · rw [spares_set] at hj
      split at hj
      · rw [hj] at hx; cases hx
      · exact ha j row t hj
    · rw [spares_set] at hj
      split at hj
      · rw [hj] at hx; cases hx
      · exact hm j row p hj

/-! ### A row move (R46 to R49) -/

theorem mem_setRowState {row : Nat} {st : RowState} {x : RowEntry} (h : x ∈ setRowState row st es) :
    ∃ e ∈ es, e.row = x.row ∧ x.state = if e.row = row then st else e.state := by
  obtain ⟨e, he, rfl⟩ := List.mem_map.1 h
  refine ⟨e, he, ?_⟩
  split <;> exact ⟨rfl, rfl⟩

theorem setRowState_mem {row : Nat} {st : RowState} {e : RowEntry} (h : e ∈ es) :
    ∃ x ∈ setRowState row st es, x.row = e.row ∧ x.state = if e.row = row then st else e.state := by
  refine ⟨_, List.mem_map_of_mem h, ?_⟩
  split <;> exact ⟨rfl, rfl⟩

/-- The entry of a row that no ACTIVE spare holds takes a state other than TRACKING. -/
theorem RowsKept.markRow (h : RowsKept r es sp) (row : Nat) (st : RowState) (hst : st ≠ .tracking)
    (hna : RowMapLaw r → ∀ (j : Fin 16) t, sp[j] ≠ .active row t) : RowsKept r (setRowState row st es) sp where
  table hr := by
    rw [setRowState_rows]
    exact ⟨(List.length_map _).trans_le (h.table hr).1, (h.table hr).2⟩
  move := h.move
  map hr := by
    obtain ⟨hu, ha, hm⟩ := h.map hr
    refine ⟨hu, fun i row' t hi => ?_, fun i row' p hi => ?_⟩
    · obtain ⟨hlt, ⟨e, he, hrw⟩, hall⟩ := ha i row' t hi
      have hne : row' ≠ row := by rintro rfl; exact hna hr i t hi
      obtain ⟨x, hx, hxr, -⟩ := setRowState_mem (row := row) (st := st) he
      refine ⟨hlt, ⟨x, hx, hxr.trans hrw⟩, fun y hy hyr => ?_⟩
      obtain ⟨z, hz, hzr, hzs⟩ := mem_setRowState hy
      rw [hzs, if_neg (by rw [hzr, hyr]; exact hne)]
      exact hall z hz (hzr.trans hyr)
    · obtain ⟨e, he, hrw, hs⟩ := hm i row' p hi
      obtain ⟨x, hx, hxr, hxs⟩ := setRowState_mem (row := row) (st := st) he
      refine ⟨x, hx, hxr.trans hrw, ?_⟩
      rw [hxs]; split
      · exact hst
      · exact hs

/-- The row that a MOVING spare copies is held by no ACTIVE spare. -/
theorem RowsMapped.moving_not_active {n : Nat} (h : RowsMapped n es sp) {i : Fin 16} {row p : Nat}
    (hi : sp[i] = .moving row p) (j : Fin 16) (t : Word) : sp[j] ≠ .active row t := by
  intro hj
  obtain rfl := h.1 i j row (by rw [hi]; rfl) (by rw [hj]; rfl)
  rw [hi] at hj; cases hj

/-- A move starts out of a WEAK row while no other is in flight (R45, R46). -/
theorem RowsKept.beginMove (h : RowsKept r es sp) (i : Fin 16) (row : Nat)
    (hno : ∀ j : Fin 16, sp[j].isMoving = false) (hw : ∃ e ∈ es, e.row = row ∧ e.state = .weak) :
    RowsKept r (setRowState row .moving es) (sp.set i (.moving row 0)) := by
  obtain ⟨e, he, hrw, hs⟩ := hw
  have hna (hr : RowMapLaw r) (j : Fin 16) (t : Word) : sp[j] ≠ .active row t := fun hj => by
    have := ((h.map hr).2.1 j row t hj).2.2 e he hrw
    rw [hs] at this; cases this
  have hrow (hr : RowMapLaw r) (j : Fin 16) : sp[j].row ≠ some row := fun hj => by
    have := hno j
    cases hx : sp[j] with
    | free => rw [hx] at hj; cases hj
    | retired t => rw [hx] at hj; cases hj
    | moving q p => rw [hx] at this; cases this
    | active q t => rw [hx] at hj; cases hj; exact hna hr j t hx
  have k := h.markRow row .moving (by decide) hna
  refine ⟨k.table, fun hr => (k.move hr).set i _ fun _ j _ => hno j, fun hr => ?_⟩
  obtain ⟨hu, ha, hm⟩ := k.map hr
  refine ⟨fun a b q hqa hqb => ?_, fun j q t hj => ?_, fun j q p hj => ?_⟩
  · rw [spares_set] at hqa hqb
    by_cases hai : a = i <;> by_cases hbi : b = i
    · rw [hai, hbi]
    · rw [if_pos hai] at hqa; rw [if_neg hbi] at hqb; cases hqa; exact absurd hqb (hrow hr b)
    · rw [if_neg hai] at hqa; rw [if_pos hbi] at hqb; cases hqb; exact absurd hqa (hrow hr a)
    · rw [if_neg hai] at hqa; rw [if_neg hbi] at hqb; exact hu a b q hqa hqb
  · rw [spares_set] at hj
    split at hj
    · cases hj
    · exact ha j q t hj
  · rw [spares_set] at hj
    split at hj
    · cases hj
      obtain ⟨x, hx, hxr, hxs⟩ := setRowState_mem (row := row) (st := .moving) he
      rw [if_pos hrw] at hxs
      exact ⟨x, hx, hxr.trans hrw, by rw [hxs]; decide⟩
    · exact hm j q p hj

/-- The copy pointer moves on (R47). -/
theorem RowsKept.movePointer (h : RowsKept r es sp) {i : Fin 16} {row p : Nat} (q : Nat) (hi : sp[i] = .moving row p) :
    RowsKept r es (sp.set i (.moving row q)) where
  table := h.table
  move hr := (h.move hr).set i _ fun _ j hj => by
    by_contra hm
    exact hj (h.move hr j i (by simpa using hm) (by rw [hi]; rfl))
  map hr := by
    have hrow (j : Fin 16) : (sp.set i (.moving row q))[j].row = sp[j].row := by
      rw [spares_set]; split
      · rename_i hj; rw [hj, hi]; rfl
      · rfl
    obtain ⟨hu, ha, hm⟩ := h.map hr
    refine ⟨fun a b x hxa hxb => hu a b x (hrow a ▸ hxa) (hrow b ▸ hxb), fun j x t hj => ?_, fun j x p' hj => ?_⟩
    · rw [spares_set] at hj
      split at hj
      · cases hj
      · exact ha j x t hj
    · rw [spares_set] at hj
      split at hj
      · cases hj; exact hm i row p hi
      · exact hm j x p' hj

/-- A MOVING spare becomes ACTIVE for a row that no other spare replaces and whose entry is REPLACED (R48). -/
theorem RowsKept.activate (h : RowsKept r es sp) (i : Fin 16) (l : Nat) (t : Word)
    (hother : RowMapLaw r → ∀ j : Fin 16, j ≠ i → sp[j].row ≠ some l)
    (hl : RowMapLaw r → l < r.rows - 16 ∧ (∃ e ∈ es, e.row = l) ∧ ∀ e ∈ es, e.row = l → e.state = .replaced) :
    RowsKept r es (sp.set i (.active l t)) where
  table := h.table
  move hr := (h.move hr).set i _ fun hm => by cases hm
  map hr := by
    obtain ⟨hu, ha, hm⟩ := h.map hr
    refine ⟨fun a b q hqa hqb => ?_, fun j q t' hj => ?_, fun j q p hj => ?_⟩
    · rw [spares_set] at hqa hqb
      by_cases hai : a = i <;> by_cases hbi : b = i
      · rw [hai, hbi]
      · rw [if_pos hai] at hqa; rw [if_neg hbi] at hqb; cases hqa; exact absurd hqb (hother hr b hbi)
      · rw [if_neg hai] at hqa; rw [if_pos hbi] at hqb; cases hqb; exact absurd hqa (hother hr a hai)
      · rw [if_neg hai] at hqa; rw [if_neg hbi] at hqb; exact hu a b q hqa hqb
    · rw [spares_set] at hj
      split at hj
      · cases hj; exact hl hr
      · exact ha j q t' hj
    · rw [spares_set] at hj
      split at hj
      · cases hj
      · exact hm j q p hj

end Sys2Proof.Machine
end

section
/-! The row laws through the operations of the row error table and the spares (R38 to R51). -/

namespace Sys2Proof.Machine

variable {r s : State}

@[simp] theorem State.setEntries_entries (s : State) (es : List RowEntry) : (s.setEntries es).ret.entries = es := rfl

/-! ### Choosing and starting a move (R45, R46) -/

theorem RowsKept.startMove (h : RowsKept r s.ret.entries s.srm.spares) (i : Fin 16) (row : Nat)
    (hno : s.moving = none) (hw : ∃ e ∈ s.ret.entries, e.row = row ∧ e.state = .weak) :
    RowsKept r (s.startMove i row).ret.entries (s.startMove i row).srm.spares :=
  h.beginMove i row (s.moving_none.1 hno) hw

theorem State.oldestWeak_mem (s : State) (e : RowEntry) (h : s.oldestWeak = some e) :
    e ∈ s.ret.entries ∧ e.state = .weak := by
  obtain ⟨hw, k, hk, -⟩ := (s.oldestWeak_some e).1 h
  exact ⟨List.mem_of_getElem? hk, hw⟩

/-- A move that starts at once starts with none in flight: the copy of one that RESTART has ended is still in flight. -/
@[simp] theorem RowsKept.chooseMove (h : RowsKept r s.ret.entries s.srm.spares) :
    RowsKept r s.chooseMove.ret.entries s.chooseMove.srm.spares := by
  unfold State.chooseMove
  split
  · exact h
  · rename_i e hweak
    split
    · exact h
    · split
      · exact h
      · rename_i i _ hport
        unfold State.weakToMove at hweak
        split at hweak
        · rename_i hmay
          obtain ⟨he, hs⟩ := s.oldestWeak_mem e hweak
          have hended : s.endedMove = false := by
            unfold State.endedMove
            rw [Option.not_isSome_iff_eq_none.1 hport]; rfl
          have hno : s.moving = none := by simpa [State.noMove, hended] using (Bool.and_eq_true_iff.1 (Bool.and_eq_true_iff.1 hmay).1).1
          exact h.startMove i e.row hno ⟨e, he, rfl, hs⟩
        · cases hweak

@[simp] theorem RowsKept.startChosen (h : RowsKept r s.ret.entries s.srm.spares) (row : Nat) :
    RowsKept r (s.startChosen row).ret.entries (s.startChosen row).srm.spares := by
  unfold State.startChosen
  split
  · split
    · rename_i i _ hmay
      obtain ⟨hno, hany⟩ := Bool.and_eq_true_iff.1 hmay
      obtain ⟨e, he, hx⟩ := List.any_eq_true.1 hany
      exact h.startMove i row (by simpa using hno) ⟨e, he, by simpa using hx⟩
    · exact h
  · exact h

@[simp] theorem RowsKept.endGroup (h : RowsKept r s.ret.entries s.srm.spares) :
    RowsKept r s.endGroup.ret.entries s.endGroup.srm.spares := by
  unfold State.endGroup
  dsimp only
  split
  · exact RowsKept.startChosen (s := { s with
      msq := { s.msq with port := none }, srm := { s.srm with startWaiting := none } }) h _
  · exact h

/-! ### Reports, ageing and WEAK_LIMIT (R38 to R41) -/

theorem RowEntry.weakened_keeps (e : RowEntry) (limit : Nat) : (e.weakened limit).row = e.row ∧
    (e.state = .replaced → (e.weakened limit).state = .replaced) ∧
    (e.state ≠ .tracking → (e.weakened limit).state ≠ .tracking) := by
  unfold RowEntry.weakened RowEntry.turnsWeak
  split
  · rename_i hw
    have ht : e.state = .tracking := by simpa using (Bool.and_eq_true_iff.1 hw).1
    exact ⟨rfl, fun hr => (by rw [ht] at hr; cases hr), fun hn => absurd ht hn⟩
  · exact ⟨rfl, id, id⟩

theorem RowsKept.hitRow (h : RowsKept r s.ret.entries s.srm.spares) (e : RowEntry) (w : Nat) :
    RowsKept r (s.hitRow e w).ret.entries (s.hitRow e w).srm.spares := by
  have hs : RowsKept r (s.ret.entries.map (fun x =>
      if x.row = e.row then (x.hit w).weakened s.cmi.settings.weakLimit else x)) s.srm.spares := by
    refine h.mapEntries _ (fun x => ?_) (fun x => ?_) fun x => ?_
    all_goals
      have hx := (x.hit w).weakened_keeps s.cmi.settings.weakLimit
      split
    · exact hx.1
    · rfl
    · exact hx.2.1
    · exact id
    · exact hx.2.2
    · exact id
  unfold State.hitRow
  dsimp only
  split
  · exact RowsKept.chooseMove (s := (s.setEntries _).fire .rowWeak) hs
  · exact hs

@[simp] theorem RowsKept.reportRow (h : RowsKept r s.ret.entries s.srm.spares) (row w : Nat) :
    RowsKept r (s.reportRow row w).ret.entries (s.reportRow row w).srm.spares := by
  unfold State.reportRow
  split
  · exact h.hitRow _ _
  · rename_i hnone
    unfold State.newRow
    split
    · rename_i hl
      refine h.addEntry _ (fun e he => ?_) hl
      simpa using List.find?_eq_none.1 hnone e he
    · simpa using h

@[simp] theorem RowsKept.sweep (h : RowsKept r s.ret.entries s.srm.spares) :
    RowsKept r s.sweep.ret.entries s.sweep.srm.spares := by
  have hs : RowsKept r (sweepEntries s.ret.entries) s.srm.spares := by
    refine (h.filterEntries _ fun e he => ?_).mapEntries _ (fun _ => rfl) (fun e he => ?_) fun e he => ?_
    · simp [he]
    · simp [he]
    · dsimp only
      split
      · decide
      · exact he
  unfold State.sweep
  dsimp only
  split
  · exact RowsKept.chooseMove (s := { s with
      ret := { entries := sweepEntries s.ret.entries, ageing := 0, sweepDue := false } }) hs
  · exact hs

@[simp] theorem RowsKept.applyWeakLimit (h : RowsKept r s.ret.entries s.srm.spares) :
    RowsKept r s.applyWeakLimit.ret.entries s.applyWeakLimit.srm.spares := by
  have hs : RowsKept r (s.ret.entries.map (·.weakened s.cmi.settings.weakLimit)) s.srm.spares :=
    h.mapEntries _ (fun e => (e.weakened_keeps _).1) (fun e => (e.weakened_keeps _).2.1) fun e => (e.weakened_keeps _).2.2
  unfold State.applyWeakLimit
  dsimp only
  split
  · exact RowsKept.chooseMove (s := (s.setEntries _).fire .rowWeak) hs
  · exact hs

/-! ### The ends of a move (R47 to R49, R51) -/

/-- What the physical row of a MOVING spare serves (R46): the row itself, or the row that an ACTIVE spare holds. -/
theorem State.logicalOf_cases (s : State) (row l : Nat) (h : s.logicalOf row = some l) :
    l = row ∧ row < s.rows - 16 ∨ ∃ (j : Fin 16) (t : Word), s.srm.spares[j] = .active l t := by
  unfold State.logicalOf at h
  split at h
  · rename_i hlt
    cases h
    exact .inl ⟨rfl, hlt⟩
  · obtain ⟨j, -, hj⟩ := List.exists_of_findSome?_eq_some h
    split at hj
    · rename_i q t hx
      split at hj
      · cases hj; exact .inr ⟨j, t, hx⟩
      · cases hj
    · cases hj

theorem State.activeSpare_cases (s : State) (l : Nat) :
    (∃ (j : Fin 16) (t : Word), s.activeSpare l = some j ∧ s.srm.spares[j] = .active l t) ∨
      s.activeSpare l = none ∧ ∀ (j : Fin 16) t, s.srm.spares[j] ≠ .active l t := by
  cases h : s.activeSpare l with
  | none =>
    refine .inr ⟨rfl, fun j t hj => ?_⟩
    have hx := List.find?_eq_none.1 h j (List.mem_finRange j)
    rw [hj] at hx
    simp at hx
  | some j =>
    have hx := List.find?_some h
    split at hx
    · rename_i q t hq
      obtain rfl : q = l := by simpa using hx
      exact .inl ⟨j, t, rfl, hq⟩
    · cases hx

/-- A move completes: the spare that held the row before is RETIRED, and the MOVING one becomes ACTIVE for it. -/
theorem RowsKept.completeMove (h : RowsKept r s.ret.entries s.srm.spares) (hn : s.rows = r.rows) {i : Fin 16} {row p : Nat}
    (hi : s.srm.spares[i] = .moving row p) :
    RowsKept r (s.completeMove i row).ret.entries (s.completeMove i row).srm.spares := by
  unfold State.completeMove
  cases hl : s.logicalOf row with
  | none => exact h.dropSpare i .free rfl
  | some l =>
    have hmark := h.markRow row .replaced (by decide) fun hr => (h.map hr).moving_not_active hi
    have hready (hr : RowMapLaw r) : l < r.rows - 16 ∧ (∃ e ∈ setRowState row .replaced s.ret.entries, e.row = l) ∧
        ∀ e ∈ setRowState row .replaced s.ret.entries, e.row = l → e.state = .replaced := by
      obtain ⟨-, ha, hm⟩ := hmark.map hr
      obtain ⟨rfl, hlt⟩ | ⟨j, u, hj⟩ := s.logicalOf_cases row l hl
      · obtain ⟨e, he, hrw, -⟩ := hm i l p hi
        exact ⟨hn ▸ hlt, ⟨e, he, hrw⟩, setRowState_state l .replaced _⟩
      · exact ha j l u hj
    obtain ⟨j, u, hact, hj⟩ | ⟨hact, hnone⟩ := s.activeSpare_cases l
    · simp only [hact, hj]
      refine RowsKept.chooseMove (s := (State.setEntries _ _).fire .rowSubstituted)
        ((hmark.dropSpare j (.retired u) rfl).activate i l _ (fun hr k _ hrow => ?_) hready)
      rw [spares_set] at hrow
      split at hrow
      · cases hrow
      · rename_i hkj
        exact hkj ((h.map hr).1 k j l hrow (by rw [hj]; rfl))
    · simp only [hact]
      refine RowsKept.chooseMove (s := (State.setEntries _ _).fire .rowSubstituted)
        (hmark.activate i l _ (fun hr k hki hrow => ?_) hready)
      obtain ⟨rfl, -⟩ | ⟨j, u, hj⟩ := s.logicalOf_cases row l hl
      · exact hki ((h.map hr).1 k i l hrow (by rw [hi]; rfl))
      · exact hnone j u hj

theorem RowsKept.advanceMove (h : RowsKept r s.ret.entries s.srm.spares) (hn : s.msize = r.msize) :
    RowsKept r s.advanceMove.ret.entries s.advanceMove.srm.spares := by
  unfold State.advanceMove
  split
  · exact h
  · rename_i i row p hm
    have hi := s.moving_some i row p hm
    split
    · exact h.completeMove (by unfold State.rows; rw [hn]) hi
    · exact h.movePointer (p + 1) hi

@[simp] theorem RowsKept.releaseSpare (h : RowsKept r s.ret.entries s.srm.spares) :
    RowsKept r s.releaseSpare.ret.entries s.releaseSpare.srm.spares := by
  unfold State.releaseSpare
  split
  · exact h
  · exact h.dropSpare _ .free rfl

@[simp] theorem RowsKept.failMove (h : RowsKept r s.ret.entries s.srm.spares) :
    RowsKept r s.failMove.ret.entries s.failMove.srm.spares := by
  unfold State.failMove
  split
  · exact h
  · rename_i i row p hm
    have hna (hr : RowMapLaw r) := (h.map hr).moving_not_active (s.moving_some i row p hm)
    exact RowsKept.chooseMove (s := ((s.setSpare i .free).setEntries _).fire .moveFailed)
      ((h.markRow row .moveFailed (by decide) hna).dropSpare i .free rfl)

theorem RowsKept.restartMove (h : RowsKept r s.ret.entries s.srm.spares) :
    RowsKept r s.restartMove.ret.entries s.restartMove.srm.spares := by
  have hs (x : State) (hx : RowsKept r x.ret.entries x.srm.spares) :
      RowsKept r (x.ret.entries.map RowEntry.restarted) x.srm.spares := by
    unfold RowEntry.restarted
    refine hx.mapEntries _ (fun e => by split <;> rfl) (fun e he => ?_) fun e he => ?_
    · rw [if_neg (by rw [he]; decide)]; exact he
    · split
      · exact RowState.noConfusion
      · exact he
  unfold State.restartMove
  dsimp only
  split
  · exact hs s h
  · exact hs _ h.releaseSpare

end Sys2Proof.Machine
end

section
/-! The row laws through changes of mode, the vote, the audits and uncorrectable words. An operation that neither reports a row
nor gives an occasion to choose a move leaves the entries and the spares, as its frame lemma says. -/

namespace Sys2Proof.Machine

variable {r s : State}

/-! ### Changes of mode -/

@[simp] theorem RowsKept.moveOccasion (h : RowsKept r s.ret.entries s.srm.spares) (m : Mode) :
    RowsKept r (s.moveOccasion m).ret.entries (s.moveOccasion m).srm.spares := by
  unfold State.moveOccasion
  split <;> simp [h]

@[simp] theorem RowsKept.requestMode (h : RowsKept r s.ret.entries s.srm.spares) (m : Mode) :
    RowsKept r (s.requestMode m).ret.entries (s.requestMode m).srm.spares := by
  unfold State.requestMode State.enterMode
  dsimp only
  split
  · apply RowsKept.moveOccasion
    split <;> simp [h]
  · exact h

@[simp] theorem RowsKept.isolateFor (h : RowsKept r s.ret.entries s.srm.spares) (c : Cause) :
    RowsKept r (s.isolateFor c).ret.entries (s.isolateFor c).srm.spares := by
  unfold State.isolateFor State.enterIsolated
  dsimp only
  split
  · apply RowsKept.moveOccasion
    simpa using h
  · exact h

/-! ### The vote -/

@[simp] theorem RowsKept.uncheckedLimit (h : RowsKept r s.ret.entries s.srm.spares) :
    RowsKept r s.uncheckedLimit.ret.entries s.uncheckedLimit.srm.spares := by
  unfold State.uncheckedLimit
  split <;> simp [h]

@[simp] theorem RowsKept.syncLimit (h : RowsKept r s.ret.entries s.srm.spares) :
    RowsKept r s.syncLimit.ret.entries s.syncLimit.srm.spares := by
  unfold State.syncLimit
  split <;> simp [h]

@[simp] theorem RowsKept.voteConsequence (h : RowsKept r s.ret.entries s.srm.spares) (o : VoteOutcome) (x : RegionResult) :
    RowsKept r (s.voteConsequence o x).ret.entries (s.voteConsequence o x).srm.spares := by
  unfold State.voteConsequence State.syncOutcome State.runOutcome
  split
  · simp [h]
  · split <;> split <;> simp [h]

@[simp] theorem RowsKept.decideWith (h : RowsKept r s.ret.entries s.srm.spares) (v : VoteRecord) (l : Snapshot) :
    RowsKept r (s.decideWith v l).ret.entries (s.decideWith v l).srm.spares := by
  unfold State.decideWith
  simp [h]

@[simp] theorem RowsKept.decideRecord (h : RowsKept r s.ret.entries s.srm.spares) (c : Word) :
    RowsKept r (s.decideRecord c).ret.entries (s.decideRecord c).srm.spares := by
  unfold State.decideRecord
  split
  · exact h
  · split
    · split <;> simp [h]
    · exact h

@[simp] theorem RowsKept.decideIfComplete (h : RowsKept r s.ret.entries s.srm.spares) (c : Word) :
    RowsKept r (s.decideIfComplete c).ret.entries (s.decideIfComplete c).srm.spares := by
  unfold State.decideIfComplete
  split
  · exact h
  · split <;> simp [h]

@[simp] theorem RowsKept.takeSet (h : RowsKept r s.ret.entries s.srm.spares) (l m : Word) (p : Port) (x : PartnerSet) :
    RowsKept r (s.takeSet l m p x).ret.entries (s.takeSet l m p x).srm.spares := by
  unfold State.takeSet
  split
  · split
    · simp [h]
    · split <;> simp [h]
  · split <;> simp [h]

@[simp] theorem RowsKept.voteDigest (h : RowsKept r s.ret.entries s.srm.spares) (p : Port) (m : Word) (x : PartnerSet) :
    RowsKept r (s.voteDigest p m x).ret.entries (s.voteDigest p m x).srm.spares := by
  unfold State.voteDigest
  dsimp only
  split
  · split <;> simp [h]
  · simp [h]

@[simp] theorem RowsKept.voteLinkDown (h : RowsKept r s.ret.entries s.srm.spares) (p : Port) :
    RowsKept r (s.voteLinkDown p).ret.entries (s.voteLinkDown p).srm.spares := by
  unfold State.voteLinkDown
  dsimp only
  split <;> simp [h]

@[simp] theorem RowsKept.decideOthers (h : RowsKept r s.ret.entries s.srm.spares) (n : Word) :
    RowsKept r (s.decideOthers n).ret.entries (s.decideOthers n).srm.spares := by
  unfold State.decideOthers
  generalize s.vtu.records.map (·.cycle) = cs
  induction cs generalizing s with
  | nil => exact h
  | cons c cs ih =>
    rw [List.foldl_cons]
    split
    · exact ih h
    · exact ih (h.decideRecord c)

@[simp] theorem RowsKept.acceptMark (h : RowsKept r s.ret.entries s.srm.spares) (n : Word) :
    RowsKept r (s.acceptMark n).ret.entries (s.acceptMark n).srm.spares := by
  unfold State.acceptMark
  simp [h]

/-! ### Requests to a partner -/

@[simp] theorem RowsKept.seekCopy (k : Nat) (h : RowsKept r s.ret.entries s.srm.spares) :
    RowsKept r (State.seekCopy k s).ret.entries (State.seekCopy k s).srm.spares := by
  induction k generalizing s with
  | zero => exact h.isolateFor _
  | succ k ih =>
    unfold State.seekCopy
    split
    · exact h
    · split
      · exact h.isolateFor _
      · dsimp only
        split
        · simp [h]
        · exact ih (by simp [h])

@[simp] theorem RowsKept.seekBlock (k : Nat) (h : RowsKept r s.ret.entries s.srm.spares) :
    RowsKept r (State.seekBlock k s).ret.entries (State.seekBlock k s).srm.spares := by
  induction k generalizing s with
  | zero => exact h.isolateFor _
  | succ k ih =>
    unfold State.seekBlock
    split
    · exact h
    · split
      · exact h.isolateFor _
      · split
        · simp [h]
        · exact ih (by simp [h])

@[simp] theorem RowsKept.copyRefused (h : RowsKept r s.ret.entries s.srm.spares) :
    RowsKept r s.copyRefused.ret.entries s.copyRefused.srm.spares := h.seekCopy 3

@[simp] theorem RowsKept.blockRefused (h : RowsKept r s.ret.entries s.srm.spares) :
    RowsKept r s.blockRefused.ret.entries s.blockRefused.srm.spares := h.seekBlock 3

@[simp] theorem RowsKept.askFrom (h : RowsKept r s.ret.entries s.srm.spares) (p : Port) :
    RowsKept r (s.askFrom p).ret.entries (s.askFrom p).srm.spares := by
  unfold State.askFrom
  split
  · exact h
  · split <;> simp [h]

@[simp] theorem RowsKept.askFirst (h : RowsKept r s.ret.entries s.srm.spares) :
    RowsKept r s.askFirst.ret.entries s.askFirst.srm.spares := by
  unfold State.askFirst
  split <;> simp [h]

/-! ### Audits and uncorrectable words -/

@[simp] theorem RowsKept.repairFailed (h : RowsKept r s.ret.entries s.srm.spares) :
    RowsKept r s.repairFailed.ret.entries s.repairFailed.srm.spares := h.isolateFor _

@[simp] theorem RowsKept.repairSucceeded (h : RowsKept r s.ret.entries s.srm.spares) :
    RowsKept r s.repairSucceeded.ret.entries s.repairSucceeded.srm.spares := by
  unfold State.repairSucceeded
  simp [h]

@[simp] theorem RowsKept.enterRepairAudit (h : RowsKept r s.ret.entries s.srm.spares) (i : Fin 32) :
    RowsKept r (s.enterRepairAudit i).ret.entries (s.enterRepairAudit i).srm.spares := by
  unfold State.enterRepairAudit
  split <;> simp [h]

@[simp] theorem RowsKept.nextRepairAudit (h : RowsKept r s.ret.entries s.srm.spares) (i : Fin 32) :
    RowsKept r (s.nextRepairAudit i).ret.entries (s.nextRepairAudit i).srm.spares := by
  unfold State.nextRepairAudit
  split <;> simp [h]

@[simp] theorem RowsKept.beginRepairAudit (h : RowsKept r s.ret.entries s.srm.spares) (is : List (Fin 32)) :
    RowsKept r (s.beginRepairAudit is).ret.entries (s.beginRepairAudit is).srm.spares := by
  unfold State.beginRepairAudit
  dsimp only
  split <;> simp [h]

@[simp] theorem RowsKept.askRepairAudit (h : RowsKept r s.ret.entries s.srm.spares) (is : List (Fin 32)) :
    RowsKept r (s.askRepairAudit is).ret.entries (s.askRepairAudit is).srm.spares := by
  unfold State.askRepairAudit
  split <;> simp [h]

@[simp] theorem RowsKept.blockJoined (h : RowsKept r s.ret.entries s.srm.spares) (i : Fin 32) :
    RowsKept r (s.blockJoined i).ret.entries (s.blockJoined i).srm.spares := by
  unfold State.blockJoined State.repairStopped
  dsimp only
  split
  · simp [h]
  · split
    · simp [h]
    · split <;> simp [h]

@[simp] theorem RowsKept.consequence (h : RowsKept r s.ret.entries s.srm.spares) (pl : WordPlace) (a : Nat) :
    RowsKept r (s.consequence pl a).ret.entries (s.consequence pl a).srm.spares := by
  have hr (i : Fin 32) (b : Nat) : RowsKept r (s.enterRepair i b).ret.entries (s.enterRepair i b).srm.spares := by
    unfold State.enterRepair
    apply RowsKept.askFirst
    simp [h]
  have hj (i : Fin 32) (b : Nat) : RowsKept r (s.joinRepair i b).ret.entries (s.joinRepair i b).srm.spares := by
    unfold State.joinRepair
    split
    · exact h
    · split <;> simp [h]
  unfold State.consequence
  split <;> simp [h, hr, hj]

@[simp] theorem RowsKept.reportOutcome (h : RowsKept r s.ret.entries s.srm.spares) (g : Group) (o : ReadOutcome) :
    RowsKept r (s.reportOutcome g o).ret.entries (s.reportOutcome g o).srm.spares := by
  unfold State.reportOutcome State.reportCorrected State.reportUncorrectable
  split
  · exact h
  · simp [h]
  · dsimp only
    split <;> simp [h]

@[simp] theorem RowsKept.scrubWord (h : RowsKept r s.ret.entries s.srm.spares) (i : Fin 32) (w : Nat) (o : ReadOutcome)
    (v : Word) : RowsKept r (s.scrubWord i w o v).ret.entries (s.scrubWord i w o v).srm.spares := by
  unfold State.scrubWord State.ridingAnswer State.ridingDrift
  dsimp only
  split
  · exact h
  · split
    · simp [h]
    · split
      · simp [h]
      · split <;> simp [h]
      · simp [h]

@[simp] theorem RowsKept.scrubEnd (h : RowsKept r s.ret.entries s.srm.spares) (i : Fin 32) (w : Nat) (o : ReadOutcome)
    (v : Word) : RowsKept r (s.scrubEnd i w o v).ret.entries (s.scrubEnd i w o v).srm.spares := by
  unfold State.scrubEnd State.beginAsked
  split <;> simp [h]

@[simp] theorem RowsKept.repairAnswer (h : RowsKept r s.ret.entries s.srm.spares) (i : Fin 32) (w : Nat)
    (a : AuditAnswer) : RowsKept r (s.repairAnswer i w a).ret.entries (s.repairAnswer i w a).srm.spares := by
  unfold State.repairAnswer
  split <;> simp [h]

@[simp] theorem RowsKept.auditEnd (h : RowsKept r s.ret.entries s.srm.spares) (i : Fin 32) (w : Nat) (o : ReadOutcome)
    (v : Word) : RowsKept r (s.auditEnd i w o v).ret.entries (s.auditEnd i w o v).srm.spares := by
  unfold State.auditEnd State.verifyAnswer
  dsimp only
  split
  · simp [h]
  · split
    · split <;> simp [h]
    · split <;> simp [h]

@[simp] theorem RowsKept.clearEnd (h : RowsKept r s.ret.entries s.srm.spares) (i : Fin 32) (w : Nat) :
    RowsKept r (s.clearEnd i w).ret.entries (s.clearEnd i w).srm.spares := by
  unfold State.clearEnd
  split
  · simp [h]
  · split <;> simp [h]

end Sys2Proof.Machine
end

section
/-! The row laws through the commands, the frames taken, the links and the ends of the groups, and every step (O7). -/

namespace Sys2Proof.Machine

variable {r s : State}

/-! ### Management commands and accesses -/

/-- A command that its mode may refuse. -/
theorem RowsKept.acceptedIn (h : RowsKept r s.ret.entries s.srm.spares) (ms : Mode → Bool) (f : State → State)
    (hf : RowsKept r (f s).ret.entries (f s).srm.spares) :
    RowsKept r (s.acceptedIn ms f).ret.entries (s.acceptedIn ms f).srm.spares := by
  unfold State.acceptedIn
  split
  · exact hf
  · simpa using h

@[simp] theorem RowsKept.storeSetting (h : RowsKept r s.ret.entries s.srm.spares) (st : Setting) (v : Nat) :
    RowsKept r (s.storeSetting st v).ret.entries (s.storeSetting st v).srm.spares := by
  unfold State.storeSetting State.settingActs
  dsimp only
  split
  · exact h
  · split
    · exact RowsKept.applyWeakLimit (s := { s with cmi := { s.cmi with settings := s.cmi.settings.put .weakLimit v } }) h
    · exact h
    · simpa using h
    · exact h
    · exact h

theorem RowsKept.cmdSettingsWrite (h : RowsKept r s.ret.entries s.srm.spares) :
    RowsKept r s.cmdSettingsWrite.ret.entries s.cmdSettingsWrite.srm.spares := by
  unfold State.cmdSettingsWrite
  split
  · simpa using h
  · refine h.acceptedIn _ _ ?_
    simp [h]

theorem RowsKept.cmdRestart (h : RowsKept r s.ret.entries s.srm.spares) :
    RowsKept r s.cmdRestart.ret.entries s.cmdRestart.srm.spares :=
  RowsKept.restartMove (s := (s.endServices serviceEndedReason false).orphanGroup) (by simpa using h)

theorem RowsKept.cmdCycleMark (h : RowsKept r s.ret.entries s.srm.spares) :
    RowsKept r s.cmdCycleMark.ret.entries s.cmdCycleMark.srm.spares := by
  unfold State.cmdCycleMark
  split
  · simpa using h
  · refine h.acceptedIn _ _ ?_
    dsimp only
    split <;> simp [h]

theorem RowsKept.cmdReenter (h : RowsKept r s.ret.entries s.srm.spares) :
    RowsKept r s.cmdReenter.ret.entries s.cmdReenter.srm.spares := by
  unfold State.cmdReenter State.reenter
  refine h.acceptedIn _ _ ?_
  split
  · simpa using h
  · simp [h]

theorem RowsKept.carryOut (h : RowsKept r s.ret.entries s.srm.spares) :
    RowsKept r s.carryOut.ret.entries s.carryOut.srm.spares := by
  unfold State.carryOut
  split
  case h_2 => exact h.cmdSettingsWrite
  case h_4 => exact h.cmdRestart
  case h_5 =>
    unfold State.cmdTableOpen
    refine h.acceptedIn _ _ ?_
    split
    · simpa using h
    · exact RowsKept.requestMode (s := { s with rgt := Rgt.initial }) h .load
  case h_7 =>
    unfold State.cmdTableClose State.closeTable
    refine h.acceptedIn _ _ ?_
    split
    · simpa using h
    · exact RowsKept.requestMode (s := { s.invalidateAll with
        rgt := { s.rgt with closed := true }, dgu := { s.invalidateAll.dgu with tableDigest := digestOf s.rgt.image } }) h .loaded
  case h_9 => exact h.acceptedIn _ _ (h.requestMode .clearing)
  case h_10 => exact h.acceptedIn _ _ (h.isolateFor .commanded)
  case h_11 => exact h.cmdCycleMark
  case h_13 => exact h.cmdReenter
  all_goals simpa using h

theorem RowsKept.writeWord (h : RowsKept r s.ret.entries s.srm.spares) (i : Nat) (v : Word) :
    RowsKept r (s.writeWord i v).ret.entries (s.writeWord i v).srm.spares := by
  unfold State.writeWord
  split
  · exact RowsKept.carryOut (s := s.storeWord 0 v) h
  · split
    · simpa using h
    · exact h

@[simp] theorem RowsKept.writeWords (h : RowsKept r s.ret.entries s.srm.spares) (i : Nat) (vs : List Word) :
    RowsKept r (s.writeWords i vs).ret.entries (s.writeWords i vs).srm.spares := by
  induction vs generalizing s i with
  | nil => exact h
  | cons v vs ih => exact ih (h.writeWord i v) _

theorem RowsKept.take (h : RowsKept r s.ret.entries s.srm.spares) (a : Access) :
    RowsKept r (s.take a).ret.entries (s.take a).srm.spares := by
  cases a with
  | transaction tr =>
    show RowsKept r (s.transaction tr).ret.entries (s.transaction tr).srm.spares
    unfold State.transaction State.aperture
    split
    · simpa using h
    · split
      · simpa using h
      · split <;> simp [h]
    · simpa using h
  | word i v => exact h.writeWord i v
  | command code ps => exact RowsKept.carryOut (s := (s.storeParams ps).storeWord 0 code) (h.writeWords 1 ps)

theorem RowsKept.takeAll (h : RowsKept r s.ret.entries s.srm.spares) (as : List Access) :
    RowsKept r (s.takeAll as).ret.entries (s.takeAll as).srm.spares := by
  induction as generalizing s with
  | nil => exact h
  | cons a as ih =>
    unfold State.takeAll
    split
    · exact h
    · refine ih ?_
      unfold State.takeNext
      dsimp only
      split <;> exact h.take a

/-! ### Frames taken -/

@[simp] theorem RowsKept.reentryHears (h : RowsKept r s.ret.entries s.srm.spares) (p : Port) (b : Bool) :
    RowsKept r (s.reentryHears p b).ret.entries (s.reentryHears p b).srm.spares := by
  unfold State.reentryHears
  split
  · exact h
  · split <;> simp [h]

@[simp] theorem RowsKept.repairHears (h : RowsKept r s.ret.entries s.srm.spares) (p : Port) (m : Option Mode) :
    RowsKept r (s.repairHears p m).ret.entries (s.repairHears p m).srm.spares := by
  unfold State.repairHears
  split
  · exact h
  · split <;> simp [h]

@[simp] theorem RowsKept.takeIdle (h : RowsKept r s.ret.entries s.srm.spares) (p : Port) (m : Option Mode)
    (c : Option Word) (x : Role) : RowsKept r (s.takeIdle p m c x).ret.entries (s.takeIdle p m c x).srm.spares := by
  unfold State.takeIdle
  simp [h]

@[simp] theorem RowsKept.targetDigest (h : RowsKept r s.ret.entries s.srm.spares) (p : Port) (m : Word) (x : PartnerSet) :
    RowsKept r (s.targetDigest p m x).ret.entries (s.targetDigest p m x).srm.spares := by
  unfold State.targetDigest
  split
  · exact h
  · dsimp only
    split
    · split
      · split
        · unfold State.mirrorAgrees State.tryJoin State.joinNow State.joinMissed
          split
          · simp [h]
          · split
            · simpa using h
            · repeat' split
              all_goals simp [h]
          · simpa using h
        · unfold State.mirrorDiffers
          split <;> simp [h]
      · simpa using h
    · exact h

@[simp] theorem RowsKept.takeDigest (h : RowsKept r s.ret.entries s.srm.spares) (p : Port) (m : Word) (x : PartnerSet) :
    RowsKept r (s.takeDigest p m x).ret.entries (s.takeDigest p m x).srm.spares := by
  unfold State.takeDigest
  apply RowsKept.targetDigest
  apply RowsKept.repairHears
  simp [h]

@[simp] theorem RowsKept.takeCopyRefuse (h : RowsKept r s.ret.entries s.srm.spares) (p : Port) :
    RowsKept r (s.takeCopyRefuse p).ret.entries (s.takeCopyRefuse p).srm.spares := by
  unfold State.takeCopyRefuse
  split
  · split <;> simp [h]
  · split <;> simp [h]
  · exact h

@[simp] theorem RowsKept.takeAbandon (h : RowsKept r s.ret.entries s.srm.spares) (p : Port) (w : Word) :
    RowsKept r (s.takeAbandon p w).ret.entries (s.takeAbandon p w).srm.spares := by
  have he (s : State) (h : RowsKept r s.ret.entries s.srm.spares) :
      RowsKept r (s.reentryAbandoned p w).ret.entries (s.reentryAbandoned p w).srm.spares := by
    unfold State.reentryAbandoned
    repeat' split
    all_goals simp [h]
  have hp (s : State) (h : RowsKept r s.ret.entries s.srm.spares) :
      RowsKept r (s.repairAbandoned p w).ret.entries (s.repairAbandoned p w).srm.spares := by
    unfold State.repairAbandoned
    repeat' split
    all_goals simp [h]
  exact hp _ (he _ (by simpa using h))

@[simp] theorem RowsKept.takeSegment (h : RowsKept r s.ret.entries s.srm.spares) (p : Port) (a : Nat) (ws : List Word) :
    RowsKept r (s.takeSegment p a ws).ret.entries (s.takeSegment p a ws).srm.spares := by
  unfold State.takeSegment State.repairSegment
  repeat' split
  all_goals simp [h]

@[simp] theorem RowsKept.takeForward (h : RowsKept r s.ret.entries s.srm.spares) (p : Port) (a : Nat) (w : Word) :
    RowsKept r (s.takeForward p a w).ret.entries (s.takeForward p a w).srm.spares := by
  unfold State.takeForward
  split
  · simpa using h
  · split <;> simp [h]

@[simp] theorem RowsKept.takeCopyEnd (h : RowsKept r s.ret.entries s.srm.spares) (p : Port) :
    RowsKept r (s.takeCopyEnd p).ret.entries (s.takeCopyEnd p).srm.spares := by
  unfold State.takeCopyEnd
  split
  · exact h
  · split <;> simp [h]

@[simp] theorem RowsKept.takeRepairEnd (h : RowsKept r s.ret.entries s.srm.spares) (p : Port) (b : Nat) :
    RowsKept r (s.takeRepairEnd p b).ret.entries (s.takeRepairEnd p b).srm.spares := by
  unfold State.takeRepairEnd State.blockRestored
  split
  · exact h
  · split
    · split
      · dsimp only
        split <;> simp [h]
      · simp [h]
    · exact h

/-! ### Links -/

@[simp] theorem RowsKept.goDown (h : RowsKept r s.ret.entries s.srm.spares) (p : Port) (d : LinkDetail) :
    RowsKept r (s.goDown p d).ret.entries (s.goDown p d).srm.spares := by
  have he (s : State) (h : RowsKept r s.ret.entries s.srm.spares) :
      RowsKept r (s.reentryLinkDown p).ret.entries (s.reentryLinkDown p).srm.spares := by
    unfold State.reentryLinkDown
    repeat' split
    all_goals simp [h]
  have hp (s : State) (h : RowsKept r s.ret.entries s.srm.spares) :
      RowsKept r (s.repairLinkDown p).ret.entries (s.repairLinkDown p).srm.spares := by
    unfold State.repairLinkDown
    repeat' split
    all_goals simp [h]
  unfold State.goDown
  exact hp _ (he _ (by simp [h]))

@[simp] theorem RowsKept.arrival (h : RowsKept r s.ret.entries s.srm.spares) (p : Port) (w : WireFrame) :
    RowsKept r (s.arrival p w).ret.entries (s.arrival p w).srm.spares := by
  have hb (d : LinkDetail) : RowsKept r (s.badArrival p d).ret.entries (s.badArrival p d).srm.spares := by
    unfold State.badArrival
    dsimp only
    split <;> simp [h]
  unfold State.arrival
  split
  · exact hb _
  · simpa using h
  · exact hb _
  · unfold State.goodArrival State.offerRx State.overrun
    dsimp only
    repeat' split
    all_goals simp [h]

/-! ### Groups that end -/

theorem RowsKept.scrubReadEnd (h : RowsKept r s.ret.entries s.srm.spares) (g : Group) (i : Fin 32) (w : Nat)
    (m : CellSample) : RowsKept r (s.scrubReadEnd g i w m).ret.entries (s.scrubReadEnd g i w m).srm.spares := by
  unfold State.scrubReadEnd
  apply RowsKept.endGroup
  split <;> simp [h]

theorem RowsKept.auditReadEnd (h : RowsKept r s.ret.entries s.srm.spares) (g : Group) (i : Fin 32) (w : Nat)
    (m : CellSample) : RowsKept r (s.auditReadEnd g i w m).ret.entries (s.auditReadEnd g i w m).srm.spares := by
  unfold State.auditReadEnd
  apply RowsKept.endGroup
  split <;> simp [h]

theorem RowsKept.clearWriteEnd (h : RowsKept r s.ret.entries s.srm.spares) (g : Group) (i : Fin 32) (w : Nat) :
    RowsKept r (s.clearWriteEnd g i w).ret.entries (s.clearWriteEnd g i w).srm.spares := by
  unfold State.clearWriteEnd
  apply RowsKept.endGroup
  split <;> simp [h]

theorem RowsKept.copyReadEnd (h : RowsKept r s.ret.entries s.srm.spares) (g : Group) (m : CellSample) :
    RowsKept r (s.copyReadEnd g m).ret.entries (s.copyReadEnd g m).srm.spares := by
  unfold State.copyReadEnd
  apply RowsKept.endGroup
  split <;> simp [h]

theorem RowsKept.frameWriteEnd (h : RowsKept r s.ret.entries s.srm.spares) (g : Group) (p : Port) (v : Word)
    (m : CellSample) : RowsKept r (s.frameWriteEnd g p v m).ret.entries (s.frameWriteEnd g p v m).srm.spares := by
  unfold State.frameWriteEnd
  apply RowsKept.endGroup
  dsimp only
  split <;> split <;> simp [h]

theorem RowsKept.restoringWriteEnd (h : RowsKept r s.ret.entries s.srm.spares) (g : Group) (p : Port) (v : Word) :
    RowsKept r (s.restoringWriteEnd g p v).ret.entries (s.restoringWriteEnd g p v).srm.spares := by
  unfold State.restoringWriteEnd
  apply RowsKept.endGroup
  split <;> simp [h]

theorem RowsKept.rowMoveCopyEnd (h : RowsKept r s.ret.entries s.srm.spares) (hn : s.msize = r.msize) (g : Group)
    (m : CellSample) : RowsKept r (s.rowMoveCopyEnd g m).ret.entries (s.rowMoveCopyEnd g m).srm.spares := by
  unfold State.rowMoveCopyEnd
  dsimp only
  split
  · apply RowsKept.endGroup
    split
    · simp [h]
    · exact RowsKept.advanceMove (by simp [h]) (by simpa using hn)
  · apply RowsKept.endGroup
    exact RowsKept.reportOutcome (RowsKept.releaseSpare (by simpa using h)) _ _

theorem RowsKept.processorReadEnd (h : RowsKept r s.ret.entries s.srm.spares) (g : Group) (m : CellSample) :
    RowsKept r (s.processorReadEnd g m).ret.entries (s.processorReadEnd g m).srm.spares := by
  unfold State.processorReadEnd
  simp [h]

theorem RowsKept.processorWriteEnd (h : RowsKept r s.ret.entries s.srm.spares) (g : Group) (v : Word) (m : CellSample) :
    RowsKept r (s.processorWriteEnd g v m).ret.entries (s.processorWriteEnd g v m).srm.spares := by
  unfold State.processorWriteEnd
  dsimp only
  split <;> simp [h]

theorem RowsKept.partialWriteEnd (h : RowsKept r s.ret.entries s.srm.spares) (g : Group) (v : Word) (k : BitVec 4)
    (m : CellSample) : RowsKept r (s.partialWriteEnd g v k m).ret.entries (s.partialWriteEnd g v k m).srm.spares := by
  unfold State.partialWriteEnd
  simp [h]

/-- A processor group that ends, and the accesses that wait for its transaction. -/
theorem RowsKept.thenTake (h : RowsKept r s.ret.entries s.srm.spares) (f : State → State)
    (hf : ∀ x : State, RowsKept r x.ret.entries x.srm.spares → RowsKept r (f x).ret.entries (f x).srm.spares) :
    RowsKept r (s.thenTake f).ret.entries (s.thenTake f).srm.spares :=
  (hf (s.setWaiting []) h).takeAll _

end Sys2Proof.Machine
end

section
/-! The row laws through every command and every step (O7). -/

namespace Sys2Proof.Machine

/-- A command that keeps the size of the part and the row laws. -/
def KeepsRows (s t : State) : Prop := t.msize = s.msize ∧ RowsKept s t.ret.entries t.srm.spares

/-- An operation that leaves the size, the entries and the spares. -/
theorem KeepsRows.of_frame {s t : State} (hm : t.msize = s.msize) (he : t.ret.entries = s.ret.entries)
    (hs : t.srm.spares = s.srm.spares) : KeepsRows s t := ⟨hm, by rw [he, hs]; exact .refl s⟩

/-- A processor group that ends within the laws, and the accesses that wait for its transaction. -/
theorem KeepsRows.thenTake {s : State} {f : State → State} (hm : ∀ x, (f x).msize = x.msize)
    (hf : ∀ x : State, RowsKept s x.ret.entries x.srm.spares → RowsKept s (f x).ret.entries (f x).srm.spares) :
    KeepsRows s (s.thenTake f) :=
  ⟨(State.takeAll_frame ..).2.1.trans (hm (s.setWaiting [])), RowsKept.thenTake (.refl s) f hf⟩

theorem exec_keepsRows (i : Instr) (s : State) (hp : ∀ c m, i ≠ .por c m) : ∃ t, exec i s = .next t ∧ KeepsRows s t := by
  have h := RowsKept.refl s
  cases ha : accessOf i with
  | some a =>
    refine ⟨_, exec_of_access i a s ha, ?_⟩
    split
    · exact .of_frame rfl rfl rfl
    · exact ⟨by simp, h.take a⟩
  | none =>
    cases i
    case por c m => exact absurd rfl (hp c m)
    case processorTransaction tr => exact ⟨s, (exec_of_malformed s).1 tr ha, rfl, h⟩
    case apertureWordWrite k v => exact ⟨s, (exec_of_malformed s).2.1 k v ha, rfl, h⟩
    case unknownCommand code => exact ⟨s, (exec_of_malformed s).2.2 code ha, rfl, h⟩
    case processorReadEnd m =>
      obtain hs | ⟨g, _, -, -, hs⟩ := exec_processorReadEnd_cases m s
      · exact ⟨s, hs, rfl, h⟩
      · exact ⟨_, hs, .thenTake (by simp) fun _ hx => hx.processorReadEnd _ _⟩
    case processorWriteEnd m =>
      obtain hs | ⟨g, _, _, -, -, hs⟩ := exec_processorWriteEnd_cases m s
      · exact ⟨s, hs, rfl, h⟩
      · exact ⟨_, hs, .thenTake (by simp) fun _ hx => hx.processorWriteEnd _ _ _⟩
    case partialWriteEnd m =>
      obtain hs | ⟨g, _, _, _, -, -, hs⟩ := exec_partialWriteEnd_cases m s
      · exact ⟨s, hs, rfl, h⟩
      · exact ⟨_, hs, .thenTake (by simp) fun _ hx => hx.partialWriteEnd _ _ _ _⟩
    case scrubReadEnd m =>
      obtain hs | ⟨g, _, _, _, -, -, hs⟩ := exec_scrubReadEnd_cases m s
      · exact ⟨s, hs, rfl, h⟩
      · exact ⟨_, hs, by simp, h.scrubReadEnd _ _ _ _⟩
    case auditReadEnd m =>
      obtain hs | ⟨g, _, _, _, -, -, hs⟩ := exec_auditReadEnd_cases m s
      · exact ⟨s, hs, rfl, h⟩
      · exact ⟨_, hs, by simp, h.auditReadEnd _ _ _ _⟩
    case clearWriteEnd =>
      obtain hs | ⟨g, _, _, _, -, -, hs⟩ := exec_clearWriteEnd_cases s
      · exact ⟨s, hs, rfl, h⟩
      · exact ⟨_, hs, by simp, h.clearWriteEnd _ _ _⟩
    case copyReadEnd m =>
      obtain hs | ⟨g, _, -, -, hs⟩ := exec_copyReadEnd_cases m s
      · exact ⟨s, hs, rfl, h⟩
      · exact ⟨_, hs, by simp, h.copyReadEnd _ _⟩
    case frameWriteEnd m =>
      obtain hs | ⟨g, _, _, _, -, -, hs⟩ := exec_frameWriteEnd_cases m s
      · exact ⟨s, hs, rfl, h⟩
      · exact ⟨_, hs, by simp, h.frameWriteEnd _ _ _ _⟩
    case restoringWriteEnd =>
      obtain hs | ⟨g, _, _, _, -, -, hs⟩ := exec_restoringWriteEnd_cases s
      · exact ⟨s, hs, rfl, h⟩
      · exact ⟨_, hs, by simp, h.restoringWriteEnd _ _ _⟩
    case rowMoveCopyEnd m =>
      obtain hs | ⟨g, _, -, -, hs⟩ := exec_rowMoveCopyEnd_cases m s
      · exact ⟨s, hs, rfl, h⟩
      · exact ⟨_, hs, by simp, h.rowMoveCopyEnd rfl _ _⟩
    all_goals first | (cases ha; done) | refine ⟨_, rfl, ?_⟩
    case msTick =>
      refine .of_frame rfl ?_ rfl
      show (s.ret.tick _).entries = _
      unfold Ret.tick
      split <;> rfl
    case arbiterGrant => exact .of_frame (by simp) (by simp) (by simp)
    all_goals repeat' split
    case idleFrameSend.isTrue p _ => unfold State.sendIdle; exact .of_frame (by simp) (by simp) (by simp)
    all_goals exact ⟨by simp, by simp [h]⟩

/-- Settles O7: every command but POR keeps the laws of the entries and the spares together (`exec_keepsRows`), and POR
leaves no entry and every spare FREE. -/
theorem stepKeepsRowTableAndOneMove : Obligations.StepKeepsRowTableAndOneMove := by
  have hk (i : Instr) (s : State) (hp : ∀ c m, i ≠ .por c m) : ∃ t, exec i s = .next t ∧
      (RowTableLaw s → RowTableLaw t) ∧ (MoveLaw s → MoveLaw t) ∧ (RowMapLaw s → RowMapLaw t) := by
    obtain ⟨t, ht, hm, hr⟩ := exec_keepsRows i s hp
    exact ⟨t, ht, hr.laws hm⟩
  have hpor (c m : BitVec 2) (p : List Instr) : RowTableLaw (State.afterPor c m p) ∧
      MoveLaw (State.afterPor c m p) ∧ RowMapLaw (State.afterPor c m p) := by
    obtain ⟨-, -, -, -, -, -, hrows, hmove, hmap, -⟩ := afterPor_safe c m p
    exact ⟨hrows, hmove, hmap⟩
  refine ⟨law_kept_by_step (fun _ _ => id) (fun c m p => (hpor c m p).1) fun i s hp => ?_,
    law_kept_by_step (fun _ _ => id) (fun c m p => (hpor c m p).2.1) fun i s hp => ?_,
    law_kept_by_step (fun _ _ => id) (fun c m p => (hpor c m p).2.2) fun i s hp => ?_⟩
  · obtain ⟨t, ht, hrows, -⟩ := hk i s hp
    exact ⟨t, ht, hrows⟩
  · obtain ⟨t, ht, -, hmove, -⟩ := hk i s hp
    exact ⟨t, ht, hmove⟩
  · obtain ⟨t, ht, -, -, hmap⟩ := hk i s hp
    exact ⟨t, ht, hmap⟩

end Sys2Proof.Machine
end

section
/-! The ms tick (O15), one fact for each timer's block. -/

namespace Sys2Proof.Machine

/-! ### Each timer at a tick -/

theorem Ret.tick_zero (r : Ret) : r.tick 0 = { r with ageing := 0, sweepDue := false } := rfl

theorem Ret.tick_pos (r : Ret) {p : Nat} (hp : p ≠ 0) : r.tick p =
    { r with ageing := min 255000 (r.ageing + 1), sweepDue := decide (p * 1000 ≤ min 255000 (r.ageing + 1)) } :=
  if_neg hp

/-- A tick changes the ageing time and its mark alone. -/
theorem Ret.tick_frame (r : Ret) (p : Nat) :
    r.tick p = { r with ageing := (r.tick p).ageing, sweepDue := (r.tick p).sweepDue } := by
  by_cases hp : p = 0
  · rw [hp]; rfl
  · rw [r.tick_pos hp]

theorem Ptl.tick_stopped {x : Ptl} (h : x.timer = none) (limit : Nat) : x.tick limit = x := by
  unfold Ptl.tick
  rw [h]

theorem Ptl.tick_runs {x : Ptl} {n : Nat} (h : x.timer = some n) (limit : Nat) : x.tick limit =
    { x with timer := some (min 3600000 (n + 1)), lateDue := decide (limit * 1000 ≤ min 3600000 (n + 1)) } := by
  unfold Ptl.tick
  rw [h]

/-- A tick changes the coverage timer and its mark alone. -/
theorem Ptl.tick_frame (x : Ptl) (limit : Nat) :
    x.tick limit = { x with timer := (x.tick limit).timer, lateDue := (x.tick limit).lateDue } := by
  cases h : x.timer with
  | none => rw [Ptl.tick_stopped h]
  | some n => rw [Ptl.tick_runs h]

/-- A port at a tick, each port alike. -/
theorem State.tick_link (s : State) (p : Port) : s.tick.link p = (s.link p).tick s.noIdentity := by
  cases p <;> rfl

/-- A tick finds an IDLE frame due on a free port that has begun none (R90). -/
theorem LinkPort.tick_idleDue (l : LinkPort) (b : Bool) :
    (l.tick b).idleDue = true ↔ b = false ∧ l.sending = none ∧ l.tx = [] ∧ l.begun = false := by
  simp [LinkPort.tick, and_assoc]

theorem Reentry.tick_asking {v : Reentry} (h : v.phase = .asking) (ht : v.time < 10) :
    v.tick = { v with time := v.time + 1 } := by
  unfold Reentry.tick
  rw [if_pos h, Nat.min_eq_right (show v.time + 1 ≤ Config.requestTimeout from ht)]

theorem Reentry.tick_receiving {v : Reentry} (h : v.phase = .receiving) : v.tick = v := by
  unfold Reentry.tick
  rw [h]; rfl

theorem Repair.tick_waits {v : Repair} (h : v.phase ≠ .auditing) (ht : v.time < 10) :
    v.tick = { v with time := v.time + 1 } := by
  unfold Repair.tick
  rw [if_neg h, Nat.min_eq_right (show v.time + 1 ≤ Config.requestTimeout from ht)]

theorem Repair.tick_auditing {v : Repair} (h : v.phase = .auditing) : v.tick = v := if_pos h

/-- Settles O15, timer by timer. -/
theorem msTickAdvancesTimers : Obligations.MsTickAdvancesTimers := by
  intro s
  refine ⟨s.tick, rfl, rfl, fun h0 => ?_, fun h0 => ?_, fun h0 hlt => ?_, fun hn => ?_, fun n hn => ?_, fun n hn hlt => ?_,
    fun hn => ?_, fun n hn hlt => ?_, fun k r hr => ?_, List.length_map .., fun p hp => ?_, fun p => ?_, fun p => ?_,
    fun v hv hph ht => ?_, fun v hv hph => ?_, fun v hv hph ht => ?_, fun v hv hph => ?_, ?_⟩
  · show (s.ret.tick _).ageing = 0 ∧ (s.ret.tick _).sweepDue = false
    rw [h0]
    exact ⟨rfl, rfl⟩
  · show (s.ret.tick _).sweepDue = true ↔ _ ≤ (s.ret.tick _).ageing
    rw [Ret.tick_pos _ h0]
    exact decide_eq_true_iff
  · show (s.ret.tick _).ageing = _
    rw [Ret.tick_pos _ h0]
    exact Nat.min_eq_right hlt
  · show (s.ptl.tick _).timer = none ∧ (s.ptl.tick _).lateDue = _
    rw [Ptl.tick_stopped hn]
    exact ⟨hn, rfl⟩
  · refine ⟨min 3600000 (n + 1), ?_⟩
    show (s.ptl.tick _).timer = _ ∧ ((s.ptl.tick _).lateDue = true ↔ _)
    rw [Ptl.tick_runs hn]
    exact ⟨rfl, decide_eq_true_iff⟩
  · show (s.ptl.tick _).timer = _
    rw [Ptl.tick_runs hn]
    exact congrArg some (Nat.min_eq_right hlt)
  · show s.vtu.watchdog.map _ = none
    rw [hn]; rfl
  · show s.vtu.watchdog.map _ = _
    rw [hn]
    exact congrArg some (Nat.min_eq_right hlt)
  · show (s.vtu.records.map VoteRecord.tick)[k]? = _
    rw [List.getElem?_map, hr]; rfl
  · rw [s.tick_link]
    exact Nat.min_eq_right (show (s.link p).silence + 1 ≤ Config.silenceLimit from hp)
  · rw [s.tick_link, LinkPort.tick_idleDue]
    simp [State.noIdentity]
  · rw [s.tick_link]; rfl
  · show s.rse.reentry.map _ = _
    rw [hv, Option.map_some, Reentry.tick_asking hph ht]
  · show s.rse.reentry.map _ = _
    rw [hv, Option.map_some, Reentry.tick_receiving hph]
  · show s.rse.repair.map _ = _
    rw [hv, Option.map_some, Repair.tick_waits hph ht]
  · show s.rse.repair.map _ = _
    rw [hv, Option.map_some, Repair.tick_auditing hph]
  · show s.tick = { s with
      evu := s.tick.evu, ret := { s.ret with ageing := (s.ret.tick _).ageing, sweepDue := (s.ret.tick _).sweepDue }
      ptl := { s.ptl with timer := (s.ptl.tick _).timer, lateDue := (s.ptl.tick _).lateDue }
      vtu := s.vtu.tick, lkc := s.tick.lkc, rse := s.tick.rse }
    rw [← Ret.tick_frame, ← Ptl.tick_frame]
    rfl

end Sys2Proof.Machine
end

section
/-! ROW_TABLE_READ and SPARE_READ (O32): the words of section 13.3 field by field, and each command on the state it is put into. -/

namespace Sys2Proof.Machine

/-! ### The fields of the words -/

/-- A result stands from word 9 on. -/
theorem Commanded.result {s t : State} {code : Word} {ps rs : List Word} {st : CommandStatus}
    (h : Commanded s t code ps st rs) (k : Nat) (hk : k < 7) : t.apertureWord (9 + k) = (rs[k]?).getD 0 := by
  obtain ⟨-, ⟨-, hr⟩, -⟩ := h
  exact hr k hk

theorem flagAt_eq (lo : Nat) (b : Bool) : flagAt lo b = b.toNat * 2 ^ lo := by cases b <;> simp [flagAt]

/-- The fields of a row entry's first word (Table 13.4). -/
theorem rowWord_fields (e : RowEntry) (w : Word)
    (hw : w = word (flagAt 0 true + field 4 3 e.state.code + flagAt 7 e.touched + field 8 4 e.count + field 16 8 e.last)) :
    bit w 0 = true ∧ bits w 4 3 = e.state.code ∧ bit w 7 = e.touched ∧ (e.count < 16 → bits w 8 4 = e.count) ∧
      (e.last < 256 → bits w 16 8 = e.last) := by
  have hs : e.state.code < 8 := by cases e.state <;> decide
  have ht := e.touched.toNat_lt
  have hn : w.toNat = 1 + e.state.code * 16 + e.touched.toNat * 128 + e.count % 16 * 256 + e.last % 256 * 65536 := by
    rw [hw, word_toNat]
    all_goals simp only [flagAt_eq, field, Bool.toNat_true]
    all_goals omega
  have h7 : bit w 7 = decide (e.touched.toNat = 1) := by
    unfold bit bits
    exact decide_eq_decide.2 (by omega)
  refine ⟨?_, ?_, ?_, fun hc => ?_, fun hl => ?_⟩
  · exact decide_eq_true (show w.toNat / 2 ^ 0 % 2 ^ 1 = 1 by omega)
  · show w.toNat / 2 ^ 4 % 2 ^ 3 = _
    omega
  · rw [h7]
    cases e.touched <;> rfl
  · show w.toNat / 2 ^ 8 % 2 ^ 4 = _
    omega
  · show w.toNat / 2 ^ 16 % 2 ^ 8 = _
    omega

/-- The low five bits of a spare's first word: its state, and which of its fields are present (Table 13.4). -/
def Spare.mark (x : Spare) : Nat :=
  x.code + 4 * x.row.isSome.toNat + 8 * x.pointer.isSome.toNat + 16 * x.time.isSome.toNat

theorem Spare.mark_lt (x : Spare) : x.mark < 32 := by
  cases x <;> simp [Spare.mark, Spare.code, Spare.row, Spare.pointer, Spare.time]

theorem State.sparesIn_le (s : State) (code : Nat) : s.sparesIn code ≤ 16 := by
  have h := List.countP_le_length (p := fun x : Spare => x.code == code) (l := s.srm.spares.toList)
  rwa [Vector.length_toList] at h

theorem State.sparesIn_free (s : State) : s.sparesIn 0 = s.srm.spares.toList.countP (fun x => x == .free) := by
  unfold State.sparesIn
  exact List.countP_congr fun x _ => by cases x <;> simp [Spare.code]

theorem State.sparesIn_retired (s : State) : s.sparesIn 3 =
    s.srm.spares.toList.countP (fun x => match x with | .retired _ => true | _ => false) := by
  unfold State.sparesIn
  exact List.countP_congr fun x _ => by cases x <;> simp [Spare.code]

/-- The fields of a spare's first word: its mark and the two counts. -/
theorem spareWord_fields (s : State) (x : Spare) (w : Word)
    (hw : w = word (field 0 2 x.code + flagAt 2 x.row.isSome + flagAt 3 x.pointer.isSome + flagAt 4 x.time.isSome +
      field 8 5 (s.sparesIn 0) + field 16 5 (s.sparesIn 3))) :
    bits w 0 5 = x.mark ∧ bits w 8 5 = s.sparesIn 0 ∧ bits w 16 5 = s.sparesIn 3 := by
  have hm := x.mark_lt
  have hc : x.code < 4 := by cases x <;> simp [Spare.code]
  have h0 := s.sparesIn_le 0
  have h3 := s.sparesIn_le 3
  have hn : w.toNat = x.mark + s.sparesIn 0 * 256 + s.sparesIn 3 * 65536 := by
    unfold Spare.mark at hm ⊢
    rw [hw, word_toNat]
    all_goals simp only [flagAt_eq, field]
    all_goals omega
  refine ⟨?_, ?_, ?_⟩
  · show w.toNat / 2 ^ 0 % 2 ^ 5 = _
    omega
  · show w.toNat / 2 ^ 8 % 2 ^ 5 = _
    omega
  · show w.toNat / 2 ^ 16 % 2 ^ 5 = _
    omega

/-! ### The two commands -/

theorem State.presented_rows (s : State) (code : Word) (ps : List Word) :
    (s.presented code ps).ret = s.ret ∧ (s.presented code ps).srm = s.srm := by
  rw [s.presented_words]
  exact ⟨rfl, rfl⟩

theorem State.cmdRowTableRead_of_le (s : State) (p : Word) (hp : p.toNat ≤ 63) :
    (s.presented 0x10 [p]).cmdRowTableRead = (s.presented 0x10 [p]).answer .done (s.rowWords p.toNat) := by
  unfold State.cmdRowTableRead State.rowWords
  rw [s.presented_param 0x10 [p] (by simp) 0 (by simp), (s.presented_rows _ _).1]
  exact if_pos (show p.toNat < 64 by omega)

theorem State.cmdSpareRead_of_lt (s : State) (i : Fin 16) : (s.presented 0x11 [word i.val]).cmdSpareRead =
    (s.presented 0x11 [word i.val]).answer .done (s.spareWords i) := by
  have hp : ((s.presented 0x11 [word i.val]).param 1).toNat = i.val := by
    rw [s.presented_param 0x11 [word i.val] (by simp) 0 (by simp)]
    exact word_toNat _ (by omega)
  have hi : (⟨((s.presented 0x11 [word i.val]).param 1).toNat, by omega⟩ : Fin 16) = i := Fin.ext hp
  unfold State.cmdSpareRead
  rw [dif_pos (by omega)]
  unfold State.spareWords State.sparesIn
  rw [hi, (s.presented_rows _ _).2]

/-- Settles O32. -/
theorem rowAndSpareReadsGiveEntries : Obligations.RowAndSpareReadsGiveEntries := by
  refine ⟨fun s p hb hp => ?_, fun s p hb hp => ?_, fun s i hb => ?_, fun s i hb hi => ?_⟩
  · obtain ⟨hc, ho⟩ := s.issue_answered 0x10 [p] _ .done _ hb (by simp) (s.cmdRowTableRead_of_le p hp)
    refine ⟨_, _, rfl, hc, ho, ?_⟩
    have h9 := hc.result 0 (by omega)
    have h10 := hc.result 1 (by omega)
    have h11 := hc.result 2 (by omega)
    have h12 := hc.result 3 (by omega)
    have h13 := hc.result 4 (by omega)
    cases he : s.ret.entries[p.toNat]? with
    | none =>
      simp only [State.rowWords, he] at h9 h10 h11 ⊢
      exact ⟨h10, h11, fun _ => ⟨h9, rfl⟩, fun e h => by cases h⟩
    | some e =>
      have hl := (List.getElem?_eq_some_iff.1 he).1
      simp only [State.rowWords, he] at h9 h10 h11 h12 h13 ⊢
      refine ⟨h10, h11, fun h => by omega, fun e' h => ?_⟩
      cases h
      obtain ⟨hv, hs, ht, hn, hw⟩ := rowWord_fields e _ h9
      exact ⟨hv, hs, ht, hn, hw, h12, h13⟩
  · refine ⟨_, rfl, s.issue_answered 0x10 [p] _ .badParam [1] hb (by simp) ?_⟩
    unfold State.cmdRowTableRead
    rw [s.presented_param 0x10 [p] (by simp) 0 (by simp)]
    exact if_neg (show ¬ p.toNat < 64 by omega)
  · obtain ⟨hc, ho⟩ := s.issue_answered 0x11 [word i.val] _ .done _ hb (by simp) (s.cmdSpareRead_of_lt i)
    obtain ⟨hm, hf, hr⟩ := spareWord_fields s s.srm.spares[i] _ (hc.result 0 (by omega))
    have h10 := hc.result 1 (by omega)
    have h11 := hc.result 2 (by omega)
    have h12 := hc.result 3 (by omega)
    refine ⟨_, _, rfl, hc, ho, hf.trans s.sparesIn_free, hr.trans s.sparesIn_retired, fun h => ?_, fun row p h => ?_,
      fun row a h => ?_, fun a h => ?_⟩
    all_goals
      simp only [State.spareWords, h] at h10 h11 h12
      rw [h] at hm
      exact ⟨hm, h10, h11, h12⟩
  · refine ⟨_, rfl, s.issue_answered 0x11 [i] _ .badParam [1] hb (by simp) ?_⟩
    unfold State.cmdSpareRead
    rw [s.presented_param 0x11 [i] (by simp) 0 (by simp)]
    exact dif_neg (show ¬ i.toNat < 16 by omega)

end Sys2Proof.Machine
end

section
/-! The ageing sweep, the coverage expiry and the ends of notice pulses and gaps (O50). -/

namespace Sys2Proof.Machine

/-! ### What a choice of a move leaves (R45, R46) -/

/-- A choice changes the entries, the map and the event unit alone. -/
theorem State.chooseMove_rest (s : State) : s.chooseMove =
    { s with ret := { s.ret with entries := s.chooseMove.ret.entries }, srm := s.chooseMove.srm, evu := s.chooseMove.evu } := by
  unfold State.chooseMove
  split
  · rfl
  · split
    · rfl
    · split <;> rfl

/-- A choice makes at most one WEAK entry MOVING. -/
theorem State.chooseMove_entries (s : State) (hn : (s.ret.entries.map (·.row)).Nodup) :
    EntriesMoved s.ret.entries s.chooseMove.ret.entries := by
  unfold State.chooseMove
  split
  · exact .refl _
  · rename_i e he
    have hold : s.oldestWeak = some e := by
      unfold State.weakToMove at he
      split at he
      · exact he
      · cases he
    obtain ⟨hw, k, hk, -⟩ := (s.oldestWeak_some e).1 hold
    have hmem := List.mem_of_getElem? hk
    split
    · exact .refl _
    · split
      · exact .refl _
      · refine List.forall₂_map_right_iff.2 (List.forall₂_same.2 fun x hx => ?_)
        by_cases hr : x.row = e.row
        · rw [if_pos hr, List.inj_on_of_nodup_map hn hx hmem hr]
          exact .inr ⟨hw, rfl⟩
        · rw [if_neg hr]
          exact .inl rfl

/-! ### The sweep (R40) -/

/-- A sweep's change to an entry it keeps. -/
def RowEntry.swept (e : RowEntry) : RowEntry :=
  { e with touched := false, state := if e.state = .moveFailed then .weak else e.state }

theorem sweepEntries_eq (es : List RowEntry) :
    sweepEntries es = (es.filter (fun e => e.touched || e.state != .tracking)).map RowEntry.swept := by
  unfold sweepEntries
  have hp (e : RowEntry) : (!(e.state == .tracking && !e.touched)) = (e.touched || e.state != .tracking) := by
    cases e.touched <;> cases e.state <;> rfl
  simp only [hp]
  rfl

theorem sweepEntries_nodup (es : List RowEntry) (hn : (es.map (·.row)).Nodup) :
    ((sweepEntries es).map (·.row)).Nodup := by
  rw [sweepEntries_eq, List.map_map]
  exact hn.sublist (List.filter_sublist.map _)

/-- The state a sweep leaves before any choice. -/
def State.sweptOnly (s : State) : State :=
  { s with ret := { entries := sweepEntries s.ret.entries, ageing := 0, sweepDue := false } }

theorem State.sweep_of_none (s : State) (h : ∀ e ∈ s.ret.entries, e.state ≠ .moveFailed) : s.sweep = s.sweptOnly := by
  have ha : s.ret.entries.any (fun e => e.state == .moveFailed) = false := by simpa using h
  unfold State.sweep
  rw [ha]
  rfl

theorem State.sweep_of_failed (s : State) (h : ∃ e ∈ s.ret.entries, e.state = .moveFailed) :
    s.sweep = s.sweptOnly.chooseMove := by
  have ha : s.ret.entries.any (fun e => e.state == .moveFailed) = true := by simpa using h
  unfold State.sweep
  rw [ha]
  rfl

/-- A sweep changes the row table, the map and the event unit alone. -/
theorem State.sweep_rest (s : State) : s.sweep = { s with
    ret := { entries := s.sweep.ret.entries, ageing := 0, sweepDue := false }, srm := s.sweep.srm, evu := s.sweep.evu } := by
  by_cases h : ∃ e ∈ s.ret.entries, e.state = .moveFailed
  · rw [s.sweep_of_failed h]
    exact s.sweptOnly.chooseMove_rest
  · rw [s.sweep_of_none fun e he hs => h ⟨e, he, hs⟩]
    rfl

theorem State.sweep_entries (s : State) (hn : (s.ret.entries.map (·.row)).Nodup) :
    EntriesMoved (sweepEntries s.ret.entries) s.sweep.ret.entries := by
  by_cases h : ∃ e ∈ s.ret.entries, e.state = .moveFailed
  · rw [s.sweep_of_failed h]
    exact s.sweptOnly.chooseMove_entries (sweepEntries_nodup _ hn)
  · rw [s.sweep_of_none fun e he hs => h ⟨e, he, hs⟩]
    exact .refl _

/-- The entries that a choice rewrites are as many as before. -/
theorem State.chooseMove_length (s : State) : s.chooseMove.ret.entries.length = s.ret.entries.length := by
  unfold State.chooseMove
  split
  · rfl
  · split
    · rfl
    · split
      · rfl
      · exact List.length_map ..

theorem State.sweep_length (s : State) : s.sweep.ret.entries.length =
    (s.ret.entries.filter (fun e => e.touched || e.state != .tracking)).length := by
  have hl : s.sweep.ret.entries.length = (sweepEntries s.ret.entries).length := by
    by_cases h : ∃ e ∈ s.ret.entries, e.state = .moveFailed
    · rw [s.sweep_of_failed h]
      exact s.sweptOnly.chooseMove_length
    · rw [s.sweep_of_none fun e he hs => h ⟨e, he, hs⟩]
      rfl
  rw [hl, sweepEntries_eq, List.length_map]

/-- A swept entry after the choice, as O50 says it. -/
theorem RowEntry.swept_moved (e e' : RowEntry)
    (h : e' = e.swept ∨ e.swept.state = .weak ∧ e' = { e.swept with state := .moving }) :
    e' = { e with touched := false, state := e'.state } ∧
      (e.state = .moveFailed → e'.state = .weak ∨ e'.state = .moving) ∧
      (e.state ≠ .moveFailed → e.state ≠ .weak → e'.state = e.state) := by
  obtain rfl | ⟨hw, rfl⟩ := h
  · exact ⟨rfl, fun hf => .inl (if_pos hf), fun hf _ => if_neg hf⟩
  · exact ⟨rfl, fun _ => .inr rfl, fun hf hn => absurd ((if_neg hf).symm.trans hw) hn⟩

/-! ### The lines at a rise (R169) -/

theorem Evu.setLine_line (e : Evu) (l k : NoticeName) (n : NoticeLine) :
    (e.setLine l n).line k = if k = l then n else e.line k := by
  cases l <;> cases k <;> rfl

theorem Evu.riseAt_line (e : Evu) (c : Settings) (i : Nat) (l k : NoticeName) : (e.riseAt c i l).line k =
    if k = l ∧ c.style l = .pulse ∧ c.routed i l = true then (e.line l).rise else e.line k := by
  unfold Evu.riseAt
  by_cases h : c.style l = .pulse ∧ c.routed i l = true
  · rw [if_pos (by simp [h.1, h.2]), Evu.setLine_line]
    simp [h.1, h.2]
  · rw [if_neg (by simpa using h), if_neg fun h' => h h'.2]

/-- A rise is taken by a line in PULSE style to which the flag is routed. -/
theorem State.fire_line (s : State) (ev : Event) (l : NoticeName) : (s.fire ev).evu.line l =
    if s.evu.flags.getLsbD ev.index = false ∧ s.cmi.settings.style l = .pulse ∧
        s.cmi.settings.routed ev.index l = true then (s.evu.line l).rise
    else s.evu.line l := by
  show (s.evu.report s.cmi.settings ev.index).line l = _
  unfold Evu.report
  cases hf : s.evu.flags.getLsbD ev.index with
  | true => simp
  | false =>
    rw [if_neg nofun, Evu.riseAt_line, Evu.riseAt_line, Evu.riseAt_line]
    cases l <;> simp <;> rfl

theorem anyRouted_iff (c : Settings) (flags : BitVec 24) (l : NoticeName) :
    anyRouted c flags l = true ↔ ∃ i, i < 24 ∧ flags.getLsbD i = true ∧ c.routed i l = true := by
  simp [anyRouted, List.any_eq_true]

/-- The end of a gap (R169). -/
theorem gapEnded_of_line {s t : State} {l : NoticeName} {n : NoticeLine} (hn : n.pending = (s.evu.line l).pending)
    (h : t.evu.line l = n.gapEnd (s.routedSet l)) : GapEnded s t l := by
  unfold NoticeLine.gapEnd at h
  rw [hn] at h
  have hr : s.routedSet l = true ↔ ∃ i, i < 24 ∧ s.evu.flags.getLsbD i = true ∧ s.cmi.settings.routed i l = true :=
    anyRouted_iff ..
  by_cases hp : (s.evu.line l).pending = true ∧ s.routedSet l = true
  · rw [if_pos (by simp [hp.1, hp.2])] at h
    refine ⟨_, h, fun _ => rfl, ?_⟩
    rintro (h0 | hno)
    · rw [hp.1] at h0; cases h0
    · obtain ⟨i, hi, hfl, hro⟩ := hr.1 hp.2
      rw [hno i hi hfl] at hro; cases hro
  · rw [if_neg (by simpa using hp)] at h
    exact ⟨_, h, fun hx => absurd ⟨hx.1, hr.2 hx.2⟩ hp, fun _ => rfl⟩

/-! ### The coverage expiry (R75) -/

/-- An event that fires and a counter that goes up with it. -/
theorem fired_counted (s : State) (ev : Event) (c : Counter) : Fired s ((s.fire ev).count c) [ev] ∧
    Counted s ((s.fire ev).count c) [c] ∧ CapturesKept s ((s.fire ev).count c) ∧ TimeKept s ((s.fire ev).count c) := by
  obtain ⟨hf, hc, hk, ht⟩ := fired_of_evu s (s.fire ev) ev rfl
  obtain ⟨hfl, htm, -, -, hcap⟩ := (s.fire ev).count_evu c
  refine ⟨fun e => ?_, fun d => ?_, fun k => (hcap k).trans (hk k), htm.trans ht⟩
  · unfold FlagSet
    rw [hfl]
    exact hf e
  · rw [State.count_counter, (State.fire_evu s ev).1]
    simp

/-- The line of a counter report is as before. -/
theorem State.count_line (s : State) (c : Counter) (l : NoticeName) : (s.count c).evu.line l = s.evu.line l := by
  obtain ⟨-, -, ha, hb, -⟩ := s.count_evu c
  cases l
  · exact ha
  · exact hb

/-- Settles O50. -/
theorem timersSweepLateAndNotice : Obligations.TimersSweepLateAndNotice := by
  refine ⟨fun s hd => ?_, fun s hd => ?_, fun s n hd hn => ?_, fun s h => ?_, fun s l hs hp ht => ?_, fun s l hs hp ht => ?_,
    fun s l h => ?_, fun s l h => ?_⟩
  · have hrest := s.sweep_rest
    refine ⟨s.sweep, by simp only [exec, execAgeingSweep, hd, if_true], by rw [hrest], by rw [hrest], fun hno => ?_,
      s.sweep_length, fun hl k e he => ?_, fun hl hf => ?_, ?_⟩
    · rw [s.sweep_of_none hno]
      refine ⟨rfl, ?_⟩
      show sweepEntries s.ret.entries = _
      rw [sweepEntries_eq]
      refine List.map_congr_left fun e he => ?_
      have := hno e (List.mem_of_mem_filter he)
      unfold RowEntry.swept
      rw [if_neg this]
    · have hk : (sweepEntries s.ret.entries)[k]? = some e.swept := by
        rw [sweepEntries_eq, List.getElem?_map, he]
        rfl
      obtain ⟨e', he', hm⟩ := forall₂_getElem? (s.sweep_entries hl.2) k _ hk
      exact ⟨e', he', e.swept_moved e' hm⟩
    · rw [s.sweep_of_failed hf]
      have hc := s.sweptOnly.chooseMove_chosen (sweepEntries_nodup _ hl.2)
      have he : s.sweptOnly.ret.entries = sweepEntries s.ret.entries := rfl
      rw [he, sweepEntries_eq] at hc
      exact hc.congr Iff.rfl rfl rfl id
    · rw [hrest]
  · simp only [exec, execAgeingSweep, hd]
    rfl
  · obtain ⟨hf, hc, hk, ht⟩ := fired_counted s .scrubLate .scrubLate
    have hline (l : NoticeName) : s.coverageLate.evu.line l = (s.fire .scrubLate).evu.line l := State.count_line ..
    refine ⟨s.coverageLate, by simp [exec, execCoverageTimerExpiry, hd, hn], rfl, hf, hc, hk, ht, fun l hs hr hfl => ?_,
      fun l h => ?_, rfl⟩
    · have hfl' : s.evu.flags.getLsbD Event.scrubLate.index = false := by simpa [FlagSet] using hfl
      rw [hline, s.fire_line, if_pos ⟨hfl', hs, hr⟩]
      unfold NoticeLine.rise
      cases hst : (s.evu.line l).state <;> simp
    · rw [hline, s.fire_line, if_neg]
      rintro ⟨hfl, hs, hr⟩
      obtain h | h | h := h
      · rw [h] at hs; cases hs
      · rw [show s.cmi.settings.routed Event.scrubLate.index l = false from h] at hr; cases hr
      · rw [show s.evu.flags.getLsbD Event.scrubLate.index = true from h] at hfl; cases hfl
  · obtain h | h := h <;> simp [exec, execCoverageTimerExpiry, h]
  · have hov : (s.evu.line l).pulseOver = true := by
      simp [NoticeLine.pulseOver, hp, show pulseTicks ≤ (s.evu.line l).ticks from ht]
    have hl : (s.setNotice l ((s.evu.line l).pulseEnd s.cmi.settings.noticeGap (s.routedSet l))).evu.line l =
        (s.evu.line l).pulseEnd s.cmi.settings.noticeGap (s.routedSet l) := by
      show (s.evu.setLine l _).line l = _
      rw [Evu.setLine_line, if_pos rfl]
    refine ⟨s.setNotice l _, by simp only [exec, execNoticePulseEnd, hs, hov]; rfl, fun hg => ?_, fun hg => ?_, fun k hk => ?_, ?_⟩
    · rw [hl]
      exact if_neg hg
    · refine gapEnded_of_line (n := { s.evu.line l with state := .holding, ticks := 0 }) rfl (hl.trans ?_)
      exact if_pos hg
    · show (s.evu.setLine l _).line k = _
      rw [Evu.setLine_line, if_neg hk]
    · cases l <;> rfl
  · have hov : (s.evu.line l).gapOver s.cmi.settings.noticeGap = true := by
      simp [NoticeLine.gapOver, hp, show ticksOf s.cmi.settings.noticeGap ≤ (s.evu.line l).ticks from ht]
    refine ⟨s.setNotice l _, by simp only [exec, execNoticeGapEnd, hs, hov]; rfl, gapEnded_of_line rfl ?_, fun k hk => ?_, ?_⟩
    · show (s.evu.setLine l _).line l = _
      rw [Evu.setLine_line, if_pos rfl]
    · show (s.evu.setLine l _).line k = _
      rw [Evu.setLine_line, if_neg hk]
    · cases l <;> rfl
  · have hov : ¬ (s.cmi.settings.style l = .pulse ∧ (s.evu.line l).pulseOver = true) := by
      unfold NoticeLine.pulseOver pulseTicks
      rw [Bool.and_eq_true, beq_iff_eq, decide_eq_true_iff]
      rintro ⟨hs, hp, ht⟩
      obtain h | h | h := h
      · rw [h] at hs; cases hs
      · exact h hp
      · omega
    show Host.Outcome.next _ = _
    rw [if_neg (by simpa using hov)]
  · have hov : ¬ (s.cmi.settings.style l = .pulse ∧ (s.evu.line l).gapOver s.cmi.settings.noticeGap = true) := by
      unfold NoticeLine.gapOver ticksOf
      rw [Bool.and_eq_true, beq_iff_eq, decide_eq_true_iff]
      rintro ⟨hs, hp, ht⟩
      obtain h | h | h := h
      · rw [h] at hs; cases hs
      · exact h hp
      · omega
    show Host.Outcome.next _ = _
    rw [if_neg (by simpa using hov)]

end Sys2Proof.Machine
end

section
/-! What the walks of PTL leave (R69 to R73, R79, R81): its own registers and the digest records at the start of a pass, at its
resumption and at a stop, for the statements that end a read or leave a mode. -/

namespace Sys2Proof.Machine

variable {r s t : State}

/-! ### Regions and sets follow the table -/

theorem State.region_of_rgt (h : t.rgt = s.rgt) : t.region = s.region := by
  unfold State.region
  rw [h]

theorem State.sets_of_rgt (h : t.rgt = s.rgt) : t.scrubSet = s.scrubSet ∧ t.digestRegions = s.digestRegions ∧
    t.validRegions = s.validRegions ∧ t.isDigestRegion = s.isDigestRegion ∧ t.regionWords = s.regionWords ∧
    t.wordAddress = s.wordAddress := by
  have hr := State.region_of_rgt h
  have hd : t.isDigestRegion = s.isDigestRegion := by
    unfold State.isDigestRegion
    rw [hr]
  refine ⟨?_, ?_, ?_, hd, ?_, ?_⟩
  · unfold State.scrubSet
    rw [hr]
  · unfold State.digestRegions
    rw [hd]
  · unfold State.validRegions
    rw [hr]
  · unfold State.regionWords
    rw [hr]
  · unfold State.wordAddress
    rw [hr]

theorem State.record_of_dgu (h : t.dgu = s.dgu) : t.record = s.record := by
  unfold State.record
  rw [h]

/-! ### The position (R69, R72) -/

theorem State.skip_of_nil (h : s.rse.repairList = []) : s.skip = s := by
  unfold State.skip State.skipListed
  split
  · rw [h, if_neg (by simp)]
  · rfl

/-- A word of a block that is not listed may be read. -/
theorem State.skip_of_free {pl : Place} (hp : s.ptl.place = some pl)
    (h : blockOf (s.wordAddress pl.region pl.word) ∉ s.rse.repairList) : s.skip = s := by
  unfold State.skip State.skipListed
  split
  · rename_i hq
    rw [hp] at hq
    cases hq
    exact if_neg h
  · rfl

theorem State.rides_of_nil (h : s.rse.repairList = []) (i : Fin 32) :
    s.rides i = (s.isDigestRegion i && (s.record i).valid) := by
  unfold State.rides State.regionListed
  rw [h]
  simp

theorem State.enterScrub_ptl (s : State) (i : Fin 32) :
    (s.enterScrub i).ptl = { s.ptl with place := some { region := i, word := 0 }, riding := s.rides i } := rfl

theorem State.enterScrub_record (s : State) (i j : Fin 32) : (s.enterScrub i).record j =
    if j = i ∧ s.rides i = true then { s.record i with running := true, acc := 0, pointer := 0 } else s.record j := by
  show (if s.rides i then s.updateRecord i DigestRecord.auditStart else s).record j = _
  by_cases h : s.rides i = true
  · rw [if_pos h, State.updateRecord_record]
    simp [h, DigestRecord.auditStart]
  · rw [if_neg h, if_neg fun hj => h hj.2]

theorem State.beginPass_head {i : Fin 32} (h : s.scrubSet.head? = some i) : s.beginPass = s.enterScrub i := by
  obtain ⟨is, hs⟩ := List.head?_eq_some_iff.1 h
  unfold State.beginPass
  rw [hs]

theorem State.beginPass_ptl (s : State) : s.beginPass.ptl = { s.ptl with
    place := s.beginPass.ptl.place, riding := s.beginPass.ptl.riding } := by
  unfold State.beginPass
  split <;> rfl

/-! ### A pass starts (R68) -/

/-- The registers of a pass that starts. -/
def Ptl.started : Ptl := { Ptl.initial with kind := .scrub, timer := some 0 }

theorem State.startScrub_of_nil (h : s.rse.repairList = []) : s.startScrub = (s.setPtl Ptl.started).beginPass :=
  State.skip_of_nil (by simpa using h)

theorem State.startScrub_ptl (h : s.rse.repairList = []) : s.startScrub.ptl = { Ptl.started with
    place := s.startScrub.ptl.place, riding := s.startScrub.ptl.riding } := by
  rw [State.startScrub_of_nil h]
  exact State.beginPass_ptl _

/-- The pass comes to the first region of the scrub set. -/
theorem State.startScrub_head (h : s.rse.repairList = []) {i : Fin 32} (hi : s.scrubSet.head? = some i) :
    s.startScrub.ptl.place = some { region := i, word := 0 } ∧
      s.startScrub.ptl.riding = (s.isDigestRegion i && (s.record i).valid) ∧
      ∀ j, s.startScrub.record j = if j = i ∧ s.startScrub.ptl.riding = true then
        { s.record i with running := true, acc := 0, pointer := 0 } else s.record j := by
  rw [State.startScrub_of_nil h, State.beginPass_head (s := s.setPtl Ptl.started) hi]
  have hrides : (s.setPtl Ptl.started).rides i =
      (s.isDigestRegion i && (s.record i).valid) := State.rides_of_nil (s := s.setPtl Ptl.started) h i
  exact ⟨rfl, hrides, fun j => State.enterScrub_record _ i j⟩

/-! ### An audit stops, a suspended pass goes on (R81, R82) -/

theorem State.stopAuditHere_record (s : State) (j : Fin 32) : s.stopAuditHere.record j =
    if s.ptl.place.map (·.region) = some j then { s.record j with running := false } else s.record j := by
  unfold State.stopAuditHere
  cases hp : s.ptl.place with
  | none => simp
  | some pl =>
    dsimp only [Option.map_some]
    rw [State.updateRecord_record]
    by_cases h : j = pl.region
    · rw [if_pos h, if_pos (by rw [h]), h]
      rfl
    · rw [if_neg h, if_neg fun h' => h (Option.some.inj h').symm]

/-- The registers of a pass that goes on. -/
def Ptl.resumed (x : Ptl) (place : Option Place) (ride : Bool) : Ptl :=
  { x with kind := .scrub, place, riding := ride, suspended := none, auditList := [], asked := [] }

theorem State.resumeScrub_of_ne (h : s.rse.repairList = []) {pl : Place} {ride : Bool}
    (hs : s.ptl.suspended = some (some pl, ride)) (hw : pl.word ≠ 0) :
    s.resumeScrub = s.setPtl (s.ptl.resumed (some pl) ride) := by
  unfold State.resumeScrub
  rw [hs]
  dsimp only
  rw [if_neg hw]
  exact State.skip_of_nil h

theorem State.resumeScrub_of_zero (h : s.rse.repairList = []) {pl : Place} {ride : Bool}
    (hs : s.ptl.suspended = some (some pl, ride)) (hw : pl.word = 0) :
    s.resumeScrub = (s.setPtl (s.ptl.resumed (some pl) ride)).enterScrub pl.region := by
  unfold State.resumeScrub
  rw [hs]
  dsimp only
  rw [if_pos hw]
  exact State.skip_of_nil (by simpa using h)

/-- A pass that goes on is a SCRUB pass, wherever it stood. -/
theorem State.resumeScrub_kind (h : s.rse.repairList = []) (hs : s.ptl.suspended ≠ none) :
    s.resumeScrub.ptl.kind = .scrub := by
  unfold State.resumeScrub
  split
  · rename_i hn
    exact absurd hn hs
  · dsimp only
    split
    · split
      · rw [State.skip_of_nil (by simpa using h)]
        rfl
      · rw [State.skip_of_nil (by simpa using h)]
        rfl
    · rfl

/-! ### Digests stand under every walk (R124) -/

/-- Every record keeps its value and its validity. -/
def DigestsStand (s t : State) : Prop :=
  ∀ i, (t.record i).valid = (s.record i).valid ∧ (t.record i).digest = (s.record i).digest

theorem DigestsStand.refl (s : State) : DigestsStand s s := fun _ => ⟨rfl, rfl⟩

theorem DigestsStand.of_dgu (h : DigestsStand r s) (hd : t.dgu = s.dgu) : DigestsStand r t := by
  unfold DigestsStand
  rw [State.record_of_dgu hd]
  exact h

theorem DigestsStand.setPtl (h : DigestsStand r s) (x : Ptl) : DigestsStand r (s.setPtl x) := h

theorem DigestsStand.updateRecord (h : DigestsStand r s) (i : Fin 32) (f : DigestRecord → DigestRecord)
    (hf : ∀ x, (f x).valid = x.valid ∧ (f x).digest = x.digest) : DigestsStand r (s.updateRecord i f) := by
  intro j
  rw [State.updateRecord_record]
  split
  · rename_i hj
    rw [hj, (hf _).1, (hf _).2]
    exact h i
  · exact h j

theorem DigestsStand.auditStop (h : DigestsStand r s) (i : Fin 32) :
    DigestsStand r (s.updateRecord i DigestRecord.auditStop) := h.updateRecord i _ fun _ => ⟨rfl, rfl⟩

theorem DigestsStand.enterScrub (h : DigestsStand r s) (i : Fin 32) : DigestsStand r (s.enterScrub i) := by
  unfold State.enterScrub
  split
  · exact (h.updateRecord i DigestRecord.auditStart fun _ => ⟨rfl, rfl⟩).setPtl _
  · exact h.setPtl _

theorem DigestsStand.beginPass (h : DigestsStand r s) : DigestsStand r s.beginPass := by
  unfold State.beginPass
  split
  · exact h.enterScrub _
  · exact h.setPtl _

theorem DigestsStand.scrubTo (h : DigestsStand r s) (i : Fin 32) (w : Nat) : DigestsStand r (s.scrubTo i w) := by
  unfold State.scrubTo State.nextScrubRegion
  split
  · exact h.setPtl _
  · split
    · exact h.enterScrub _
    · exact DigestsStand.beginPass (((h.of_dgu (t := s.count .scrubPasses) (by simp)).setPtl _))

theorem DigestsStand.skipListed (k : Nat) (h : DigestsStand r s) : DigestsStand r (State.skipListed k s) := by
  induction k generalizing s with
  | zero => exact h
  | succ k ih =>
    unfold State.skipListed
    split
    · split
      · exact ih (h.scrubTo _ _)
      · exact h
    · exact h

theorem DigestsStand.skip (h : DigestsStand r s) : DigestsStand r s.skip := h.skipListed _

theorem DigestsStand.startScrub (h : DigestsStand r s) : DigestsStand r s.startScrub := (h.setPtl _).beginPass.skip

theorem DigestsStand.stopAuditHere (h : DigestsStand r s) : DigestsStand r s.stopAuditHere := by
  unfold State.stopAuditHere
  split
  · exact h.auditStop _
  · exact h

theorem DigestsStand.resumeScrub (h : DigestsStand r s) : DigestsStand r s.resumeScrub := by
  unfold State.resumeScrub
  split
  · exact h
  · dsimp only
    split
    · split
      · exact ((h.setPtl _).enterScrub _).skip
      · exact (h.setPtl _).skip
    · exact h.setPtl _

theorem DigestsStand.patrolIsolated (h : DigestsStand r s) (m : Mode) : DigestsStand r (s.patrolIsolated m) := by
  have hf : DigestsStand r (s.forget WordOp.ofS) := h
  unfold State.patrolIsolated
  split
  · exact hf.startScrub
  · exact h.startScrub
  · split
    · exact hf.stopAuditHere.startScrub
    · exact h.startScrub
  · split
    · exact hf.stopAuditHere.resumeScrub
    · exact h.setPtl _

end Sys2Proof.Machine
end

section
/-! An isolation (R122): the part when its services have ended, the patrol after it (Table 5.3), and SRM's occasion (R45). -/

namespace Sys2Proof.Machine

variable {r s t : State}

/-! ### The group in flight under an owner that stops its work -/

/-- The group at the port is as before, but that an owner other than SRM may no longer wait for it. -/
def GroupKept (s t : State) : Prop :=
  ∃ who : WordOp → Bool, (∀ a, who (.moveCopy a) = false) ∧ t.msq = (s.forget who).msq

theorem GroupKept.of_msq (h : t.msq = s.msq) : GroupKept s t := by
  refine ⟨fun _ => false, fun _ => rfl, h.trans ?_⟩
  unfold State.forget
  cases hp : s.msq.port <;> simp [← hp]

theorem GroupKept.forget (h : GroupKept r s) (who : WordOp → Bool) (hw : ∀ a, who (.moveCopy a) = false) :
    GroupKept r (s.forget who) := by
  obtain ⟨who', hw', hs⟩ := h
  refine ⟨fun o => who' o || who o, fun a => by simp [hw, hw'], ?_⟩
  unfold State.forget at hs ⊢
  dsimp only
  rw [hs]
  cases r.msq.port with
  | none => rfl
  | some g => cases h1 : who' g.op <;> cases h2 : who g.op <;> simp [h1, h2]

theorem GroupKept.congr (h : GroupKept r s) (ht : t.msq = s.msq) : GroupKept r t := by
  obtain ⟨who, hw, hs⟩ := h
  exact ⟨who, hw, ht.trans hs⟩

theorem GroupKept.trans (h : GroupKept r s) (k : GroupKept s t) : GroupKept r t := by
  obtain ⟨who, hw, ht⟩ := k
  exact (h.forget who hw).congr ht

theorem GroupKept.port_none (h : GroupKept s t) : t.msq.port = none ↔ s.msq.port = none := by
  obtain ⟨who, -, ht⟩ := h
  rw [ht]
  exact Option.map_eq_none_iff

/-- Whether a copy that RESTART has ended is in flight is as before. -/
theorem GroupKept.endedCopy (h : GroupKept s t) :
    (∃ g a, t.msq.port = some g ∧ g.op = .moveCopy a ∧ g.live = false) ↔
      ∃ g a, s.msq.port = some g ∧ g.op = .moveCopy a ∧ g.live = false := by
  obtain ⟨who, hw, ht⟩ := h
  rw [ht]
  unfold State.forget
  cases s.msq.port with
  | none => simp
  | some g =>
    dsimp only [Option.map_some]
    constructor
    · rintro ⟨g', a, hg, ho, hl⟩
      refine ⟨g, a, rfl, ?_⟩
      obtain rfl := Option.some.inj hg
      split at ho
      · rename_i hwho
        rw [show g.op = .moveCopy a from ho, hw] at hwho
        cases hwho
      · rename_i hwho
        rw [if_neg hwho] at hl
        exact ⟨ho, hl⟩
    · rintro ⟨g', a, hg, ho, hl⟩
      obtain rfl := Option.some.inj hg
      exact ⟨g, a, by rw [ho, hw]; rfl, ho, hl⟩

theorem GroupKept.movePermitted (h : GroupKept s t) (hs : t.srm = s.srm) (m : Mode) :
    MovePermitted t m ↔ MovePermitted s m := by
  unfold MovePermitted
  rw [hs, h.endedCopy]

/-- SRM's occasion in a mode just entered, with the row table and the map as they were before. -/
theorem GroupKept.chosen (h : GroupKept s t) (hn : RowTableLaw s) (hr : t.ret = s.ret) (hs : t.srm = s.srm) :
    MoveChosen s.srm s.ret.entries (MovePermitted s t.mdc.mode) (s.msq.port ≠ none) t.chooseMove := by
  have hc := t.chooseMove_chosen (by rw [hr]; exact hn.2)
  rw [hr, hs] at hc
  have hw : (t.msq.port ≠ none) = (s.msq.port ≠ none) := by rw [ne_eq, ne_eq, h.port_none]
  rw [hw] at hc
  exact hc.congr (h.movePermitted hs _).symm rfl rfl id

/-! ### The services have ended -/

theorem State.endServices_rse (s : State) (w : Word) (b : Bool) : (s.endServices w b).rse =
    { service := none, reentry := none, repair := none, repairList := [] } := by
  have h1 : ((s.endService (some w)).endReentry w).rse.service = none := by simp [s.endService_rse]
  have h2 : ((s.endService (some w)).endReentry w).rse.reentry = none := by
    cases hv : (s.endService (some w)).rse.reentry with
    | none => rw [State.endReentry_none _ w hv, hv]
    | some v =>
      rw [State.endReentry_some _ w v hv]
      rfl
  have h3 : (s.servicesOver w b).rse.repair = none := by
    unfold State.servicesOver
    cases hv : ((s.endService (some w)).endReentry w).rse.repair with
    | none => rw [State.endRepair_none _ w b hv, hv]
    | some v =>
      rw [State.endRepair_some _ w b v hv]
      rfl
  have h1' : (s.servicesOver w b).rse.service = none := by simpa [State.servicesOver] using h1
  have h2' : (s.servicesOver w b).rse.reentry = none := by simpa [State.servicesOver] using h2
  show { (s.servicesOver w b).rse with repairList := [] } = _
  cases hr : (s.servicesOver w b).rse
  simp only [hr] at h1' h2' h3
  rw [h1', h2', h3]

theorem State.endServices_port (s : State) (w : Word) (b : Bool) : GroupKept s (s.endServices w b) := by
  have h1 : GroupKept s (s.endService (some w)) := by
    unfold State.endService
    split
    · exact .of_msq rfl
    · exact (GroupKept.forget (.of_msq (by simp)) WordOp.ofCopy fun _ => rfl).congr rfl
  have h2 : GroupKept s (s.servicesOver w b) := h1.congr (by unfold State.servicesOver; simp)
  exact (h2.forget WordOp.ofTarget fun _ => rfl).congr rfl

/-- The ports of a part whose services have ended at an isolation, but for the transmit queues, which the ABANDONs enter. -/
theorem State.servicesOver_isolated (s : State) (w : Word) (v : Repair) (hp : s.rse.repair = some v)
    (hs : s.rse.service = none) (hr : s.rse.reentry = none) :
    (v.phase ≠ .auditing → v.triedA = true ∨ v.triedB = true →
      ((s.servicesOver w true).link v.asked).tx = queued (s.link v.asked) (.abandon w)) ∧
    (v.phase = .auditing ∨ v.triedA = false ∧ v.triedB = false → ∀ q, ((s.servicesOver w true).link q).tx = (s.link q).tx) := by
  unfold State.servicesOver
  rw [s.endService_none _ hs, s.endReentry_none w hr]
  refine ⟨fun hph ht => ?_, fun h q => ?_⟩
  · have ha : v.abandons true = true := by
      unfold Repair.abandons Repair.hasAsked
      rw [Bool.or_eq_true_iff.2 ht]
      simpa using hph
    rw [s.endRepair_link, hp, Option.filter_some, ha]
    exact if_pos rfl
  · have ha : v.abandons true = false := by
      unfold Repair.abandons Repair.hasAsked
      obtain h | ⟨h1, h2⟩ := h
      · rw [h]; simp
      · rw [h1, h2]; rfl
    rw [s.endRepair_link, hp, Option.filter_some, ha]
    rfl

/-- The part at an isolation when its services have ended, its vote stands and its events have fired; the patrol and SRM are
to follow. -/
def State.isolatedOver (s : State) (c : Cause) : State :=
  ((({ s.setMode .isolated with mdc := { mode := .isolated, chen := false, cause := c } } : State).voteIsolated.endServices
    c.reason true).fire .isolated).fire .modeChanged

theorem State.isolateFor_eq (s : State) (c : Cause) (h : s.mdc.mode.isolable = true) :
    s.isolateFor c = ((s.isolatedOver c).patrolIsolated s.mdc.mode).chooseMove := if_pos h

@[simp] theorem State.isolatedOver_frame (s : State) (c : Cause) :
    (s.isolatedOver c).chanId = s.chanId ∧ (s.isolatedOver c).msize = s.msize ∧ (s.isolatedOver c).txi = s.txi ∧
    (s.isolatedOver c).rgt = s.rgt ∧ (s.isolatedOver c).ret = s.ret ∧ (s.isolatedOver c).srm = s.srm ∧
    (s.isolatedOver c).dgu = s.dgu ∧ (s.isolatedOver c).ptl = s.ptl ∧
    (s.isolatedOver c).vtu = s.voteIsolated.vtu ∧
    (s.isolatedOver c).mdc = { mode := .isolated, chen := false, cause := c } ∧
    (s.isolatedOver c).rse = { service := none, reentry := none, repair := none, repairList := [] } ∧
    (s.isolatedOver c).cmi = s.cmi ∧ (s.isolatedOver c).mem = s.mem ∧ (s.isolatedOver c).pending = s.pending := by
  unfold State.isolatedOver
  simp [State.endServices_rse]
  rfl

theorem State.isolatedOver_port (s : State) (c : Cause) : GroupKept s (s.isolatedOver c) :=
  let x : State := ({ s.setMode .isolated with mdc := { mode := .isolated, chen := false, cause := c } } : State).voteIsolated
  show GroupKept x (s.isolatedOver c) from (x.endServices_port c.reason true).congr rfl

theorem State.isolatedOver_link (s : State) (c : Cause) (p : Port) : (s.isolatedOver c).link p =
    { s.link p with tx := ((s.servicesOver c.reason true).link p).tx, work := none } := by
  let x : State := ({ s.setMode .isolated with mdc := { mode := .isolated, chen := false, cause := c } } : State).voteIsolated
  have hx : ((x.servicesOver c.reason true).link p).tx = ((s.servicesOver c.reason true).link p).tx := by
    unfold State.servicesOver
    simp only [State.endRepair_link, State.endReentry_link, State.endService_link, State.endReentry_frame,
      State.endService_frame]
    rfl
  show (x.endServices c.reason true).link p = _
  rw [x.endServices_link, x.servicesOver_link, hx]
  rfl

theorem State.isolatedOver_flag (s : State) (c : Cause) (ev : Event) : FlagSet (s.isolatedOver c) ev ↔ FlagSet s ev ∨
    ev = .isolated ∨ ev = .modeChanged ∨
      ev = .serviceEnded ∧ (s.rse.service ≠ none ∨ s.rse.reentry ≠ none ∨ s.rse.repair ≠ none) := by
  let x : State := ({ s.setMode .isolated with mdc := { mode := .isolated, chen := false, cause := c } } : State).voteIsolated
  have hx := (x.endServices_reported c.reason true).flags ev
  have hs : FlagSet x ev ↔ FlagSet s ev := Iff.rfl
  have hr : x.rse = s.rse := rfl
  have ht : s.isolatedOver c = ((x.endServices c.reason true).fire .isolated).fire .modeChanged := rfl
  rw [hs, hr] at hx
  unfold FlagSet at hx ⊢
  rw [ht, State.fire_flag, State.fire_flag, Bool.or_eq_true, Bool.or_eq_true, hx, decide_eq_true_iff, decide_eq_true_iff]
  tauto

/-! ### The patrol follows (Table 5.3) -/

theorem State.patrolIsolated_port (s : State) (old : Mode) : GroupKept s (s.patrolIsolated old) := by
  have hf : GroupKept s (s.forget WordOp.ofS) := (GroupKept.of_msq rfl).forget _ fun _ => rfl
  unfold State.patrolIsolated
  split
  · exact hf.congr (by simp)
  · exact .of_msq (by simp)
  · split
    · exact hf.congr (by simp)
    · exact .of_msq (by simp)
  · split
    · exact hf.congr (by simp)
    · exact .of_msq rfl

/-- From CLEARING, REENTRY and VERIFY a SCRUB pass starts, and the audit in progress of VERIFY has stopped. -/
theorem State.patrolIsolated_starts (s : State) (old : Mode)
    (hm : old = .clearing ∨ old = .reentry ∨ old = .verify) :
    ∃ x : State, s.patrolIsolated old = x.startScrub ∧ x.rgt = s.rgt ∧ x.rse = s.rse ∧
      ∀ j, x.record j = if old = .verify ∧ s.ptl.kind = .verifyAudit ∧ s.ptl.place.map (·.region) = some j then
        { s.record j with running := false } else s.record j := by
  obtain rfl | rfl | rfl := hm
  · exact ⟨_, rfl, rfl, rfl, fun j => (if_neg nofun).symm⟩
  · exact ⟨_, rfl, rfl, rfl, fun j => (if_neg nofun).symm⟩
  · unfold State.patrolIsolated
    by_cases hk : s.ptl.kind = .verifyAudit
    · refine ⟨_, if_pos hk, by simp, by simp, fun j => ?_⟩
      rw [State.stopAuditHere_record]
      simp [hk]
      rfl
    · exact ⟨s, if_neg hk, rfl, rfl, fun j => (if_neg fun h => hk h.2.1).symm⟩

/-- From SYNC, RUN, REPAIR and READY the SCRUB pass goes on. -/
theorem State.patrolIsolated_goesOn (s : State) (old : Mode)
    (hm : old = .sync ∨ old = .run ∨ old = .repair ∨ old = .ready) (hk : s.ptl.kind ≠ .repairAudit) :
    s.patrolIsolated old = s.setPtl { s.ptl with asked := [] } := by
  unfold State.patrolIsolated
  obtain rfl | rfl | rfl | rfl := hm <;> exact if_neg hk

/-- A repair audit in progress is stopped, and the suspended pass goes on. -/
theorem State.patrolIsolated_resumes (s : State) (old : Mode)
    (hm : old = .sync ∨ old = .run ∨ old = .repair ∨ old = .ready) (hk : s.ptl.kind = .repairAudit) :
    s.patrolIsolated old = ((s.forget WordOp.ofS).stopAuditHere).resumeScrub := by
  unfold State.patrolIsolated
  obtain rfl | rfl | rfl | rfl := hm <;> exact if_pos hk

/-! ### The isolation whole -/

theorem Mode.isolable_iff (m : Mode) :
    m.isolable = true ↔ m ≠ .start ∧ m ≠ .load ∧ m ≠ .loaded ∧ m ≠ .isolated := by
  cases m <;> simp [Mode.isolable]

/-- The registers of PTL and the records are those that the patrol has left. -/
theorem State.isolateFor_patrol (s : State) (c : Cause) (h : s.mdc.mode.isolable = true) :
    (s.isolateFor c).ptl = ((s.isolatedOver c).patrolIsolated s.mdc.mode).ptl ∧
      (s.isolateFor c).dgu = ((s.isolatedOver c).patrolIsolated s.mdc.mode).dgu := by
  rw [s.isolateFor_eq c h]
  simp

theorem State.isolateFor_rse (s : State) (c : Cause) (h : s.mdc.mode.isolable = true) :
    (s.isolateFor c).rse = { service := none, reentry := none, repair := none, repairList := [] } := by
  rw [s.isolateFor_eq c h]
  simp

theorem State.isolateFor_link (s : State) (c : Cause) (h : s.mdc.mode.isolable = true) (p : Port) :
    (s.isolateFor c).link p = { s.link p with tx := ((s.servicesOver c.reason true).link p).tx, work := none } := by
  rw [← s.isolatedOver_link, s.isolateFor_eq c h]
  unfold State.link
  simp

theorem State.isolateFor_port (s : State) (c : Cause) : GroupKept s (s.isolateFor c) := by
  by_cases h : s.mdc.mode.isolable = true
  · rw [s.isolateFor_eq c h]
    exact ((s.isolatedOver_port c).trans (State.patrolIsolated_port _ s.mdc.mode)).congr (by simp)
  · unfold State.isolateFor
    rw [if_neg h]
    exact .of_msq rfl

theorem State.isolateFor_flag (s : State) (c : Cause) (h : s.mdc.mode.isolable = true) (ev : Event)
    (he : FlagSet (s.isolatedOver c) ev) : FlagSet (s.isolateFor c) ev := by
  rw [s.isolateFor_eq c h]
  exact ((Aftermath.refl _).patrolIsolated s.mdc.mode).chooseMove.flags ev he

/-- The end of a service is reported. -/
theorem State.isolateFor_ended (s : State) (c : Cause) (h : s.mdc.mode.isolable = true)
    (hs : s.rse.service ≠ none ∨ s.rse.reentry ≠ none ∨ s.rse.repair ≠ none) :
    FlagSet (s.isolateFor c) .serviceEnded :=
  s.isolateFor_flag c h _ ((s.isolatedOver_flag c _).2 (.inr (.inr (.inr ⟨rfl, hs⟩))))

/-- SRM's occasion at the change into ISOLATED. -/
theorem State.isolateFor_chosen (s : State) (c : Cause) (h : s.mdc.mode.isolable = true) (hn : RowTableLaw s) :
    MoveChosen s.srm s.ret.entries (MovePermitted s .isolated) (s.msq.port ≠ none) (s.isolateFor c) := by
  have hk := (s.isolatedOver_port c).trans ((s.isolatedOver c).patrolIsolated_port s.mdc.mode)
  have hc := hk.chosen hn (by simp) (by simp)
  rw [s.isolateFor_eq c h]
  simpa using hc

theorem State.isolateFor_digests (s : State) (c : Cause) : DigestsStand s (s.isolateFor c) := by
  by_cases h : s.mdc.mode.isolable = true
  · rw [s.isolateFor_eq c h]
    exact (((DigestsStand.refl s).of_dgu (t := s.isolatedOver c) (by simp)).patrolIsolated s.mdc.mode).of_dgu (by simp)
  · unfold State.isolateFor
    rw [if_neg h]
    exact .refl s

/-- What R122 says of an isolation. -/
theorem State.isolateFor_isolated (s : State) (c : Cause) (h : s.mdc.mode.isolable = true) :
    Isolated s (s.isolateFor c) c := by
  have hflag (ev : Event) (he : ev = .isolated ∨ ev = .modeChanged) : FlagSet (s.isolateFor c) ev :=
    s.isolateFor_flag c h ev ((s.isolatedOver_flag c ev).2 (.inr (he.imp_right .inl)))
  have hv : (s.isolateFor c).vtu = s.voteIsolated.vtu := by
    rw [s.isolateFor_eq c h]
    simp
  refine ⟨(s.isolateFor_mdc c h).1, ?_, ?_, ?_, ?_, ?_, s.isolateFor_rse c h, fun p => ?_, s.isolateFor_digests c,
    hflag _ (.inl rfl), hflag _ (.inr rfl), by simp, State.eq_of_blocks (by simp)⟩
  · rw [hv]; rfl
  · rw [hv]; rfl
  · rw [hv]; rfl
  · rw [hv]
    show (s.vtu.records.map VoteRecord.close).map _ = _
    rw [List.map_map]
    refine List.map_congr_left fun r _ => ?_
    show r.close.cycle = r.cycle
    unfold VoteRecord.close
    split <;> rfl
  · rw [hv]
    intro r hr
    obtain ⟨q, -, rfl⟩ := List.mem_map.1 hr
    unfold VoteRecord.close
    split
    · exact nofun
    · rename_i ho
      exact fun hn => ho (by simp [hn])
  · rw [s.isolateFor_link c h]
    exact ⟨rfl, rfl, rfl⟩

end Sys2Proof.Machine
end

section
/-! ISOLATE (O39): the isolation of section 8.3 on the state that the command is put into. -/

namespace Sys2Proof.Machine

variable {s : State}

/-! ### The patrol at an isolation, as the statement says it -/

/-- The mode left was CLEARING, REENTRY or VERIFY. -/
theorem State.isolateFor_starts (s : State) (c : Cause) (h : s.mdc.mode.isolable = true)
    (hm : s.mdc.mode = .clearing ∨ s.mdc.mode = .reentry ∨ s.mdc.mode = .verify) :
    let t := s.isolateFor c
    t.ptl.kind = .scrub ∧ t.ptl.timer = some 0 ∧ t.ptl.suspended = none ∧ t.ptl.auditList = [] ∧
      ∀ i, s.scrubSet.head? = some i → t.ptl.place = some { region := i, word := 0 } ∧
        t.ptl.riding = (s.isDigestRegion i && (s.record i).valid) ∧
        (t.ptl.riding = true → t.record i = { s.record i with running := true, acc := 0, pointer := 0 }) ∧
        ∀ a, s.mdc.mode = .verify → s.ptl.kind = .verifyAudit → s.ptl.place = some a →
          a.region ≠ i ∨ t.ptl.riding = false → t.record a.region = { s.record a.region with running := false } := by
  obtain ⟨hptl, hdgu⟩ := s.isolateFor_patrol c h
  obtain ⟨x, hx, hrgt, hrse, hrec⟩ := (s.isolatedOver c).patrolIsolated_starts s.mdc.mode hm
  have hnil : x.rse.repairList = [] := by rw [hrse]; simp
  have hsets := State.sets_of_rgt (s := s) (t := x) (hrgt.trans (by simp))
  have hover : (s.isolatedOver c).record = s.record := State.record_of_dgu (by simp)
  have hoptl : (s.isolatedOver c).ptl = s.ptl := by simp
  rw [hover, hoptl] at hrec
  rw [hx] at hptl hdgu
  dsimp only
  rw [State.record_of_dgu hdgu, hptl]
  have hregs := State.startScrub_ptl hnil
  refine ⟨by rw [hregs]; rfl, by rw [hregs]; rfl, by rw [hregs]; rfl, by rw [hregs]; rfl, fun i hi => ?_⟩
  obtain ⟨hplace, hride, hstart⟩ := State.startScrub_head hnil (by rw [hsets.1, hi])
  have hvalid : (x.record i).valid = (s.record i).valid := by rw [hrec]; split <;> rfl
  refine ⟨hplace, by rw [hride, hsets.2.2.2.1, hvalid], fun hr => ?_, fun a hv hk ha hor => ?_⟩
  · rw [hstart i, if_pos ⟨rfl, hr⟩, hrec]
    split <;> rfl
  · rw [hstart, if_neg, hrec, if_pos ⟨hv, hk, by rw [ha]; rfl⟩]
    rintro ⟨hai, hr⟩
    obtain h | h := hor
    · exact h hai
    · rw [h] at hr; cases hr

/-- The mode left was SYNC, RUN, REPAIR or READY, in a SCRUB pass. -/
theorem State.isolateFor_goesOn (s : State) (c : Cause)
    (hm : s.mdc.mode = .sync ∨ s.mdc.mode = .run ∨ s.mdc.mode = .repair ∨ s.mdc.mode = .ready)
    (hk : s.ptl.kind ≠ .repairAudit) :
    (s.isolateFor c).ptl = { s.ptl with asked := [] } ∧ (s.isolateFor c).record = s.record := by
  have h : s.mdc.mode.isolable = true := by obtain h | h | h | h := hm <;> rw [h] <;> rfl
  obtain ⟨hptl, hdgu⟩ := s.isolateFor_patrol c h
  have hoptl : (s.isolatedOver c).ptl = s.ptl := by simp
  rw [State.patrolIsolated_goesOn _ _ hm (by rw [hoptl]; exact hk)] at hptl hdgu
  refine ⟨hptl.trans ?_, State.record_of_dgu (hdgu.trans ?_)⟩
  · show { (s.isolatedOver c).ptl with asked := [] } = _
    rw [hoptl]
  · show (s.isolatedOver c).dgu = _
    simp

/-- A repair audit was in progress, with the pass suspended at a word. -/
theorem State.isolateFor_resumes (s : State) (c : Cause)
    (hm : s.mdc.mode = .sync ∨ s.mdc.mode = .run ∨ s.mdc.mode = .repair ∨ s.mdc.mode = .ready) (pl : Place) (ride : Bool)
    (hk : s.ptl.kind = .repairAudit) (hs : s.ptl.suspended = some (some pl, ride)) :
    let t := s.isolateFor c
    t.ptl.kind = .scrub ∧ t.ptl.place = some pl ∧ t.ptl.timer = s.ptl.timer ∧ t.ptl.suspended = none ∧
      t.ptl.auditList = [] ∧ (pl.word ≠ 0 → t.ptl.riding = ride) ∧
      (pl.word = 0 → t.ptl.riding = (s.isDigestRegion pl.region && (s.record pl.region).valid) ∧
        (t.ptl.riding = true →
          t.record pl.region = { s.record pl.region with running := true, acc := 0, pointer := 0 })) ∧
      ∀ a, s.ptl.place = some a → (pl.word ≠ 0 ∨ a.region ≠ pl.region ∨ t.ptl.riding = false) →
        t.record a.region = { s.record a.region with running := false } := by
  have h : s.mdc.mode.isolable = true := by obtain h | h | h | h := hm <;> rw [h] <;> rfl
  obtain ⟨hptl, hdgu⟩ := s.isolateFor_patrol c h
  have hoptl : (s.isolatedOver c).ptl = s.ptl := by simp
  rw [State.patrolIsolated_resumes _ _ hm (by rw [hoptl]; exact hk)] at hptl hdgu
  let y : State := ((s.isolatedOver c).forget WordOp.ofS).stopAuditHere
  have hyptl : y.ptl = s.ptl := by simp [y]
  have hynil : y.rse.repairList = [] := by simp [y]
  have hyrgt : y.rgt = s.rgt := by simp [y]
  have hyrec (j : Fin 32) : y.record j =
      if s.ptl.place.map (·.region) = some j then { s.record j with running := false } else s.record j := by
    have hover : ((s.isolatedOver c).forget WordOp.ofS).record = s.record := State.record_of_dgu (by simp)
    have hp : ((s.isolatedOver c).forget WordOp.ofS).ptl = s.ptl := by simp
    rw [← hover, ← hp]
    exact State.stopAuditHere_record _ j
  have hyvalid (j : Fin 32) : (y.record j).valid = (s.record j).valid := by rw [hyrec]; split <;> rfl
  have hys : y.ptl.suspended = some (some pl, ride) := by rw [hyptl, hs]
  have htimer : (y.setPtl (y.ptl.resumed (some pl) ride)).ptl.timer = s.ptl.timer := by
    show y.ptl.timer = _
    rw [hyptl]
  dsimp only
  rw [State.record_of_dgu hdgu, hptl]
  by_cases hw : pl.word = 0
  · have hres := State.resumeScrub_of_zero hynil hys hw
    have hrides : (y.setPtl (y.ptl.resumed (some pl) ride)).rides pl.region =
        (s.isDigestRegion pl.region && (s.record pl.region).valid) := by
      rw [State.rides_of_nil (s := y.setPtl (y.ptl.resumed (some pl) ride)) hynil]
      show (y.isDigestRegion pl.region && (y.record pl.region).valid) = _
      rw [(State.sets_of_rgt hyrgt).2.2.2.1, hyvalid]
    have hpl : ({ region := pl.region, word := 0 } : Place) = pl := by rw [← hw]
    rw [hres]
    simp only [State.enterScrub_ptl, State.enterScrub_record, hpl]
    refine ⟨rfl, trivial, htimer, rfl, rfl, fun hn => absurd hw hn, fun _ => ⟨hrides, fun hr => ?_⟩,
      fun a ha hor => ?_⟩
    · rw [if_pos ⟨trivial, hr⟩]
      show { y.record pl.region with running := true, acc := 0, pointer := 0 } = _
      rw [hyrec]
      split <;> rfl
    · rw [if_neg]
      · exact (hyrec a.region).trans (if_pos (by rw [ha]; rfl))
      · rintro ⟨hai, hr⟩
        obtain hn | hn | hn := hor
        · exact hn hw
        · exact hn hai
        · rw [hn] at hr; cases hr
  · rw [State.resumeScrub_of_ne hynil hys hw]
    refine ⟨rfl, rfl, htimer, rfl, rfl, fun _ => rfl, fun h0 => absurd h0 hw, fun a ha _ => ?_⟩
    exact (hyrec a.region).trans (if_pos (by rw [ha]; rfl))

/-! ### The command -/

/-- Settles O39. -/
theorem isolateIsolatesChannel : Obligations.IsolateIsolatesChannel := by
  intro s hb hmode
  have hiso : s.mdc.mode.isolable = true := (Mode.isolable_iff _).2 hmode
  have hf : State.cmdIsolate (s.presented 0x0A []) =
      ((s.presented 0x0A []).isolateFor .commanded).answer .done [word s.mdc.mode.code] := by
    unfold State.cmdIsolate
    rw [State.acceptedIn_of _ _ _ (by simpa using hiso)]
    simp
  obtain ⟨hcmd, x, ws, ht⟩ := s.issue_changed 0x0A [] State.cmdIsolate ((s.presented 0x0A []).isolateFor .commanded)
    .done _ hb (by simp) hf (by simp) (by simp)
  refine ⟨_, rfl, hcmd, ?_⟩
  rw [ht, s.presented_words]
  let y : State := { s with cmi := { s.cmi with words := (s.presented 0x0A []).cmi.words } }
  obtain ⟨hmdc, hwd, hlast, hunch, hcycles, hdecided, hrse, hports, hdig, hflag, hchanged, hset, hrest⟩ :=
    y.isolateFor_isolated .commanded hiso
  have hlink (p : Port) := y.isolateFor_link .commanded hiso p
  have htx (p : Port) : ((y.isolateFor .commanded).link p).tx =
      ((y.servicesOver Cause.commanded.reason true).link p).tx := by rw [hlink]
  have hended := y.isolateFor_ended .commanded hiso
  refine ⟨⟨hmdc, hwd, hlast, hunch, hcycles, hdecided, hrse, hports, hdig, hflag, hchanged, hset, ?_⟩,
    y.isolateFor_chosen .commanded hiso, fun hs hr hp p => ?_, fun v hv hr hp => ⟨?_, ?_⟩, fun v hv hs hp => ⟨?_, ?_⟩,
    fun v hv hs hr => ⟨?_, ?_, ?_⟩, fun hm => y.isolateFor_starts .commanded hiso hm, fun hm hk => ?_,
    fun pl ride hm hk hs => y.isolateFor_resumes .commanded (.inr (.inr (.inl hm))) pl ride hk hs⟩
  · exact State.eq_of_blocks (by simp)
  · refine (hlink p).trans ?_
    rw [y.servicesOver_quiet _ _ hs hr hp]
    rfl
  · exact (htx v.port).trans (y.servicesOver_service _ _ v hv hr hp)
  · exact hended (.inl (by rw [show y.rse.service = some v from hv]; exact nofun))
  · exact (htx v.asked).trans (y.servicesOver_reentry _ _ v hv hs hp)
  · exact hended (.inr (.inl (by rw [show y.rse.reentry = some v from hv]; exact nofun)))
  · exact hended (.inr (.inr (by rw [show y.rse.repair = some v from hv]; exact nofun)))
  · intro hph htr
    exact (htx v.asked).trans ((y.servicesOver_isolated _ v hv hs hr).1 hph htr)
  · intro hor p
    exact (htx p).trans ((y.servicesOver_isolated _ v hv hs hr).2 hor p)
  · obtain ⟨hptl, hrec⟩ := y.isolateFor_goesOn .commanded hm (by rw [show y.ptl.kind = .scrub from hk]; exact nofun)
    have hkind : (y.isolateFor .commanded).ptl.kind = .scrub := by rw [hptl]; exact hk
    have hplace : (y.isolateFor .commanded).ptl.place = s.ptl.place := by rw [hptl]
    have hriding : (y.isolateFor .commanded).ptl.riding = s.ptl.riding := by rw [hptl]
    have htimer : (y.isolateFor .commanded).ptl.timer = s.ptl.timer := by rw [hptl]
    exact ⟨hkind, hplace, hriding, htimer, fun i => congrFun hrec i⟩

end Sys2Proof.Machine
end

section
/-! The end of a read that no processor waits for (R70, R79, R134): its slot, the write-back and the report of the outcome, before
its owner acts on the word. -/

namespace Sys2Proof.Machine

variable {s t x y : State} {g : Group} {m : CellSample}

/-- The slot is performed, a correction written back and the outcome acted on; the owner is still to take the word. -/
def State.readActed (s : State) (g : Group) (m : CellSample) : State :=
  ((s.readSlot g.row g.word m).1.writeBack g (readResult (found s g m)).1 (readResult (found s g m)).2).reportOutcome g
    (readResult (found s g m)).1

theorem State.readActed_clean (h : wrongBits (found s g m).flips = 0) :
    s.readActed g m = (s.readSlot g.row g.word m).1 := by
  unfold State.readActed
  rw [readResult_clean _ h]
  rfl

theorem State.readActed_corrected (h : wrongBits (found s g m).flips = 1) :
    s.readActed g m = (s.readBack g m (found s g m).data).reportCorrected g := by
  unfold State.readActed
  rw [readResult_corrected _ h]
  rfl

theorem State.readActed_uncorrectable (h : wrongBits (found s g m).flips = 2) :
    s.readActed g m = (s.readSlot g.row g.word m).1.reportUncorrectable g := by
  unfold State.readActed
  rw [readResult_uncorrectable _ h]
  rfl

/-- An uncorrectable word of a region has the consequence of Table 8.4. -/
theorem State.readActed_placed (h : wrongBits (found s g m).flips = 2) {pl : WordPlace} (hpl : g.place = some pl) :
    s.readActed g m = (s.readNoted g m).consequence pl g.op.addr := by
  rw [State.readActed_uncorrectable h, State.reportUncorrectable_eq, hpl]
  rfl

/-! ### A clean or corrected word leaves all blocks but the row table, the map and the event unit -/

theorem State.readActed_keeps (h : wrongBits (found s g m).flips ≤ 1) :
    (s.readActed g m).chanId = s.chanId ∧ (s.readActed g m).msize = s.msize ∧ (s.readActed g m).txi = s.txi ∧
    (s.readActed g m).rgt = s.rgt ∧ (s.readActed g m).msq = s.msq ∧ (s.readActed g m).dgu = s.dgu ∧
    (s.readActed g m).ptl = s.ptl ∧ (s.readActed g m).lkc = s.lkc ∧ (s.readActed g m).vtu = s.vtu ∧
    (s.readActed g m).mdc = s.mdc ∧ (s.readActed g m).rse = s.rse ∧ (s.readActed g m).cmi = s.cmi ∧
    (s.readActed g m).pending = s.pending := by
  obtain h0 | h1 := Nat.le_one_iff_eq_zero_or_eq_one.1 h
  · rw [State.readActed_clean h0]
    simp
  · rw [State.readActed_corrected h1]
    simp

theorem State.readActed_live (h : wrongBits (found s g m).flips ≤ 1) (hp : s.msq.port = some g) :
    (s.readActed g m).groupLive = g.live := by
  unfold State.groupLive
  rw [(State.readActed_keeps h).2.2.2.2.1, hp]
  rfl

/-- A clean word changes nothing else. -/
theorem State.readActed_quiet (h : wrongBits (found s g m).flips = 0) : (s.readActed g m).ret = s.ret ∧
    (s.readActed g m).srm = s.srm ∧ (s.readActed g m).evu = s.evu := by
  rw [State.readActed_clean h]
  simp

/-! ### The words of memory -/

theorem State.readActed_read (h : wrongBits (found s g m).flips ≠ 1) (hw : wrongBits (found s g m).flips ≤ 2)
    (ht : t.mem = (s.readActed g m).mem) :
    memLookup t.mem (groupKey g) = some (found s g m) ∧ CellsKept s t [groupKey g] := by
  refine cellsKept_of_readSlot (ht.trans ?_)
  obtain h0 | h2 : wrongBits (found s g m).flips = 0 ∨ wrongBits (found s g m).flips = 2 := by omega
  · rw [State.readActed_clean h0]
  · unfold State.readActed
    rw [readResult_uncorrectable _ h2]
    simp [State.writeBack]

theorem State.readActed_stored (h : wrongBits (found s g m).flips = 1) (ht : t.mem = (s.readActed g m).mem) :
    Stores t g (found s g m).data ∧ CellsKept s t (writtenKeys g) := by
  have hmem : t.mem = ((s.readSlot g.row g.word m).1.writeRows g.row g.word g.mirror (found s g m).data).mem := by
    rw [ht, State.readActed_corrected h]
    simp [State.readBack]
  exact ⟨stores_of_mem hmem, cellsKept_of_writeRows (s.readSlot_others g m) hmem⟩

/-! ### The reports -/

theorem State.readActed_flag (h : wrongBits (found s g m).flips = 1) (ha : Aftermath (s.readActed g m) t) :
    FlagSet t .memCorrected := by
  rw [State.readActed_corrected h] at ha
  exact ha.flags _ (((Aftermath.refl _).reportRow g.row g.word).flags _
    (((s.readBack g m _).noteCorrected_flags .memCorrected).2 (.inr (by simp))))

/-- A corrected error reported within a group, up to the group's end. -/
theorem rowReported_of_endGroup {row word : Nat} (hp : x.msq.port = some g) (hret : x.ret = s.ret)
    (hlim : x.cmi.settings.weakLimit = s.cmi.settings.weakLimit) (htime : x.evu.msTime = s.evu.msTime)
    (hn : RowTableLaw s) (hysrm : y.srm = (x.reportRow row word).srm) (hyret : y.ret = (x.reportRow row word).ret)
    (hy : Aftermath (x.reportRow row word) y) : RowReported s y.endGroup row word := by
  have hnx : (x.ret.entries.map (·.row)).Nodup := hret ▸ hn.2
  refine rowReported_of_report hp hret hlim htime ?_ fun hf => ?_
  · rw [(State.endGroup_rows y _ hysrm hyret).2]
    exact State.endGroup_entries _ (x.reportRow_nodup g _ _ hp hnx)
  · exact hy.endGroup.flags _ hf

theorem State.readActed_reported (h : wrongBits (found s g m).flips = 1) (hp : s.msq.port = some g) (hn : RowTableLaw s)
    (hsrm : y.srm = (s.readActed g m).srm) (hret : y.ret = (s.readActed g m).ret) (ha : Aftermath (s.readActed g m) y) :
    RowReported s y.endGroup g.row g.word := by
  rw [State.readActed_corrected h] at hsrm hret ha
  refine rowReported_of_endGroup (g := g) (x := (s.readBack g m (found s g m).data).noteCorrected) ?_ ?_ ?_ ?_ hn hsrm hret ha
  · simpa [State.noteCorrected] using hp
  · simp [State.noteCorrected]
  · simp [State.noteCorrected]
  · simp [State.noteCorrected]

/-- An uncorrectable word is reported and captured (R31), and stays so. -/
theorem State.readActed_noted (h : wrongBits (found s g m).flips = 2) (ha : Aftermath (s.readActed g m) t) :
    FlagSet t .memUncorrectable ∧
      Captured s t .memory g.op.requester (some g.op.addr) (.memory g.op.detail) := by
  have hn : Aftermath (s.readNoted g m) t := by
    rw [State.readActed_uncorrectable h] at ha
    exact (State.reportUncorrectable_aftermath _ g).trans ha
  refine ⟨hn.flags _ (((s.readSlot g.row g.word m).1.noteUncorrectable_flags g .memUncorrectable).2 (.inr (by simp))), ?_⟩
  have hc := ((s.readSlot g.row g.word m).1.noteUncorrectable_captured g).aftermath hn
  unfold Captured at hc ⊢
  simpa using hc

end Sys2Proof.Machine
end

section
/-! The ends of copy reads and of the writes of a frame in work (O48). -/

namespace Sys2Proof.Machine

variable {s t : State} {g : Group} {m : CellSample} {p : Port}

/-! ### The three commands -/

theorem exec_copyReadEnd_of {a : Nat} (m : CellSample) (hp : s.msq.port = some g) (ho : g.op = .copyRead a) :
    exec (.copyReadEnd m) s = .next (s.copyReadEnd g m) := by
  simp only [exec, execCopyReadEnd, hp, ho]

theorem exec_frameWriteEnd_of {a : Nat} {v : Word} (m : CellSample) (hp : s.msq.port = some g)
    (ho : g.op = .frameWrite p a v) : exec (.frameWriteEnd m) s = .next (s.frameWriteEnd g p v m) := by
  simp only [exec, execFrameWriteEnd, hp, ho]

theorem exec_restoringWriteEnd_of {a : Nat} {v : Word} (hp : s.msq.port = some g)
    (ho : g.op = .restoringWrite p a v) : exec .restoringWriteEnd s = .next (s.restoringWriteEnd g p v) := by
  simp only [exec, execRestoringWriteEnd, hp, ho]

/-! ### Copy reads (R134) -/

/-- What RSE makes of a copy read that it waits for or not. -/
def State.copyTaken (s : State) (g : Group) (m : CellSample) : State :=
  if (s.readActed g m).groupLive then (s.readActed g m).copyDone (readResult (found s g m)).1 (readResult (found s g m)).2
  else s.readActed g m

theorem State.copyReadEnd_eq (s : State) (g : Group) (m : CellSample) :
    s.copyReadEnd g m = (s.copyTaken g m).endGroup := rfl

theorem State.copyTaken_aftermath (s : State) (g : Group) (m : CellSample) :
    Aftermath (s.readActed g m) (s.copyTaken g m) := by
  unfold State.copyTaken
  split
  · exact (Aftermath.refl _).setRse _
  · exact .refl _

/-- Beside the service record a copy read's value changes nothing. -/
theorem State.copyTaken_rows (s : State) (g : Group) (m : CellSample) : (s.copyTaken g m).mem = (s.readActed g m).mem ∧
    (s.copyTaken g m).srm = (s.readActed g m).srm ∧ (s.copyTaken g m).ret = (s.readActed g m).ret := by
  unfold State.copyTaken
  split <;> simp

/-- A clean or corrected word goes into the buffer at the read pointer. -/
theorem State.copyTaken_fills (h : wrongBits (found s g m).flips ≤ 1) (hp : s.msq.port = some g) (hl : g.live = true)
    {v : Service} {b : SegmentBuffer} (hv : s.rse.service = some v) (hb : v.buffer = some b) :
    (s.copyTaken g m).rse = { s.rse with
      service := some { v with buffer := some { b with words := b.words ++ [(found s g m).data] } } } := by
  obtain ⟨ho, hd⟩ := readResult_of_le _ h
  have hrse := (State.readActed_keeps h).2.2.2.2.2.2.2.2.2.2.1
  unfold State.copyTaken State.copyDone
  rw [State.readActed_live h hp, if_pos hl, hrse, hv, hd]
  simp only [Option.map_some, if_neg ho]
  unfold State.setService State.setRse Service.fill
  dsimp only
  rw [hrse, hb]
  rfl

/-- A clean word: the rest of the part. -/
theorem State.copyReadEnd_quiet (h : wrongBits (found s g m).flips = 0) (hp : s.msq.port = some g) :
    CellsKept s (s.copyReadEnd g m) [groupKey g] ∧ WaitingStarts s (s.copyReadEnd g m) ∧
      s.copyReadEnd g m = { s with
        mem := (s.copyReadEnd g m).mem, msq := { s.msq with port := none }, srm := (s.copyReadEnd g m).srm
        ret := (s.copyReadEnd g m).ret, rse := (s.copyReadEnd g m).rse } := by
  obtain ⟨hret, hsrm, hevu⟩ := State.readActed_quiet h
  obtain ⟨hmem, hsrm', hret'⟩ := s.copyTaken_rows g m
  rw [s.copyReadEnd_eq]
  refine ⟨(State.readActed_read (m := m) (by omega) (by omega) (by simpa using hmem)).2,
    ((s.copyTaken g m).endGroup_starts).congr (hsrm'.trans hsrm) (hret'.trans hret), ?_⟩
  obtain ⟨h1, h2, h3, h4, h5, h6, h7, h8, h9, h10, h11, h12, h13⟩ := State.readActed_keeps (s := s) (g := g) (m := m) (by omega)
  unfold State.copyTaken
  rw [State.readActed_live (by omega) hp]
  cases g.live <;> exact State.eq_of_blocks
    (by simp [h1, h2, h3, h4, h5, h6, h7, h8, h9, h10, h12, h13, hevu, State.endGroup_msq])

/-- An uncorrectable word of a VITAL region in RUN: the service ends with the isolation. -/
theorem State.copyReadEnd_vital (h : wrongBits (found s g m).flips = 2) {pl : WordPlace} (hpl : g.place = some pl)
    (hc : pl.cls = .vital) (hm : s.mdc.mode = .run) : (s.copyReadEnd g m).rse.service = none ∧
      (s.copyReadEnd g m).mdc = { mode := .isolated, chen := false, cause := .vitalDamage } := by
  have hiso : (s.readNoted g m).mdc.mode.isolable = true := by simp [hm, Mode.isolable]
  have hacted : s.readActed g m = (s.readNoted g m).isolateFor .vitalDamage := by
    rw [State.readActed_placed h hpl, (State.consequence_vital _ pl _ hc (by simp [EventOnly, hc, hm])).1]
  have hrse := (s.readNoted g m).isolateFor_rse .vitalDamage hiso
  have hmdc := ((s.readNoted g m).isolateFor_mdc .vitalDamage hiso).1
  rw [← hacted] at hrse hmdc
  have hserv : (s.readActed g m).rse.service = none := by rw [hrse]
  rw [s.copyReadEnd_eq]
  unfold State.copyTaken
  split
  · refine ⟨?_, by simpa using hmdc⟩
    rw [(State.endGroup_frame _).2.2.2.2.2.2.2.2.2.1]
    show Option.map _ (s.readActed g m).rse.service = none
    rw [hserv]
    rfl
  · exact ⟨by simpa using hserv, by simpa using hmdc⟩

/-! ### The work of a frame (R94, R143, R155) -/

/-- The frame's work with a word less. -/
def LinkPort.onward (l : LinkPort) (x : FrameWork) : LinkPort :=
  { l with work := if x.words.length ≤ 1 then none else some { x with next := x.next + 4, words := x.words.tail } }

theorem State.workDone_cases {x : FrameWork} (hx : (s.link p).work = some x) : s.workDone p =
    if x.words.length ≤ 1 ∧ x.restoring = true then (s.setLink p ((s.link p).onward x)).segmentWritten x.first
    else s.setLink p ((s.link p).onward x) := by
  unfold State.workDone LinkPort.onward
  rw [hx]
  dsimp only
  match hw : x.words with
  | [] => simp
  | [w] => simp
  | w :: w' :: ws => simp

theorem State.segmentWritten_lkc (s : State) (a : Nat) (q : Port) : (s.segmentWritten a).link q = s.link q := by
  unfold State.link
  simp

theorem State.workDone_link {x : FrameWork} (hx : (s.link p).work = some x) (q : Port) :
    (s.workDone p).link q = if q = p then (s.link p).onward x else s.link q := by
  rw [State.workDone_cases hx]
  split
  · rw [State.segmentWritten_lkc, State.setLink_link]
  · rw [State.setLink_link]

theorem State.workDone_rse {x : FrameWork} (hx : (s.link p).work = some x)
    (h : 2 ≤ x.words.length ∨ x.restoring = false) : (s.workDone p).rse = s.rse := by
  rw [State.workDone_cases hx, if_neg]
  · simp
  · rintro ⟨hl, hr⟩
    obtain h | h := h
    · omega
    · rw [hr] at h; cases h

/-- Of the restoration engine the work of a frame reaches the repair record alone. -/
theorem State.workDone_repair (s : State) (p : Port) :
    (s.workDone p).rse = { s.rse with repair := (s.workDone p).rse.repair } := by
  have hs : (s.workDone p).rse.service = s.rse.service := by simp
  have hr : (s.workDone p).rse.reentry = s.rse.reentry := by simp
  have hl : (s.workDone p).rse.repairList = s.rse.repairList := by simp
  dsimp only
  rw [← hs, ← hr, ← hl]

/-- The last word of a SEGMENT of the head block. -/
theorem State.segmentWritten_repair {r : Repair} {first : Nat} (hr : s.rse.repair = some r)
    (hb : s.rse.repairList.head? = some (first / 4096 * 4096)) :
    ∃ r', (s.segmentWritten first).rse = { s.rse with repair := some r' } ∧ r' = { r with written := r'.written } ∧
      ∀ k, k ∈ r'.written ↔ k ∈ r.written ∨ k = first % 4096 / 256 := by
  have hh : s.headBlock = some (blockOf first) := hb
  unfold State.segmentWritten
  rw [hr]
  dsimp only
  by_cases hin : segmentOf first ∈ r.written
  · rw [if_neg (by simp [hin])]
    refine ⟨r, by rw [← hr], rfl, fun k => ⟨.inl, ?_⟩⟩
    rintro (h | rfl)
    · exact h
    · exact hin
  · rw [if_pos (by simp [hin, hh])]
    refine ⟨{ r with written := segmentOf first :: r.written }, rfl, rfl, fun k => ?_⟩
    rw [List.mem_cons, or_comm]
    rfl

theorem LinkPort.onward_last (l : LinkPort) {x : FrameWork} (h : x.words.length ≤ 1) : l.onward x = { l with work := none } := by
  unfold LinkPort.onward
  rw [if_pos h]

theorem LinkPort.onward_more (l : LinkPort) {x : FrameWork} (h : 2 ≤ x.words.length) : l.onward x = { l with
    work := some { x with next := x.next + 4, words := x.words.tail } } := by
  unfold LinkPort.onward
  rw [if_neg (by omega)]

/-! ### Frame writes (R143) -/

/-- The word stands, and the report of an old word is acted on. -/
def State.frameStored (s : State) (g : Group) (v : Word) (m : CellSample) : State :=
  if g.updating then (s.overwritten g m v).reportOutcome g (readResult (found s g m)).1
  else s.writeRows g.row g.word g.mirror v

theorem State.frameWriteEnd_eq (s : State) (g : Group) (p : Port) (v : Word) (m : CellSample) : s.frameWriteEnd g p v m =
    (if (s.frameStored g v m).groupLive then (s.frameStored g v m).workDone p else s.frameStored g v m).endGroup := rfl

theorem State.frameStored_keeps (v : Word) (h : g.updating = false ∨ wrongBits (found s g m).flips ≤ 1) :
    (s.frameStored g v m).msq = s.msq ∧ (s.frameStored g v m).lkc = s.lkc := by
  unfold State.frameStored
  split
  · rename_i hu
    have hle := h.resolve_left (by rw [hu]; exact nofun)
    obtain h0 | h1 := Nat.le_one_iff_eq_zero_or_eq_one.1 hle
    · rw [readResult_clean _ h0]
      simp [State.reportOutcome]
    · rw [readResult_corrected _ h1]
      simp [State.reportOutcome]
  · simp

theorem State.frameStored_words (s : State) (g : Group) (m : CellSample) (v : Word) (ht : t.mem = (s.frameStored g v m).mem) :
    Stores t g v ∧ CellsKept s t (writtenKeys g) := by
  unfold State.frameStored at ht
  split at ht
  · have hmem : t.mem = ((s.readSlot g.row g.word m).1.writeRows g.row g.word g.mirror v).mem := by
      rw [ht]
      simp [State.overwritten_mem]
    exact ⟨stores_of_mem hmem, cellsKept_of_writeRows (s.readSlot_others g m) hmem⟩
  · exact ⟨stores_of_mem ht, cellsKept_of_writeRows (fun _ _ => rfl) ht⟩

/-- The digest follows a word written over a clean or corrected one (R57). -/
theorem State.frameStored_digest (v : Word) {pl : WordPlace} (hpl : g.place = some pl) (hu : g.updating = true)
    (hf : wrongBits (found s g m).flips ≤ 1) :
    (s.frameStored g v m).record pl.region = (s.record pl.region).write pl.word (found s g m).data v := by
  obtain ⟨ho, hd⟩ := readResult_of_le _ hf
  have hrec := s.overwritten_record g m v pl hpl hu pl.region
  rw [if_pos rfl, if_neg ho, hd] at hrec
  unfold State.frameStored
  rw [if_pos hu, ← hrec]
  exact congrFun (State.record_of_dgu ((s.overwritten g m v).reportOutcome_keeps g _ ho).2.2.1) _

/-! ### The statement -/

/-- Settles O48. -/
theorem copyAndFrameEndsMoveWords : Obligations.CopyAndFrameEndsMoveWords := by
  refine ⟨fun s g a m hp ho _ => ⟨fun v b hl hv hb hf => ?_, fun hl h0 => ?_, fun pl hpl hc hm h2 => ?_⟩,
    fun s g p a v m x hp ho hl _ hx hxr hf => ?_, fun s g p a v x hp ho hl _ hx hxr => ?_⟩
  · refine ⟨_, exec_copyReadEnd_of m hp ho, ?_, fun h1 => ?_, fun h0 => State.copyReadEnd_quiet h0 hp⟩
    · rw [s.copyReadEnd_eq, (State.endGroup_frame _).2.2.2.2.2.2.2.2.2.1]
      exact State.copyTaken_fills hf hp hl hv hb
    · rw [s.copyReadEnd_eq]
      exact ⟨(State.readActed_stored h1 (by simpa using (s.copyTaken_rows g m).1)).1,
        State.readActed_flag h1 (s.copyTaken_aftermath g m).endGroup⟩
  · refine ⟨_, exec_copyReadEnd_of m hp ho, ?_, ?_⟩
    · rw [s.copyReadEnd_eq, (State.endGroup_frame _).2.2.2.2.2.2.2.2.2.1]
      unfold State.copyTaken
      rw [State.readActed_live (by omega) hp, hl]
      exact (State.readActed_keeps (by omega)).2.2.2.2.2.2.2.2.2.2.1
    · rw [s.copyReadEnd_eq, State.endGroup_msq]
  · obtain ⟨hserv, hmdc⟩ := State.copyReadEnd_vital h2 hpl hc hm
    refine ⟨_, exec_copyReadEnd_of m hp ho, hserv, hmdc, ?_⟩
    have hcap := (State.readActed_noted h2 (s.copyTaken_aftermath g m).endGroup).2
    rw [ho] at hcap
    exact hcap
  · obtain ⟨hmsq, hlkc⟩ := s.frameStored_keeps (m := m) v hf
    have hlink (q : Port) : (s.frameStored g v m).link q = s.link q := by unfold State.link; rw [hlkc]
    have hlive : (s.frameStored g v m).groupLive = true := by
      unfold State.groupLive
      rw [hmsq, hp]
      exact hl
    have heq : s.frameWriteEnd g p v m = ((s.frameStored g v m).workDone p).endGroup := by
      rw [s.frameWriteEnd_eq, if_pos hlive]
    have hxs : ((s.frameStored g v m).link p).work = some x := by rw [hlink, hx]
    have hports (q : Port) : (((s.frameStored g v m).workDone p).endGroup).link q =
        if q = p then (s.link p).onward x else s.link q := by
      rw [← hlink p, ← hlink q, ← State.workDone_link hxs]
      unfold State.link
      simp
    obtain ⟨hst, hcells⟩ := s.frameStored_words (t := s.frameWriteEnd g p v m) g m v (by rw [heq]; simp)
    refine ⟨_, exec_frameWriteEnd_of m hp ho, hst, hcells, by rw [heq, State.endGroup_msq], fun h1 => ?_, fun h2 => ?_,
      fun q hq => ?_, fun hu => ?_, fun pl hpl hu hv => ?_⟩
    · rw [heq, hports, if_pos rfl, LinkPort.onward_last _ h1]
    · rw [heq, hports, if_pos rfl, LinkPort.onward_more _ h2]
    · rw [heq, hports, if_neg hq]
    · have hs : s.frameStored g v m = s.writeRows g.row g.word g.mirror v := if_neg (by rw [hu]; exact nofun)
      rw [heq, hs]
      rw [hs] at hxs
      refine ⟨(State.endGroup_starts _).congr (by simp) (by simp), State.eq_of_blocks ?_⟩
      have hrse := State.workDone_rse hxs (.inr hxr)
      simp [State.endGroup_msq, hrse]
    · have hle := hf.resolve_left (by rw [hu]; exact nofun)
      have hrec : (s.frameWriteEnd g p v m).record = (s.frameStored g v m).record :=
        State.record_of_dgu (by rw [heq]; simp)
      rw [hrec, s.frameStored_digest v hpl hu hle]
      exact DigestRecord.write_digest _ _ _ _ hv
  · have heq : s.restoringWriteEnd g p v = ((s.writeRows g.row g.word g.mirror v).workDone p).endGroup := by
      unfold State.restoringWriteEnd
      dsimp only
      rw [if_pos hl]
    have hlink (q : Port) : (s.writeRows g.row g.word g.mirror v).link q = s.link q := by unfold State.link; simp
    have hxs : ((s.writeRows g.row g.word g.mirror v).link p).work = some x := by rw [hlink, hx]
    have hports (q : Port) : (((s.writeRows g.row g.word g.mirror v).workDone p).endGroup).link q =
        if q = p then (s.link p).onward x else s.link q := by
      rw [← hlink p, ← hlink q, ← State.workDone_link hxs]
      unfold State.link
      simp
    have hmem : (s.restoringWriteEnd g p v).mem = (s.writeRows g.row g.word g.mirror v).mem := by rw [heq]; simp
    refine ⟨_, exec_restoringWriteEnd_of hp ho, stores_of_mem hmem, cellsKept_of_writeRows (fun _ _ => rfl) hmem, ?_,
      fun h2 => ⟨?_, ?_⟩, fun h1 => ⟨?_, fun r hr hb => ?_⟩, fun q hq => ?_, ?_⟩
    · rw [heq]
      exact (State.endGroup_starts _).congr (by simp) (by simp)
    · rw [heq, hports, if_pos rfl, LinkPort.onward_more _ h2]
    · rw [heq, (State.endGroup_frame _).2.2.2.2.2.2.2.2.2.1, State.workDone_rse hxs (.inl h2)]
      simp
    · rw [heq, hports, if_pos rfl, LinkPort.onward_last _ h1]
    · rw [heq, (State.endGroup_frame _).2.2.2.2.2.2.2.2.2.1, State.workDone_cases hxs, if_pos ⟨h1, hxr⟩]
      have hrse : ((s.writeRows g.row g.word g.mirror v).setLink p
          (((s.writeRows g.row g.word g.mirror v).link p).onward x)).rse = s.rse := by simp
      rw [← hrse] at hr hb ⊢
      exact State.segmentWritten_repair hr hb
    · rw [heq, hports, if_neg hq]
    · have hrse := (s.writeRows g.row g.word g.mirror v).workDone_repair p
      rw [heq]
      exact State.eq_of_blocks (by simpa [State.endGroup_msq] using hrse)

end Sys2Proof.Machine
end

section
/-! SETTINGS_WRITE of the settings that act at once (O27): the row table, the styles, the gap and the routes. -/

namespace Sys2Proof.Machine

variable {s : State} {st : Setting} {w v : Word}

/-! ### A new value is stored and acts -/

/-- The state with new settings in force, before they act, and with other words in the aperture. -/
def State.withSettings (s : State) (ws : Vector Word 16) (c : Settings) : State :=
  { s with cmi := { words := ws, settings := c } }

/-- A value in range that differs from the one held. -/
theorem exec_settingsWrite_acts (hb : BusFree s) (hw : settingOf w = some st) (hm : st.writable s.mdc.mode = true)
    (hl : st.lower ≤ v.toNat) (hu : v.toNat ≤ st.upper s.cmi.settings)
    (hne : s.cmi.settings.put st v.toNat ≠ s.cmi.settings) : ∃ (y : State) (x : Txi) (ws ws' : Vector Word 16),
      y = (s.withSettings ws (s.cmi.settings.put st v.toNat)).settingActs st ∧
        y.cmi.settings = s.cmi.settings.put st v.toNat ∧
        exec (.settingsWrite w v) s = .next { y with txi := x, cmi := { y.cmi with words := ws' } } := by
  let z : State := s.presented 2 [w, v]
  have hz : z = { s with cmi := { s.cmi with words := z.cmi.words } } := s.presented_words _ _
  have hzset : z.cmi.settings = s.cmi.settings := by rw [hz]
  have hp1 : z.param 1 = w := s.presented_param 2 [w, v] (by simp) 0 (by simp)
  have hp2 : z.param 2 = v := s.presented_param 2 [w, v] (by simp) 1 (by simp)
  have hclamp : z.cmi.settings.clamp st v.toNat = v.toNat := by
    unfold Settings.clamp
    rw [hzset, if_neg (by omega), if_neg (by omega)]
  have hstore : z.storeSetting st v.toNat =
      (s.withSettings z.cmi.words (s.cmi.settings.put st v.toNat)).settingActs st := by
    unfold State.storeSetting
    dsimp only
    rw [if_neg (by rw [hzset]; exact hne)]
    rw [hz]
    rfl
  obtain ⟨status, rs, hf⟩ : ∃ status rs, State.cmdSettingsWrite z = (z.storeSetting st v.toNat).answer status rs := by
    unfold State.cmdSettingsWrite
    rw [hp1, hw]
    dsimp only
    rw [State.acceptedIn_of _ _ _ (by rw [hz]; exact hm), hp2, hclamp]
    exact ⟨_, _, rfl⟩
  obtain ⟨-, x, ws', ht⟩ := s.issue_changed 2 [w, v] State.cmdSettingsWrite (z.storeSetting st v.toNat) status rs hb
    (by simp) hf (by simp [z]) (by simp [z])
  refine ⟨z.storeSetting st v.toNat, x, z.cmi.words, ws', hstore, ?_, congrArg _ ht⟩
  rw [State.storeSetting_settings, hzset]

/-! ### WEAK_LIMIT (R41) -/

theorem RowEntry.weakened_eq (e : RowEntry) (limit : Nat) : e.weakened limit =
    if e.state = .tracking ∧ limit ≤ e.count then { e with state := .weak } else e := by
  unfold RowEntry.weakened RowEntry.turnsWeak
  by_cases h : e.state = .tracking ∧ limit ≤ e.count
  · rw [if_pos h, if_pos (by simpa using h)]
  · rw [if_neg h, if_neg (by simpa using h)]

/-- The entries that a new limit turns WEAK, before any choice. -/
def State.weakenedOnly (s : State) : State :=
  (s.setEntries (s.ret.entries.map (·.weakened s.cmi.settings.weakLimit))).fire .rowWeak

theorem State.applyWeakLimit_of_weak (s : State)
    (h : ∃ e ∈ s.ret.entries, e.state = .tracking ∧ s.cmi.settings.weakLimit ≤ e.count) :
    s.applyWeakLimit = s.weakenedOnly.chooseMove := by
  have ha : s.ret.entries.any (·.turnsWeak s.cmi.settings.weakLimit) = true := by
    simpa [RowEntry.turnsWeak] using h
  exact if_pos ha

theorem State.weakenedOnly_nodup (s : State) (hn : RowTableLaw s) : (s.weakenedOnly.ret.entries.map (·.row)).Nodup := by
  show ((s.ret.entries.map (·.weakened s.cmi.settings.weakLimit)).map (·.row)).Nodup
  rw [List.map_map]
  have hm : (s.ret.entries.map ((·.row) ∘ (·.weakened s.cmi.settings.weakLimit))) = s.ret.entries.map (·.row) :=
    List.map_congr_left fun e _ => (e.weakened_keeps _).1
  rw [hm]
  exact hn.2

/-- An entry under a new limit and the choice of a move, as O27 says it. -/
theorem RowEntry.weakened_moved (e e' : RowEntry) (limit : Nat)
    (h : e' = e.weakened limit ∨ (e.weakened limit).state = .weak ∧ e' = { e.weakened limit with state := .moving }) :
    e' = { e with state := e'.state } ∧
      (e.state = .tracking → limit ≤ e.count → e'.state = .weak ∨ e'.state = .moving) ∧
      (e.state = .tracking → e.count < limit → e'.state = .tracking) ∧
      (e.state ≠ .tracking → e.state ≠ .weak → e'.state = e.state) := by
  rw [e.weakened_eq] at h
  by_cases ht : e.state = .tracking ∧ limit ≤ e.count
  · rw [if_pos ht] at h
    obtain rfl | ⟨-, rfl⟩ := h
    · exact ⟨rfl, fun _ _ => .inl rfl, fun _ hlt => by omega, fun hn _ => absurd ht.1 hn⟩
    · exact ⟨rfl, fun _ _ => .inr rfl, fun _ hlt => by omega, fun hn _ => absurd ht.1 hn⟩
  · rw [if_neg ht] at h
    obtain rfl | ⟨hw, rfl⟩ := h
    · exact ⟨rfl, fun h1 h2 => absurd ⟨h1, h2⟩ ht, fun h1 _ => h1, fun _ _ => rfl⟩
    · exact ⟨rfl, fun _ _ => .inr rfl, fun h1 _ => absurd (hw.symm.trans h1) nofun, fun _ hn => absurd hw hn⟩

/-- The command with a new limit that an entry has reached. -/
theorem exec_weakLimit (hb : BusFree s) (h2 : 2 ≤ v.toNat) (h15 : v.toNat ≤ 15)
    (hne : v.toNat ≠ s.cmi.settings.weakLimit) (he : ∃ e ∈ s.ret.entries, e.state = .tracking ∧ v.toNat ≤ e.count) :
    ∃ (x : Txi) (ws ws' : Vector Word 16), exec (.settingsWrite 0x47 v) s = .next
      (let y := (s.withSettings ws { s.cmi.settings with weakLimit := v.toNat }).weakenedOnly.chooseMove
       { y with txi := x, cmi := { y.cmi with words := ws' } }) := by
  obtain ⟨y, x, ws, ws', hy, -, ht⟩ := exec_settingsWrite_acts (st := .weakLimit) hb (w := 0x47) (v := v) rfl rfl h2 h15
    fun h => hne (congrArg Settings.weakLimit h)
  refine ⟨x, ws, ws', ?_⟩
  rw [ht, hy]
  have ha := (s.withSettings ws (s.cmi.settings.put .weakLimit v.toNat)).applyWeakLimit_of_weak he
  unfold State.settingActs
  dsimp only
  rw [ha]
  rfl

/-! ### The notice lines (R168 to R170) -/

theorem State.cutGap_line (s : State) (l k : NoticeName) : (s.cutGap l).evu.line k =
    if k = l ∧ s.cmi.settings.style l = .pulse ∧ (s.evu.line l).gapOver s.cmi.settings.noticeGap = true then
      (s.evu.line l).gapEnd (s.routedSet l)
    else s.evu.line k := by
  unfold State.cutGap
  dsimp only
  by_cases h : s.cmi.settings.style l = .pulse ∧ (s.evu.line l).gapOver s.cmi.settings.noticeGap = true
  · rw [if_pos (by simpa using h)]
    show (s.evu.setLine l _).line k = _
    rw [Evu.setLine_line]
    simp only [h, and_true]
    rfl
  · rw [if_neg (by simpa using h), if_neg fun hk => h hk.2]

theorem State.cutGap_keeps (s : State) (l : NoticeName) :
    (s.cutGap l).cmi = s.cmi ∧ (s.cutGap l).evu.flags = s.evu.flags := by
  unfold State.cutGap
  dsimp only
  split
  · exact ⟨rfl, (Evu.setLine_keeps ..).1⟩
  · exact ⟨rfl, rfl⟩

/-- A new gap is looked at on each line alike. -/
theorem State.cutGaps_line (s : State) (l : NoticeName) : ((s.cutGap .na).cutGap .nb).evu.line l =
    if s.cmi.settings.style l = .pulse ∧ (s.evu.line l).gapOver s.cmi.settings.noticeGap = true then
      (s.evu.line l).gapEnd (s.routedSet l)
    else s.evu.line l := by
  obtain ⟨hc, hf⟩ := s.cutGap_keeps .na
  have hr : (s.cutGap .na).routedSet = s.routedSet := by
    unfold State.routedSet
    rw [hc, hf]
  rw [State.cutGap_line, hc, hr, s.cutGap_line, s.cutGap_line]
  cases l <;> simp

theorem Evu.earlyEnd_line (e : Evu) (c : Settings) (l k : NoticeName) : (e.earlyEnd c l).line k =
    if k = l ∧ c.style l = .pulse ∧ (e.line l).state = .pulsing ∧ anyRouted c e.flags l = false then
      (e.line l).pulseEnd c.noticeGap false
    else e.line k := by
  unfold Evu.earlyEnd
  by_cases h : c.style l = .pulse ∧ (e.line l).state = .pulsing ∧ anyRouted c e.flags l = false
  · rw [if_pos (by simpa [and_assoc] using h), Evu.setLine_line]
    simp [h]
  · rw [if_neg (by simpa [and_assoc] using h), if_neg fun hk => h hk.2]

theorem Evu.earlyEnd_flags (e : Evu) (c : Settings) (l : NoticeName) : (e.earlyEnd c l).flags = e.flags := by
  unfold Evu.earlyEnd
  split
  · exact (Evu.setLine_keeps ..).1
  · rfl

/-- A pulse whose flags are routed to its line no more ends on each line alike. -/
theorem Evu.earlyEnds_line (e : Evu) (c : Settings) (l : NoticeName) : (e.earlyEnds c).line l =
    if c.style l = .pulse ∧ (e.line l).state = .pulsing ∧ anyRouted c e.flags l = false then
      (e.line l).pulseEnd c.noticeGap false
    else e.line l := by
  unfold Evu.earlyEnds
  rw [Evu.earlyEnd_line, Evu.earlyEnd_flags, Evu.earlyEnd_line, Evu.earlyEnd_line]
  cases l <;> simp

/-- A pulse that ends without a routed flag. -/
theorem NoticeLine.pulseEnd_unrouted (n : NoticeLine) (gap : Nat) : n.pulseEnd gap false =
    if gap = 0 then { state := .quiet, pending := false, ticks := 0 } else { n with state := .holding, ticks := 0 } := by
  unfold NoticeLine.pulseEnd NoticeLine.gapEnd
  simp

/-! ### Identifiers and codes -/

theorem settingOf_route : ∀ i : Fin 24, settingOf (word (0x4B + 256 * i.val)) = some (.route i) := by decide

theorem settingOf_style (l : NoticeName) : settingOf (if l = .na then 0x49 else 0x4A) = some (.style l) := by
  cases l <;> rfl

theorem LineStyle.code_ofCode {n : Nat} (h : n ≤ 1) : (LineStyle.ofCode n).code = n := by
  obtain rfl | rfl := Nat.le_one_iff_eq_zero_or_eq_one.1 h <;> rfl

theorem Route.code_ofCode {n : Nat} (h : n ≤ 3) : (Route.ofCode n).code = n := by
  have : n = 0 ∨ n = 1 ∨ n = 2 ∨ n = 3 := by omega
  obtain rfl | rfl | rfl | rfl := this <;> rfl

theorem Settings.put_style (c : Settings) (l : NoticeName) (n : Nat) :
    (c.put (.style l) n).style l = LineStyle.ofCode n := by
  cases l <;> rfl

theorem Settings.put_route (c : Settings) (i : Fin 24) (n : Nat) : (c.put (.route i) n).route[i] = Route.ofCode n :=
  Vector.getElem_set_self _

/-! ### The statement -/

/-- Settles O27. -/
theorem settingsActAtOnce : Obligations.SettingsActAtOnce := by
  refine ⟨fun s v hb hn h2 h15 hne he => ?_, fun s v hb hn h2 h15 hne he => ?_, fun s l v hb h1 hne => ?_,
    fun s v hb h255 hne => ?_, fun s i v l hb h3 hs hp hne => ?_⟩
  · obtain ⟨x, ws, ws', ht⟩ := exec_weakLimit hb h2 h15 hne he
    let y : State := (s.withSettings ws { s.cmi.settings with weakLimit := v.toNat }).weakenedOnly
    have hmoved : EntriesMoved (s.ret.entries.map (·.weakened v.toNat)) y.chooseMove.ret.entries :=
      y.chooseMove_entries (State.weakenedOnly_nodup _ hn)
    have hset : y.chooseMove.cmi.settings.weakLimit = v.toNat := by simp [y, State.weakenedOnly, State.withSettings]
    refine ⟨_, ht, hset, (Aftermath.refl y).chooseMove.flags _ ?_, ?_, fun k e hk => ?_⟩
    · unfold FlagSet
      exact (State.fire_flag _ _ _).trans (by simp)
    · exact hmoved.length_eq.symm.trans (List.length_map _)
    · obtain ⟨e', he', hm⟩ := forall₂_getElem? hmoved k (e.weakened v.toNat) (by rw [List.getElem?_map, hk]; rfl)
      exact ⟨e', he', e.weakened_moved e' v.toNat hm⟩
  · obtain ⟨x, ws, ws', ht⟩ := exec_weakLimit hb h2 h15 hne he
    let y : State := (s.withSettings ws { s.cmi.settings with weakLimit := v.toNat }).weakenedOnly
    have hc := y.chooseMove_chosen (State.weakenedOnly_nodup _ hn)
    have hes : y.ret.entries = s.ret.entries.map
        (fun e => if e.state = .tracking ∧ v.toNat ≤ e.count then { e with state := .weak } else e) :=
      List.map_congr_left fun e _ => e.weakened_eq v.toNat
    rw [hes] at hc
    exact ⟨_, ht, hc.congr Iff.rfl rfl rfl id⟩
  · have hcode := LineStyle.code_ofCode h1
    obtain ⟨y, x, ws, ws', hy, hset, ht⟩ := exec_settingsWrite_acts (st := .style l) hb (settingOf_style l) rfl
      (Nat.zero_le _) h1 fun h => hne (by rw [← h, Settings.put_style, hcode])
    have hline : y.evu.line l = NoticeLine.initial := by
      rw [hy]
      exact (Evu.setLine_line _ _ _ _).trans (if_pos rfl)
    refine ⟨_, ht, ?_, ?_, ?_, ?_⟩
    · show (y.cmi.settings.style l).code = _
      rw [hset, Settings.put_style, hcode]
    · exact congrArg NoticeLine.state hline
    · exact congrArg NoticeLine.pending hline
    · show y.evu.flags = _
      rw [hy]
      exact (Evu.setLine_keeps ..).1
  · obtain ⟨y, x, ws, ws', hy, hset, ht⟩ := exec_settingsWrite_acts (st := .noticeGap) hb (w := 0x48) (v := v) rfl rfl
      (Nat.zero_le _) h255 fun h => hne (congrArg Settings.noticeGap h)
    let z : State := s.withSettings ws (s.cmi.settings.put .noticeGap v.toNat)
    have hyz : y = (z.cutGap .na).cutGap .nb := hy
    have hline (l : NoticeName) : y.evu.line l = if s.cmi.settings.style l = .pulse ∧
        (s.evu.line l).gapOver v.toNat = true then (s.evu.line l).gapEnd (s.routedSet l) else s.evu.line l := by
      rw [hyz, z.cutGaps_line]
      cases l <;> rfl
    have hover (l : NoticeName) : (s.evu.line l).gapOver v.toNat = true ↔
        (s.evu.line l).state = .holding ∧ v.toNat * 100 ≤ (s.evu.line l).ticks := by
      unfold NoticeLine.gapOver ticksOf
      rw [Bool.and_eq_true, beq_iff_eq, decide_eq_true_iff]
    refine ⟨_, ht, ?_, ?_, fun l hs hst hle => ?_, fun l h => ?_⟩
    · show y.cmi.settings.noticeGap = _
      rw [hset]
      rfl
    · show y.evu.flags = _
      rw [hyz, (State.cutGap_keeps _ _).2, (State.cutGap_keeps _ _).2]
      rfl
    · exact gapEnded_of_line rfl ((hline l).trans (if_pos ⟨hs, (hover l).2 ⟨hst, hle⟩⟩))
    · refine (hline l).trans (if_neg ?_)
      rintro ⟨hs, hov⟩
      obtain ⟨hst, hle⟩ := (hover l).1 hov
      obtain h | h | h := h
      · rw [h] at hs; cases hs
      · exact h hst
      · omega
  · have hcode := Route.code_ofCode h3
    obtain ⟨y, x, ws, ws', hy, hset, ht⟩ := exec_settingsWrite_acts (st := .route i) hb (settingOf_route i) rfl
      (Nat.zero_le _) h3 fun h => hne (by rw [← h, Settings.put_route, hcode])
    let c : Settings := s.cmi.settings.put (.route i) v.toNat
    have hline : y.evu.line l = if c.style l = .pulse ∧ (s.evu.line l).state = .pulsing ∧
        anyRouted c s.evu.flags l = false then (s.evu.line l).pulseEnd c.noticeGap false else s.evu.line l := by
      rw [hy]
      exact s.evu.earlyEnds_line c l
    have hstyle : c.style l = .pulse := by rw [← hs]; cases l <;> rfl
    refine ⟨_, ht, ?_, ?_, fun hno => ?_, fun hsome => ?_⟩
    · show (y.cmi.settings.route[i]).code = _
      rw [hset, Settings.put_route, hcode]
    · rw [hy]
      show ((s.evu.earlyEnd c .na).earlyEnd c .nb).flags = _
      rw [Evu.earlyEnd_flags, Evu.earlyEnd_flags]
    · have hr : anyRouted c s.evu.flags l = false := by
        rw [← Bool.not_eq_true, anyRouted_iff]
        rintro ⟨j, hj, hf, hro⟩
        have := hno j hj hf
        rw [show y.cmi.settings = c from hset] at this
        rw [this] at hro
        cases hro
      refine hline.trans ((if_pos ⟨hstyle, hp, hr⟩).trans ?_)
      rw [NoticeLine.pulseEnd_unrouted]
      rfl
    · refine hline.trans (if_neg ?_)
      rintro ⟨-, -, hr⟩
      have hsome' : anyRouted c s.evu.flags l = true := (anyRouted_iff ..).2 (by
        rw [show c = y.cmi.settings from hset.symm]
        exact hsome)
      rw [hsome'] at hr
      cases hr

end Sys2Proof.Machine
end

section
/-! The frame that a port takes (R94), changes of mode into VERIFY, RUN and REPAIR, and the start of a repair audit (R81),
for the statements about frames taken by a target. -/

namespace Sys2Proof.Machine

variable {r s t : State} {p : Port} {f : Frame}

/-! ### The front frame -/

theorem NextFrame.front (h : NextFrame s p f) : s.frontFrame p = some f := by
  obtain ⟨hw, hr⟩ := h
  unfold State.frontFrame
  rw [hw, hr]
  rfl

/-- The part when a port has taken a frame: of its blocks the link controller's alone has changed. -/
def State.taken (s : State) (p : Port) : State := { s with lkc := (s.dropFront p).lkc }

theorem State.dropFront_eq (s : State) (p : Port) : s.dropFront p = s.taken p :=
  State.eq_of_blocks (by unfold State.taken; simp)

theorem State.taken_link (s : State) (p q : Port) : (s.taken p).link q =
    if q = p then { s.link p with rx := (s.link p).rx.tail } else s.link q := by
  rw [← s.dropFront_eq]
  exact State.setLink_link ..

theorem State.taken_self (s : State) (p : Port) :
    (s.taken p).link p = { s.link p with rx := (s.link p).rx.tail } := by
  rw [s.taken_link, if_pos rfl]

theorem State.taken_other (s : State) {p q : Port} (h : q ≠ p) : (s.taken p).link q = s.link q := by
  rw [s.taken_link, if_neg h]

/-! ### Changes of mode -/

theorem Aftermath.enterAudit (h : Aftermath r s) (i : Fin 32) (hv : (s.record i).valid = true) :
    Aftermath r (s.enterAudit i) :=
  Aftermath.setPtl (h.updateRecord i _ fun ⟨hn, _, _⟩ => by rw [hv] at hn; cases hn) _

theorem State.enterAudit_record (s : State) (i j : Fin 32) : (s.enterAudit i).record j =
    if j = i then { s.record i with running := true, acc := 0, pointer := 0 } else s.record j :=
  State.updateRecord_record ..

/-- The change of mode into RUN, which the patrol does not follow (Table 5.3). -/
theorem State.requestMode_run (s : State) : s.requestMode .run =
    if s.mdc.mode.leadsTo .run then ((s.setMode .run).fire .modeChanged).chooseMove else s := rfl

theorem Aftermath.requestMode_run (h : Aftermath r s) : Aftermath r (s.requestMode .run) := by
  rw [State.requestMode_run]
  split
  · exact ((h.setMode _).fire _).chooseMove
  · exact h

/-- The change of mode into VERIFY starts the audit pass at the first digest region (R79). -/
theorem State.requestMode_verify (s : State) : s.requestMode .verify =
    if s.mdc.mode.leadsTo .verify then (((s.setMode .verify).fire .modeChanged).startVerify).chooseMove else s := rfl

theorem State.startVerify_kind (s : State) : s.startVerify.ptl.kind = .verifyAudit := by
  unfold State.startVerify
  dsimp only
  split <;> rfl

theorem State.startVerify_head {i : Fin 32} (h : s.digestRegions.head? = some i) :
    s.startVerify.ptl.place = some { region := i, word := 0 } ∧
      ∀ j, s.startVerify.record j =
        if j = i then { s.record i with running := true, acc := 0, pointer := 0 } else s.record j := by
  obtain ⟨is, hs⟩ := List.head?_eq_some_iff.1 h
  unfold State.startVerify
  rw [hs]
  exact ⟨rfl, fun j => State.enterAudit_record _ i j⟩

theorem State.startVerify_evu (s : State) : s.startVerify.evu = s.evu := by
  unfold State.startVerify
  dsimp only
  split <;> rfl

/-! ### A repair audit (R81, R158) -/

theorem State.enterRepairAudit_valid {i : Fin 32} (h : (s.record i).valid = true) : s.enterRepairAudit i = s.enterAudit i :=
  if_pos h

theorem State.enterRepairAudit_invalid {i : Fin 32} (h : (s.record i).valid = false) :
    s.enterRepairAudit i = (s.isolateFor .repairFailed).resumeScrub := if_neg (by rw [h]; exact nofun)

theorem Aftermath.enterRepairAudit (h : Aftermath r s) (i : Fin 32) : Aftermath r (s.enterRepairAudit i) := by
  cases hv : (s.record i).valid with
  | true =>
    rw [State.enterRepairAudit_valid hv]
    exact h.enterAudit i hv
  | false =>
    rw [State.enterRepairAudit_invalid hv]
    exact (h.isolateFor _).resumeScrub

theorem Aftermath.repairSucceeded (h : Aftermath r s) : Aftermath r s.repairSucceeded := (h.requestMode_run.setRse _).fire _

theorem Aftermath.beginRepairAudit (h : Aftermath r s) (is : List (Fin 32)) : Aftermath r (s.beginRepairAudit is) := by
  unfold State.beginRepairAudit
  split
  · exact (h.setPtl _).enterRepairAudit _
  · exact (h.setPtl _).repairSucceeded.resumeScrub

/-- The list stays empty as a repair audit begins. -/
theorem State.enterRepairAudit_list (i : Fin 32) (h : s.rse.repairList = []) (hm : s.mdc.mode = .repair) :
    (s.enterRepairAudit i).rse.repairList = [] := by
  cases hv : (s.record i).valid with
  | true =>
    rw [State.enterRepairAudit_valid hv]
    simpa using h
  | false =>
    rw [State.enterRepairAudit_invalid hv]
    simp [s.isolateFor_rse .repairFailed (by rw [hm]; rfl)]

theorem State.beginRepairAudit_list (is : List (Fin 32)) (h : s.rse.repairList = []) (hm : s.mdc.mode = .repair) :
    (s.beginRepairAudit is).rse.repairList = [] := by
  unfold State.beginRepairAudit
  split
  · exact State.enterRepairAudit_list _ h hm
  · simp [State.repairSucceeded, State.setRepair, State.setRse, h]

/-- The registers of PTL as the audit of the regions named begins, but for the word. -/
def Ptl.auditing (x : Ptl) (is : List (Fin 32)) : Ptl :=
  { x with
    kind := .repairAudit, place := none, riding := false
    suspended := some (x.place, x.riding), auditList := is, asked := [] }

theorem State.beginRepairAudit_cons (s : State) (i : Fin 32) (is : List (Fin 32)) :
    s.beginRepairAudit (i :: is) = (s.setPtl (s.ptl.auditing (i :: is))).enterRepairAudit i := rfl

/-- The audit of one region begins where its record is VALID. -/
theorem State.beginRepairAudit_one {i : Fin 32} (h : (s.record i).valid = true) : (s.beginRepairAudit [i]).mdc = s.mdc ∧
    (s.beginRepairAudit [i]).ptl = { s.ptl.auditing [i] with place := some { region := i, word := 0 } } ∧
    (s.beginRepairAudit [i]).rse = s.rse ∧
    (s.beginRepairAudit [i]).record i = { s.record i with running := true, acc := 0, pointer := 0 } := by
  have he : s.beginRepairAudit [i] = (s.setPtl (s.ptl.auditing [i])).enterAudit i :=
    (s.beginRepairAudit_cons i []).trans (State.enterRepairAudit_valid (s := s.setPtl (s.ptl.auditing [i])) h)
  rw [he]
  exact ⟨rfl, rfl, rfl, (State.enterAudit_record (s.setPtl (s.ptl.auditing [i])) i i).trans (if_pos rfl)⟩

/-- It fails where the record of the region it comes to is INVALID. -/
theorem State.enterRepairAudit_fails {i : Fin 32} (hm : s.mdc.mode = .repair) (h : (s.record i).valid = false) :
    (s.enterRepairAudit i).mdc = { mode := .isolated, chen := false, cause := .repairFailed } ∧
      (s.enterRepairAudit i).rse = { service := none, reentry := none, repair := none, repairList := [] } := by
  have hiso : s.mdc.mode.isolable = true := by rw [hm]; rfl
  have hmdc := (s.isolateFor_mdc .repairFailed hiso).1
  have hrse := s.isolateFor_rse .repairFailed hiso
  rw [State.enterRepairAudit_invalid h]
  exact ⟨by simpa using hmdc, by simpa using hrse⟩

theorem State.scrubInFlight_of_none (h : s.msq.port = none) : s.scrubInFlight = false := by
  unfold State.scrubInFlight
  rw [h]
  rfl

theorem State.scrubInFlight_of_read {g : Group} {i : Fin 32} {w a : Nat} (h : s.msq.port = some g) (hl : g.live = true)
    (ho : g.op = .scrubRead i w a) : s.scrubInFlight = true := by
  unfold State.scrubInFlight
  rw [h, Option.any_some, hl, ho]
  rfl

end Sys2Proof.Machine
end

section
/-! The data frames taken by a target (O60). -/

namespace Sys2Proof.Machine

variable {s t : State} {p : Port} {addr block : Nat} {ws : List Word} {x : Word}

/-! ### The four frames -/

theorem exec_segment_of (h : NextFrame s p (.segment addr ws)) :
    exec (.segment p) s = .next ((s.taken p).takeSegment p addr ws) := by
  simp only [exec, execSegment, h.front, s.dropFront_eq]

theorem exec_forward_of (h : NextFrame s p (.forward addr x)) :
    exec (.forward p) s = .next ((s.taken p).takeForward p addr x) := by
  simp only [exec, execForward, h.front, s.dropFront_eq]

theorem exec_copyEnd_of (h : NextFrame s p .copyEnd) : exec (.copyEnd p) s = .next ((s.taken p).takeCopyEnd p) := by
  simp only [exec, execCopyEnd, h.front, s.dropFront_eq]

theorem exec_repairEnd_of (h : NextFrame s p (.repairEnd block)) :
    exec (.repairEnd p) s = .next ((s.taken p).takeRepairEnd p block) := by
  simp only [exec, execRepairEnd, h.front, s.dropFront_eq]

/-! ### Writes that begin -/

theorem State.inDigestRegion_iff (s : State) (a : Nat) :
    s.inDigestRegion a = true ↔ ∃ pl, s.placeOf a = some pl ∧ pl.cls ≠ .nonvital := by
  unfold State.inDigestRegion
  simp [Option.any_eq_true]

theorem State.beginWork_link (s : State) (p q : Port) (restoring : Bool) (a : Nat) (ws : List Word) :
    (s.beginWork p restoring a ws).link q =
      if q = p then { s.link p with work := some { restoring, first := a, next := a, words := ws } } else s.link q :=
  State.setLink_link ..

/-- The port at which a taken frame's writes begin. -/
theorem State.beginWork_dropped (s : State) (p q : Port) (restoring : Bool) (a : Nat) (ws : List Word) :
    ((s.taken p).beginWork p restoring a ws).link q = if q = p then { s.link p with
      rx := (s.link p).rx.tail, work := some { restoring, first := a, next := a, words := ws } } else s.link q := by
  unfold State.beginWork
  rw [State.setLink_link, s.taken_self, s.taken_link]
  split <;> rfl

theorem State.beginWork_rest (s : State) (p : Port) (restoring : Bool) (a : Nat) (ws : List Word) :
    (s.taken p).beginWork p restoring a ws = { s with lkc := ((s.taken p).beginWork p restoring a ws).lkc } :=
  State.eq_of_blocks (by simp [State.beginWork, State.taken])

/-- A frame that RSE takes no more of. -/
theorem State.discardData_counted (s : State) : Counted s s.discardData [.forwardsDiscarded] ∧ Fired s s.discardData [] := by
  refine ⟨fun c => ?_, fun ev => by unfold FlagSet State.discardData; simp⟩
  unfold State.discardData
  simp

/-- A re-entry target in RECEIVING takes a frame of its source. -/
theorem taker_iff {v : Reentry} (hv : s.rse.reentry = some v) :
    (s.rse.reentry.any fun v => v.phase == .receiving && v.asked == p) = true ↔ v.phase = .receiving ∧ v.asked = p := by
  rw [hv]
  simp

theorem State.takeSegment_of {v : Reentry} (hr : s.rse.repair = none) (hv : s.rse.reentry = some v)
    (hph : v.phase = .receiving) (ha : v.asked = p) : s.takeSegment p addr ws =
      if addr % 256 = 0 ∧ s.inDigestRegion addr = true then s.beginWork p false addr ws
      else s.isolateFor .protocol := by
  unfold State.takeSegment
  rw [hr]
  dsimp only
  rw [(taker_iff hv).2 ⟨hph, ha⟩]
  by_cases h1 : addr % 256 = 0 <;> cases h2 : s.inDigestRegion addr <;> simp [h1]

theorem State.takeForward_of {v : Reentry} (hv : s.rse.reentry = some v) (hph : v.phase = .receiving) (ha : v.asked = p) :
    s.takeForward p addr x =
      if addr % 4 = 0 ∧ s.inDigestRegion addr = true then s.beginWork p false addr [x]
      else s.isolateFor .protocol := by
  unfold State.takeForward
  rw [(taker_iff hv).2 ⟨hph, ha⟩]
  by_cases h1 : addr % 4 = 0 <;> cases h2 : s.inDigestRegion addr <;> simp [h1]

/-- A frame with no taker is not used. -/
theorem untaken (h : ∀ v, s.rse.reentry = some v → v.phase = .asking ∨ v.asked ≠ p) :
    (s.rse.reentry.any fun v => v.phase == .receiving && v.asked == p) = false := by
  cases hv : s.rse.reentry with
  | none => rfl
  | some v => obtain h | h := h v hv <;> simp [h]

theorem State.takeSegment_untaken (hr : s.rse.repair = none)
    (h : ∀ v, s.rse.reentry = some v → v.phase = .asking ∨ v.asked ≠ p) : s.takeSegment p addr ws = s.discardData := by
  unfold State.takeSegment
  rw [hr]
  dsimp only
  rw [untaken h]
  rfl

theorem State.takeForward_untaken (h : ∀ v, s.rse.reentry = some v → v.phase = .asking ∨ v.asked ≠ p) :
    s.takeForward p addr x = s.discardData := by
  unfold State.takeForward
  rw [untaken h]
  rfl

/-- What a frame with no taker leaves. -/
theorem State.discardData_dropped (s : State) (p : Port) :
    ((s.taken p).discardData).link p = { s.link p with rx := (s.link p).rx.tail } ∧
      (∀ q, q ≠ p → ((s.taken p).discardData).link q = s.link q) ∧
      Counted s (s.taken p).discardData [.forwardsDiscarded] ∧ Fired s (s.taken p).discardData [] ∧
      (s.taken p).discardData = { s with
        lkc := (s.taken p).discardData.lkc, evu := (s.taken p).discardData.evu } := by
  have hlink (q : Port) : ((s.taken p).discardData).link q = (s.taken p).link q := by
    unfold State.link State.discardData
    simp
  obtain ⟨hc, hf⟩ := (s.taken p).discardData_counted
  refine ⟨by rw [hlink, s.taken_self], fun q hq => by rw [hlink, s.taken_other hq], hc, hf, ?_⟩
  exact State.eq_of_blocks (by simp [State.discardData, State.taken])

/-- The isolation for a frame out of place. -/
theorem State.isolateFor_target (s : State) (c : Cause)
    (hm : s.mdc.mode = .reentry ∨ s.mdc.mode = .verify ∨ s.mdc.mode = .ready ∨ s.mdc.mode = .repair) :
    (s.isolateFor c).mdc = { mode := .isolated, chen := false, cause := c } ∧
      (s.isolateFor c).rse = { service := none, reentry := none, repair := none, repairList := [] } ∧
      ∀ p, ((s.isolateFor c).link p).work = none := by
  have h : s.mdc.mode.isolable = true := by obtain h | h | h | h := hm <;> (rw [h]; rfl)
  exact ⟨(s.isolateFor_mdc c h).1, s.isolateFor_rse c h, fun p => by rw [s.isolateFor_link c h]⟩

/-! ### A SEGMENT at a repair target (R155) -/

theorem State.takeSegment_repair {v : Repair} (hv : s.rse.repair = some v) :
    s.takeSegment p addr ws = s.repairSegment p v addr ws := by
  unfold State.takeSegment
  rw [hv]

/-- A SEGMENT of the head block. -/
theorem State.repairSegment_head {v : Repair} (ha : v.asked = p) (hph : v.phase ≠ .auditing) (h : addr % 256 = 0)
    (hb : s.rse.repairList.head? = some (addr / 4096 * 4096)) : s.repairSegment p v addr ws =
      (if v.phase = .asking then (s.setRepair (some { v with phase := .receiving, time := 0 })).fire .serviceStarted
        else s.setRepair (some { v with phase := .receiving, time := 0 })).beginWork p true addr ws := by
  have hh : s.headBlock = some (blockOf addr) := hb
  unfold State.repairSegment
  dsimp only
  rw [if_neg (by simp [ha, hph]), if_neg (by simp [h, hh])]

theorem State.repairSegment_out {v : Repair} (ha : v.asked = p) (hph : v.phase ≠ .auditing)
    (h : addr % 256 ≠ 0 ∨ s.rse.repairList.head? ≠ some (addr / 4096 * 4096)) :
    s.repairSegment p v addr ws = s.isolateFor .protocol := by
  unfold State.repairSegment
  rw [if_neg (by simp [ha, hph])]
  exact if_pos h

theorem State.repairSegment_untaken {v : Repair} (h : v.asked ≠ p ∨ v.phase = .auditing) :
    s.repairSegment p v addr ws = s.discardData := if_pos h

/-- The event of a repair that begins to receive. -/
theorem State.fireIf_reported (s : State) (c : Prop) [Decidable c] (ev : Event) :
    (if c then s.fire ev else s) = { s with evu := (if c then s.fire ev else s).evu } ∧
      Fired s (if c then s.fire ev else s) (if c then [ev] else []) ∧ Counted s (if c then s.fire ev else s) [] := by
  split
  · obtain ⟨hf, hc, -⟩ := fired_of_evu s (s.fire ev) ev rfl
    exact ⟨rfl, hf, hc⟩
  · exact ⟨rfl, fun _ => by simp, fun _ => by simp⟩

/-! ### COPY_END (R144) -/

theorem State.takeCopyEnd_first {v : Reentry} (hv : s.rse.reentry = some v) (hph : v.phase = .receiving) (ha : v.asked = p)
    (hc : v.copyEnd = false) : s.takeCopyEnd p = (s.setReentry (some { v with copyEnd := true })).requestMode .verify := by
  unfold State.takeCopyEnd
  rw [hv]
  dsimp only
  rw [if_pos (by simp [hph, ha, hc])]

/-- One without a match, or a later one. -/
theorem State.takeCopyEnd_unmatched
    (h : ∀ v, s.rse.reentry = some v → v.phase = .asking ∨ v.asked ≠ p ∨ v.copyEnd = true) : s.takeCopyEnd p = s := by
  unfold State.takeCopyEnd
  split
  · rfl
  · rename_i v hv
    rw [if_neg]
    obtain h | h | h := h v hv <;> simp [h]

/-- The change from REENTRY into VERIFY. -/
theorem State.requestMode_verify_of (h : s.mdc.mode = .reentry) :
    (s.requestMode .verify).mdc = { s.mdc with mode := .verify, chen := false } ∧
    FlagSet (s.requestMode .verify) .modeChanged ∧ (s.requestMode .verify).rse = s.rse ∧
    (s.requestMode .verify).ptl.kind = .verifyAudit ∧
    (∀ i, s.digestRegions.head? = some i → (s.requestMode .verify).ptl.place = some { region := i, word := 0 } ∧
      ∀ j, (s.requestMode .verify).record j =
        if j = i then { s.record i with running := true, acc := 0, pointer := 0 } else s.record j) ∧
    (RowTableLaw s → MoveChosen s.srm s.ret.entries (MovePermitted s .verify) (s.msq.port ≠ none) (s.requestMode .verify)) := by
  rw [State.requestMode_verify, if_pos (by rw [h]; rfl)]
  let y : State := (s.setMode .verify).fire .modeChanged
  have hmdc : y.startVerify.mdc = { s.mdc with mode := .verify, chen := false } := by
    simp [y, State.setMode]
  refine ⟨(State.chooseMove_frame _).2.2.2.2.2.2.2.2.2.1.trans hmdc, ?_, by simp, ?_, fun i hi => ?_, fun hn => ?_⟩
  · refine (Aftermath.chooseMove (.refl _)).flags _ ?_
    unfold FlagSet
    rw [State.startVerify_evu, State.fire_flag]
    simp
  · rw [(State.chooseMove_frame _).2.2.2.2.2.2.1]
    exact State.startVerify_kind _
  · have hd : y.digestRegions = s.digestRegions := (State.sets_of_rgt (s := s) (t := y) (by simp [y])).2.1
    have hrec : y.record = s.record := State.record_of_dgu (by simp [y])
    obtain ⟨hpl, hr⟩ := State.startVerify_head (s := y) (hd ▸ hi)
    rw [(State.chooseMove_frame _).2.2.2.2.2.2.1, State.record_of_dgu (State.chooseMove_frame _).2.2.2.2.2.1, ← hrec]
    exact ⟨hpl, hr⟩
  · have hk : GroupKept s y.startVerify := .of_msq (by simp [y])
    have hc := hk.chosen hn (by simp [y]) (by simp [y])
    rw [hmdc] at hc
    exact hc

/-! ### REPAIR_END (R156) -/

/-- One that names another block, port or phase. -/
theorem State.takeRepairEnd_unmatched
    (h : ∀ v, s.rse.repair = some v → v.asked ≠ p ∨ v.phase = .auditing ∨ s.rse.repairList.head? ≠ some block) :
    s.takeRepairEnd p block = s := by
  unfold State.takeRepairEnd State.headBlock
  split
  · rfl
  · rename_i v hv
    rw [if_neg]
    obtain h | h | h := h v hv <;> simp [h]

theorem State.takeRepairEnd_of {v : Repair} {rest : List Nat} (hv : s.rse.repair = some v) (ha : v.asked = p)
    (hph : v.phase ≠ .auditing) (hl : s.rse.repairList = block :: rest) :
    s.takeRepairEnd p block = if v.whole = true then s.blockRestored p v block else s.askFrom p := by
  unfold State.takeRepairEnd State.headBlock
  rw [hv, hl]
  dsimp only
  rw [if_pos (by simp [ha, hph])]

theorem Repair.whole_iff (v : Repair) : v.whole = true ↔ ∀ k, k < 16 → k ∈ v.written := by
  unfold Repair.whole
  simp

/-- The region of a restored block is one of those repaired. -/
theorem Repair.restore_eq (v : Repair) (o : Option (Fin 32)) : v.restore o = { v with repaired := (v.restore o).repaired } := by
  unfold Repair.restore
  cases o with
  | none => rfl
  | some i => dsimp only; split <;> rfl

theorem Repair.mem_restore (v : Repair) (o : Option (Fin 32)) (k : Fin 32) :
    k ∈ (v.restore o).repaired ↔ k ∈ v.repaired ∨ o = some k := by
  unfold Repair.restore
  cases o with
  | none => simp
  | some i =>
    dsimp only
    split
    · rename_i hi
      refine ⟨.inl, fun h => h.elim id fun h => ?_⟩
      rwa [← Option.some.inj h]
    · rw [List.mem_cons, or_comm, Option.some.injEq, @eq_comm _ k]

/-- A block with all its segments has left the list. -/
def State.headRestored (s : State) (v : Repair) (block : Nat) : State :=
  (s.setRse { s.rse with
    repair := some (v.restore (s.findRegion block)), repairList := s.rse.repairList.tail }).fire .serviceEnded

theorem State.headRestored_rse (s : State) (v : Repair) (block : Nat) : (s.headRestored v block).rse = { s.rse with
    repair := some (v.restore (s.findRegion block)), repairList := s.rse.repairList.tail } := by
  unfold State.headRestored
  simp [State.setRse]

theorem State.headRestored_link (s : State) (v : Repair) (block : Nat) (q : Port) :
    (s.headRestored v block).link q = s.link q := by
  unfold State.headRestored State.link
  simp

theorem State.headRestored_fired (s : State) (v : Repair) (block : Nat) : Fired s (s.headRestored v block) [.serviceEnded] :=
  (fired_of_evu (s.setRse _) _ .serviceEnded rfl).1

theorem State.blockRestored_eq (s : State) (p : Port) (v : Repair) (block : Nat) : s.blockRestored p v block =
    if s.rse.repairList.tail = [] then
      ((s.headRestored v block).setRepair (some { v.restore (s.findRegion block) with phase := .auditing })).askRepairAudit
        (State.repairedRegions (v.restore (s.findRegion block)))
    else (s.headRestored v block).askFrom p := by
  have h : (s.headRestored v block).rse.repairList = s.rse.repairList.tail := by rw [s.headRestored_rse]
  rw [← h]
  rfl

theorem repairedRegions_mem (v : Repair) (k : Fin 32) : k ∈ State.repairedRegions v ↔ k ∈ v.repaired := by
  unfold State.repairedRegions allRegions
  simp

theorem repairedRegions_sorted (v : Repair) : (State.repairedRegions v).Pairwise (· < ·) := allRegions_sorted.filter _

theorem repairedRegions_single {v : Repair} {i : Fin 32} (h : ∀ k, k ∈ v.repaired ↔ k = i) :
    State.repairedRegions v = [i] :=
  (repairedRegions_sorted v).sortedLT.eq_of_mem_iff (List.pairwise_singleton _ _).sortedLT fun k => by
    rw [repairedRegions_mem, h, List.mem_singleton]

/-- The next block is asked for where the port's queue has room. -/
theorem State.askFrom_of {v : Repair} (hv : s.rse.repair = some v) (hup : (s.link p).up = true)
    (hl : (s.link p).tx.length < 16) : s.askFrom p = s.askBlock v.fresh p := by
  have ha : s.blockAsked p = true := by
    unfold State.blockAsked State.offerResult Config.txQueueSize
    simp [hup, hl]
  unfold State.askFrom
  rw [hv]
  dsimp only
  rw [if_pos ha]

/-- The port after the request has entered its queue. -/
theorem State.askBlock_self (v : Repair) (hup : (s.link p).up = true) (hl : (s.link p).tx.length < 16) :
    (s.askBlock v p).link p = { s.link p with
      tx := (s.link p).tx ++ [.repairRequest s.dgu.tableDigest (s.rse.repairList.head?.getD 0)] } := by
  rw [State.askBlock_link, if_pos rfl]
  unfold queued
  rw [if_pos ⟨hup, hl⟩]
  rfl

theorem State.askBlock_room (v : Repair) (hup : (s.link p).up = true) (hl : (s.link p).tx.length < 16) :
    s.askBlock v p = { s with rse := { s.rse with repair := some (v.ask p) }, lkc := (s.askBlock v p).lkc } := by
  have hq : (s.setRepair (some (v.ask p))).offerResult p = .queued := by
    show s.offerResult p = .queued
    unfold State.offerResult Config.txQueueSize
    simp [hup, hl]
  refine State.eq_of_blocks ?_
  unfold State.askBlock State.offerFrame
  rw [hq]
  simp [State.setRepair, State.setRse]

theorem State.headRestored_rest (s : State) (v : Repair) (block : Nat) : s.headRestored v block = { s with
    rse := (s.headRestored v block).rse, evu := (s.headRestored v block).evu } := rfl

/-- The part when the last block has been restored, as the repair audit is asked for. -/
def State.allRestored (s : State) (v : Repair) (block : Nat) : State :=
  (s.headRestored v block).setRepair (some { v.restore (s.findRegion block) with phase := .auditing })

theorem State.allRestored_rse (s : State) (v : Repair) (block : Nat) (h : s.rse.repairList = [block]) :
    (s.allRestored v block).rse = { s.rse with
      repair := some { v.restore (s.findRegion block) with phase := .auditing }, repairList := [] } := by
  have hr := s.headRestored_rse v block
  rw [h] at hr
  unfold State.allRestored State.setRepair State.setRse
  dsimp only
  rw [hr]
  rfl

/-- A scrub read in flight ends before the repair audit begins (R81). -/
theorem State.blockRestored_waits (s : State) (p : Port) (v : Repair) (block : Nat) (h : s.rse.repairList = [block])
    (hs : s.scrubInFlight = true) : s.blockRestored p v block =
      (s.allRestored v block).setPtl { s.ptl with asked := State.repairedRegions (v.restore (s.findRegion block)) } := by
  rw [State.blockRestored_eq, if_pos (by rw [h]; rfl)]
  exact if_pos hs

/-- Otherwise it begins at once. -/
theorem State.blockRestored_audits (s : State) (p : Port) (v : Repair) (block : Nat) (h : s.rse.repairList = [block])
    (hs : s.scrubInFlight = false) : s.blockRestored p v block =
      (s.allRestored v block).beginRepairAudit (State.repairedRegions (v.restore (s.findRegion block))) := by
  rw [State.blockRestored_eq, if_pos (by rw [h]; rfl)]
  have hz : (s.allRestored v block).scrubInFlight = false := hs
  exact if_neg (show ¬ (s.allRestored v block).scrubInFlight = true by rw [hz]; exact nofun)

/-! ### The statement -/

/-- Settles O60. -/
theorem targetTakesData : Obligations.TargetTakesData := by
  refine ⟨fun s p addr ws v hn hr hv hph ha => ?_, fun s p addr x v hn hv hph ha => ?_, fun s p f i hi hn hno => ?_,
    fun s p addr ws v hn hv => ⟨fun ha hph h1 hb => ?_, fun ha hph h hm => ?_, fun h => ?_⟩,
    fun s p v hn hv hph ha => ⟨fun hc hm => ?_, fun hc => ?_⟩, fun s p hn hno => ?_, fun s p block hn hno => ?_, ?_, ?_⟩
  · have htake := State.takeSegment_of (s := s.taken p) (addr := addr) (ws := ws) (v := v) hr hv hph ha
    refine ⟨fun h1 h2 => ⟨_, (exec_segment_of hn).trans (congrArg _ (htake.trans (if_pos ⟨h1, (State.inDigestRegion_iff _ _).2 h2⟩))), ?_, fun q hq => ?_, State.beginWork_rest ..⟩,
      fun h hm => ⟨_, (exec_segment_of hn).trans (congrArg _ (htake.trans (if_neg ?_))), ?_⟩⟩
    · rw [State.beginWork_dropped, if_pos rfl]
    · rw [State.beginWork_dropped, if_neg hq]
    · rintro ⟨h1, h2⟩
      obtain ⟨pl, hpl, hc⟩ := (State.inDigestRegion_iff _ _).1 h2
      exact h.elim (fun h => h h1) (fun h => hc (h pl hpl))
    · obtain ⟨hmdc, hrse, hwork⟩ := (s.taken p).isolateFor_target .protocol
        (hm.imp_right fun h => h.imp_right .inl)
      exact ⟨hmdc, by rw [hrse], hwork p⟩
  · have htake := State.takeForward_of (s := s.taken p) (addr := addr) (x := x) (v := v) hv hph ha
    refine ⟨fun h1 h2 => ⟨_, (exec_forward_of hn).trans (congrArg _ (htake.trans (if_pos ⟨h1, (State.inDigestRegion_iff _ _).2 h2⟩))), ?_, fun q hq => ?_, State.beginWork_rest ..⟩,
      fun h hm => ⟨_, (exec_forward_of hn).trans (congrArg _ (htake.trans (if_neg ?_))), ?_⟩⟩
    · rw [State.beginWork_dropped, if_pos rfl]
    · rw [State.beginWork_dropped, if_neg hq]
    · rintro ⟨h1, h2⟩
      obtain ⟨pl, hpl, hc⟩ := (State.inDigestRegion_iff _ _).1 h2
      exact h.elim (fun h => h h1) (fun h => hc (h pl hpl))
    · exact ((s.taken p).isolateFor_target .protocol (hm.imp_right fun h => h.imp_right .inl)).1
  · refine ⟨(s.taken p).discardData, ?_, s.discardData_dropped p⟩
    obtain ⟨rfl, ⟨a, ws, rfl⟩, hr⟩ | ⟨rfl, a, x, rfl⟩ := hi
    · rw [exec_segment_of hn, State.takeSegment_untaken (s := s.taken p) hr hno]
    · rw [exec_forward_of hn, State.takeForward_untaken (s := s.taken p) hno]
  · let z : State := (s.taken p).setRepair (some { v with phase := .receiving, time := 0 })
    obtain ⟨heq, hf, hc⟩ := z.fireIf_reported (v.phase = .asking) .serviceStarted
    refine ⟨_, (exec_segment_of hn).trans (congrArg _ ((State.takeSegment_repair (s := s.taken p) hv).trans
      (State.repairSegment_head ha hph h1 hb))), ?_⟩
    generalize (if v.phase = .asking then z.fire .serviceStarted else z) = w at heq hf hc
    have hrse : w.rse = { s.rse with repair := some { v with phase := .receiving, time := 0 } } := by rw [heq]; rfl
    have hlink (q : Port) : w.link q = (s.taken p).link q := by rw [heq]; rfl
    have hevu : (w.beginWork p true addr ws).evu = w.evu := by simp [State.beginWork]
    refine ⟨by simpa [State.beginWork] using hrse, ?_, fun q hq => ?_, ?_, ?_, State.eq_of_blocks ?_⟩
    · rw [State.beginWork_link, if_pos rfl, hlink, s.taken_self]
    · rw [State.beginWork_link, if_neg hq, hlink, s.taken_other hq]
    · unfold Fired FlagSet
      rw [hevu]
      exact hf
    · unfold Counted
      rw [hevu]
      exact hc
    · rw [heq]
      simp [State.beginWork, State.setRepair, State.setRse, State.taken, z]
  · obtain ⟨hmdc, hrse, -⟩ := (s.taken p).isolateFor_target .protocol (.inr (.inr (.inr hm)))
    exact ⟨_, (exec_segment_of hn).trans (congrArg _ ((State.takeSegment_repair (s := s.taken p) hv).trans
      (State.repairSegment_out ha hph h))), hmdc, by rw [hrse]⟩
  · obtain ⟨-, -, hc, -, heq⟩ := s.discardData_dropped p
    refine ⟨_, (exec_segment_of hn).trans (congrArg _ ((State.takeSegment_repair (s := s.taken p) hv).trans
      (State.repairSegment_untaken h))), ?_, hc, heq⟩
    rw [heq]
  · let y : State := (s.taken p).setReentry (some { v with copyEnd := true })
    obtain ⟨hmdc, hflag, hrse, hkind, hhead, hmove⟩ := State.requestMode_verify_of (s := y) hm
    refine ⟨_, (exec_copyEnd_of hn).trans (congrArg _ (State.takeCopyEnd_first (s := s.taken p) hv hph ha hc)), hmdc, hflag,
      hrse, hkind, fun i hi => ?_, hmove⟩
    obtain ⟨hpl, hrec⟩ := hhead i hi
    exact ⟨hpl, (hrec i).trans (if_pos rfl), fun j hj => (hrec j).trans (if_neg hj)⟩
  · refine ⟨_, (exec_copyEnd_of hn).trans (congrArg _ (State.takeCopyEnd_unmatched (s := s.taken p) fun w hw => ?_)),
      s.taken_self p, rfl⟩
    cases hv.symm.trans hw
    exact .inr (.inr hc)
  · exact ⟨_, (exec_copyEnd_of hn).trans (congrArg _ (State.takeCopyEnd_unmatched (s := s.taken p) fun w hw =>
      (hno w hw).imp_right .inl)), s.taken_self p, fun q hq => s.taken_other hq, rfl⟩
  · exact ⟨_, (exec_repairEnd_of hn).trans (congrArg _ (State.takeRepairEnd_unmatched (s := s.taken p) hno)),
      s.taken_self p, fun q hq => s.taken_other hq, rfl⟩
  · intro s p block v g i w a hn hv ha hph hl hw hp hlive ho
    have htake := (State.takeRepairEnd_of (s := s.taken p) hv ha hph hl).trans (if_pos (v.whole_iff.2 hw))
    have hwait := (s.taken p).blockRestored_waits p v block hl (State.scrubInFlight_of_read (s := s.taken p) hp hlive ho)
    have hrse := (s.taken p).allRestored_rse v block hl
    let v' : Repair := v.restore (s.findRegion block)
    refine ⟨_, { v' with phase := .auditing }, (exec_repairEnd_of hn).trans (congrArg _ (htake.trans hwait)), hrse, ?_,
      v.mem_restore _, rfl, repairedRegions_mem v', repairedRegions_sorted v', s.taken_self p,
      (s.taken p).headRestored_fired v block, rfl⟩
    rw [show v' = _ from v.restore_eq _]
  · intro s p block rest v hn hv ha hph hl
    have htake := State.takeRepairEnd_of (s := s.taken p) hv ha hph hl
    refine ⟨fun hw hr hup htx => ?_, fun hw hr hp hm => ?_, fun ⟨k, hk, hkw⟩ hup htx => ?_⟩
    · let z : State := (s.taken p).headRestored v block
      let v' : Repair := v.restore (s.findRegion block)
      have hzr : z.rse = { s.rse with repair := some v', repairList := rest } := by
        rw [show z.rse = _ from State.headRestored_rse ..]
        show { s.rse with repair := some v', repairList := s.rse.repairList.tail } = _
        rw [hl]
        rfl
      have hz : (s.taken p).blockRestored p v block = z.askFrom p := by
        rw [State.blockRestored_eq, if_neg (by rw [show (s.taken p).rse.repairList = _ from hl]; exact hr)]
      have hlink : z.link p = { s.link p with rx := (s.link p).rx.tail } := s.taken_self p
      have hupz : (z.link p).up = true := by rw [hlink]; exact hup
      have htxz : (z.link p).tx.length < 16 := by rw [hlink]; exact htx
      have hask : z.askFrom p = z.askBlock v'.fresh p := State.askFrom_of (by rw [hzr]) hupz htxz
      have hroom := State.askBlock_room v'.fresh hupz htxz
      have hself := State.askBlock_self v'.fresh hupz htxz
      rw [hlink, hzr] at hself
      refine ⟨_, v'.fresh.ask p, (exec_repairEnd_of hn).trans (congrArg _ ((htake.trans (if_pos (v.whole_iff.2 hw))).trans
        (hz.trans hask))), ?_, rfl, rfl, rfl, rfl, ?_, ?_, v.mem_restore _, hself, ?_, ?_⟩
      · rw [hroom, hzr]
      · cases p <;> simp [Repair.ask, Repair.fresh]
      · cases p <;> simp [Repair.ask, Repair.fresh]
      · rw [hroom]
        exact (s.taken p).headRestored_fired v block
      · rw [hroom]
        rfl
    · rw [hr] at hl
      have haud := (s.taken p).blockRestored_audits p v block hl (State.scrubInFlight_of_none (s := s.taken p) hp)
      have hrse := (s.taken p).allRestored_rse v block hl
      have hflag : FlagSet ((s.taken p).allRestored v block) .serviceEnded :=
        ((s.taken p).headRestored_fired v block _).2 (.inr (by simp))
      have hone (i : Fin 32) (hi : s.findRegion block = some i) (hv0 : v.repaired = []) :
          State.repairedRegions (v.restore (s.findRegion block)) = [i] :=
        repairedRegions_single fun k => by rw [v.mem_restore, hv0, hi]; simp [eq_comm]
      refine ⟨_, (exec_repairEnd_of hn).trans (congrArg _ ((htake.trans (if_pos (v.whole_iff.2 hw))).trans haud)),
        State.beginRepairAudit_list _ (by rw [hrse]) hm, ((Aftermath.refl _).beginRepairAudit _).flags _ hflag,
        fun i hi hv0 hvalid => ?_, fun i hi hv0 hvalid => ?_⟩
      · rw [show (s.taken p).findRegion block = s.findRegion block from rfl, hone i hi hv0]
        obtain ⟨hmdc, hptl, hr, hrec⟩ := State.beginRepairAudit_one (s := (s.taken p).allRestored v block) hvalid
        rw [hmdc, hptl, hr, hrec, hrse]
        exact ⟨rfl, rfl, rfl, rfl, rfl, _, rfl, rfl⟩
      · rw [show (s.taken p).findRegion block = s.findRegion block from rfl, hone i hi hv0, State.beginRepairAudit_cons]
        let z : State := (s.taken p).allRestored v block
        obtain ⟨hmdc, hr⟩ := State.enterRepairAudit_fails (s := z.setPtl (z.ptl.auditing [i])) hm hvalid
        exact ⟨hmdc, by rw [hr]⟩
    · have hupz : ((s.taken p).link p).up = true := by rw [s.taken_self]; exact hup
      have htxz : ((s.taken p).link p).tx.length < 16 := by rw [s.taken_self]; exact htx
      have hask := State.askFrom_of (s := s.taken p) hv hupz htxz
      have hroom := State.askBlock_room v.fresh hupz htxz
      have hself := State.askBlock_self v.fresh hupz htxz
      rw [s.taken_self, show (s.taken p).rse.repairList = _ from hl] at hself
      refine ⟨_, (exec_repairEnd_of hn).trans (congrArg _ ((htake.trans (if_neg fun h => hkw (v.whole_iff.1 h k hk))).trans
        hask)), ?_, hself, fun q hq => ?_, ?_⟩
      · rw [hroom]
        subst ha
        rfl
      · rw [State.askBlock_link, if_neg hq, s.taken_other hq]
      · rw [hroom]
        rfl

end Sys2Proof.Machine
end

section
/-! The vote (R108 to R110): the results of Table 7.4 and the outcome of a decision, as pure facts about what is compared. -/

namespace Sys2Proof.Machine

/-! ### Voters (R108) -/

theorem VoteRecord.voter_eq_some {r : VoteRecord} {m : Mode} {p : Port} {x : PartnerSet} :
    r.voter m p = some x ↔ r.setOf p = some x ∧ x.votes m = true := Option.filter_eq_some_iff

theorem VoteRecord.voter_eq_none {r : VoteRecord} {m : Mode} {p : Port} :
    r.voter m p = none ↔ ∀ x, r.setOf p = some x → x.votes m = false := by
  unfold VoteRecord.voter
  rw [Option.filter_eq_none_iff]
  simp

/-- A partner is a voter whose set is so. -/
theorem voterIs_iff (r : VoteRecord) (m : Mode) (p : Port) (P : PartnerSet → Prop) :
    VoterIs r m p P ↔ ∃ x, r.voter m p = some x ∧ P x := by
  unfold VoterIs
  simp only [VoteRecord.voter_eq_some, and_assoc]

/-! ### Table 7.4 -/

section
variable {a b : Option PartnerSet} {la lb : PartnerSet → Bool} {ab : PartnerSet → PartnerSet → Bool} {x y : PartnerSet}

theorem resultOf_both : resultOf (some x) (some y) la lb ab =
    if la x then (if lb y then .agree else .partnerDissent .b)
    else if lb y then .partnerDissent .a else if ab x y then .localDissent else .noMajority := by
  unfold resultOf
  cases hx : la x <;> cases hy : lb y <;> simp [hx, hy]

theorem resultOf_onlyA : resultOf (some x) none la lb ab = if la x then .agree else .split := rfl

theorem resultOf_onlyB : resultOf none (some y) la lb ab = if lb y then .agree else .split := rfl

/-- One voter alone, compared alike on either side. -/
theorem resultOf_lone (h : a = some x ∧ b = none ∨ a = none ∧ b = some x) :
    resultOf a b la la ab = if la x then .agree else .split := by
  obtain ⟨rfl, rfl⟩ | ⟨rfl, rfl⟩ := h
  · exact resultOf_onlyA
  · exact resultOf_onlyB

/-- Every voter there is agrees. -/
theorem resultOf_agree (hex : a ≠ none ∨ b ≠ none) (h : ∀ x, a = some x ∨ b = some x → la x = true) :
    resultOf a b la la ab = .agree := by
  cases a with
  | none =>
    cases b with
    | none => simp at hex
    | some y => rw [resultOf_onlyB, if_pos (h y (.inr rfl))]
  | some x =>
    cases b with
    | none => rw [resultOf_onlyA, if_pos (h x (.inl rfl))]
    | some y => rw [resultOf_both, if_pos (h x (.inl rfl)), if_pos (h y (.inr rfl))]

theorem resultOf_neither : resultOf none none la lb ab = .unchecked := rfl

end

/-- A result of the model is that of Table 7.4. -/
theorem resultOf_table74 (r : VoteRecord) (m : Mode) (la lb : PartnerSet → Bool) (ab : PartnerSet → PartnerSet → Bool) :
    Table74 (VoterIs r m .a fun _ => True) (VoterIs r m .b fun _ => True) (VoterIs r m .a fun x => la x = true)
      (VoterIs r m .b fun y => lb y = true) (∃ x y, r.setA = some x ∧ r.setB = some y ∧ ab x y = true)
      (resultOf (r.voter m .a) (r.voter m .b) la lb ab) := by
  have hA {x : PartnerSet} (h : r.voter m .a = some x) : r.setA = some x := (VoteRecord.voter_eq_some.1 h).1
  have hB {x : PartnerSet} (h : r.voter m .b = some x) : r.setB = some x := (VoteRecord.voter_eq_some.1 h).1
  simp only [voterIs_iff]
  unfold Table74
  cases ha : r.voter m .a with
  | none =>
    cases hb : r.voter m .b with
    | none => simp [resultOf_neither]
    | some y => cases hy : lb y <;> simp [resultOf_onlyB, hy]
  | some x =>
    cases hb : r.voter m .b with
    | none => cases hx : la x <;> simp [resultOf_onlyA, hx]
    | some y =>
      rw [hA ha, hB hb]
      cases hx : la x <;> cases hy : lb y <;> cases hxy : ab x y <;> simp [resultOf_both, hx, hy, hxy]

/-! ### The outcome (R110) -/

theorem VoteOutcome.badness_inj {x y : VoteOutcome} (h : x.badness = y.badness) : x = y := by
  cases x <;> cases y <;> simp_all [VoteOutcome.badness]

theorem worseOutcome_badness (x y : VoteOutcome) : (worseOutcome x y).badness = max x.badness y.badness := by
  unfold worseOutcome
  split <;> omega

/-- The running worst of a list whose results are none worse than an outcome that is met. -/
theorem foldl_worseOutcome {rs : List (Nat × RegionResult)} {o : VoteOutcome} (x : VoteOutcome)
    (hx : x.badness ≤ o.badness) (hle : ∀ r ∈ rs, r.2.outcome.badness ≤ o.badness)
    (hex : x = o ∨ ∃ r ∈ rs, r.2.outcome = o) : rs.foldl (fun o r => worseOutcome o r.2.outcome) x = o := by
  induction rs generalizing x with
  | nil => simpa using hex
  | cons r rs ih =>
    have hr := hle r (by simp)
    rw [List.foldl_cons]
    refine ih _ (by rw [worseOutcome_badness]; omega) (fun q hq => hle q (by simp [hq])) ?_
    obtain rfl | ⟨q, hq, rfl⟩ := hex
    · exact .inl (VoteOutcome.badness_inj (by rw [worseOutcome_badness]; omega))
    · obtain rfl | hq := List.mem_cons.1 hq
      · exact .inl (VoteOutcome.badness_inj (by rw [worseOutcome_badness]; omega))
      · exact .inr ⟨q, hq, rfl⟩

/-- The worst of the results. -/
theorem worstOutcome_eq {rs : List (Nat × RegionResult)} {o : VoteOutcome}
    (hle : ∀ r ∈ rs, r.2.outcome.badness ≤ o.badness) (hex : ∃ r ∈ rs, r.2.outcome = o) : worstOutcome rs = o := by
  obtain ⟨r, hr, ho⟩ := hex
  exact foldl_worseOutcome _ (Nat.zero_le _) hle (.inr ⟨r, hr, ho⟩)

/-- The outcome of a decision whose results are none worse than that of one of them. -/
theorem decisionResults_outcome {l : Snapshot} {a b : Option PartnerSet} {o : VoteOutcome}
    (he : ∀ e ∈ l.entries, (regionResult l a b e.region).outcome.badness ≤ o.badness)
    (ht : (tableResult l a b).outcome.badness ≤ o.badness)
    (hex : (∃ e ∈ l.entries, (regionResult l a b e.region).outcome = o) ∨ (tableResult l a b).outcome = o) :
    worstOutcome (decisionResults l a b) = o := by
  refine worstOutcome_eq (fun r hr => ?_) ?_
  · obtain hr | hr := List.mem_append.1 hr
    · obtain ⟨e, hm, rfl⟩ := List.mem_map.1 hr
      exact he e hm
    · rw [List.mem_singleton.1 hr]
      exact ht
  · obtain ⟨e, hm, ho⟩ | ho := hex
    · exact ⟨_, List.mem_append_left _ (List.mem_map.2 ⟨e, hm, rfl⟩), ho⟩
    · exact ⟨_, List.mem_append_right _ (List.mem_singleton.2 rfl), ho⟩

/-- Whether some result of a decision is of a kind. -/
theorem decisionResults_any (l : Snapshot) (a b : Option PartnerSet) (P : RegionResult → Bool) :
    (decisionResults l a b).any (fun r => P r.2) = true ↔
      (∃ e ∈ l.entries, P (regionResult l a b e.region) = true) ∨ P (tableResult l a b) = true := by
  unfold decisionResults
  simp

/-- Results at the places of the snapshot's regions, then that of the table. -/
theorem decisionResults_get (l : Snapshot) (a b : Option PartnerSet) : (decisionResults l a b).length = l.entries.length + 1 ∧
    (∀ (k : Nat) e, l.entries[k]? = some e → (decisionResults l a b)[k]? = some (e.region, regionResult l a b e.region)) ∧
    (decisionResults l a b)[l.entries.length]? = some (32, tableResult l a b) := by
  unfold decisionResults
  refine ⟨by simp, fun k e h => ?_, ?_⟩
  · have hk : k < l.entries.length := by
      by_contra hk
      rw [List.getElem?_eq_none (by omega)] at h
      cases h
    rw [List.getElem?_append_left (by simpa using hk), List.getElem?_map, h]
    rfl
  · rw [List.getElem?_append_right (by simp)]
    simp [tableIndex]

/-! ### Values where a table digest differs (R108) -/

theorem localEquals_of_table {l : Snapshot} {x : PartnerSet} (h : x.tableDigest ≠ l.tableDigest) (i : Nat) :
    localEquals l x i = false := by
  unfold localEquals
  simp [h]

theorem partnersEqual_of_table {l : Snapshot} {x y : PartnerSet} (h : x.tableDigest ≠ l.tableDigest ∨ y.tableDigest ≠ l.tableDigest)
    (i : Nat) : partnersEqual l x y i = false := by
  unfold partnersEqual
  obtain h | h := h <;> simp [h]

/-! ### Outcomes by who agrees (R110) -/

section
variable {l : Snapshot} {a b : Option PartnerSet} {x y : PartnerSet}

/-- No voter. -/
theorem outcome_unchecked : worstOutcome (decisionResults l none none) = .unchecked :=
  decisionResults_outcome (fun _ _ => Nat.le_refl _) (Nat.le_refl _) (.inr rfl)

/-- Every voter agrees with the local values. -/
theorem outcome_agree (hex : a ≠ none ∨ b ≠ none)
    (h : ∀ x, a = some x ∨ b = some x → x.tableDigest = l.tableDigest ∧ ∀ e ∈ l.entries, localEquals l x e.region = true) :
    worstOutcome (decisionResults l a b) = .agree := by
  have ht : tableResult l a b = .agree := resultOf_agree hex fun x hx => by simpa using (h x hx).1
  refine decisionResults_outcome (fun e he => ?_) ?_ (.inr ?_)
  · have hr : regionResult l a b e.region = .agree := resultOf_agree hex fun x hx => (h x hx).2 e he
    rw [hr]
    rfl
  · rw [ht]
    rfl
  · rw [ht]
    rfl

/-- The only voter differs from the local values somewhere. -/
theorem outcome_split (h : a = some x ∧ b = none ∨ a = none ∧ b = some x)
    (hd : x.tableDigest ≠ l.tableDigest ∨ ∃ e ∈ l.entries, localEquals l x e.region = false) :
    worstOutcome (decisionResults l a b) = .split ∧
      tableResult l a b = if x.tableDigest = l.tableDigest then .agree else .split := by
  have ht : tableResult l a b = if x.tableDigest = l.tableDigest then .agree else .split :=
    (resultOf_lone h).trans (by simp)
  have hr (i : Nat) : regionResult l a b i = if localEquals l x i then .agree else .split := resultOf_lone h
  refine ⟨decisionResults_outcome (fun e _ => ?_) ?_ ?_, ht⟩
  · rw [hr]
    split <;> decide
  · rw [ht]
    split <;> decide
  · rw [ht]
    obtain hd | ⟨e, he, hd⟩ := hd
    · rw [if_neg hd]
      exact .inr rfl
    · refine .inl ⟨e, he, ?_⟩
      rw [hr, hd]
      rfl

theorem RegionResult.outcome_le (r : RegionResult) : r.outcome.badness ≤ 5 := by
  cases r <;> simp [RegionResult.outcome, VoteOutcome.badness]

/-- Some index has no two equal values. -/
theorem outcome_noMajority
    (h : (∃ e ∈ l.entries, regionResult l a b e.region = .noMajority) ∨ tableResult l a b = .noMajority) :
    worstOutcome (decisionResults l a b) = .noMajority := by
  refine decisionResults_outcome (fun e _ => RegionResult.outcome_le _) (RegionResult.outcome_le _) ?_
  obtain ⟨e, he, h⟩ | h := h
  · exact .inl ⟨e, he, by rw [h]; rfl⟩
  · exact .inr (by rw [h]; rfl)

theorem regionResult_both (l : Snapshot) (x y : PartnerSet) (i : Nat) : regionResult l (some x) (some y) i =
    if localEquals l x i then (if localEquals l y i then .agree else .partnerDissent .b)
    else if localEquals l y i then .partnerDissent .a
    else if partnersEqual l x y i then .localDissent else .noMajority := resultOf_both

theorem tableResult_both (l : Snapshot) (x y : PartnerSet) : tableResult l (some x) (some y) =
    if x.tableDigest = l.tableDigest then (if y.tableDigest = l.tableDigest then .agree else .partnerDissent .b)
    else if y.tableDigest = l.tableDigest then .partnerDissent .a else .noMajority := by
  refine resultOf_both.trans ?_
  by_cases hx : x.tableDigest = l.tableDigest <;> by_cases hy : y.tableDigest = l.tableDigest <;>
    simp [hx, hy, partnersTableEqual]

/-- Both partners agree against the local value somewhere, and nowhere are no two equal. -/
theorem outcome_localDissent (hx : x.tableDigest = l.tableDigest) (hy : y.tableDigest = l.tableDigest)
    (hex : ∃ e ∈ l.entries, localEquals l x e.region = false ∧ localEquals l y e.region = false)
    (h : ∀ e ∈ l.entries, localEquals l x e.region = true ∨ localEquals l y e.region = true ∨
      partnersEqual l x y e.region = true) : worstOutcome (decisionResults l (some x) (some y)) = .localDissent := by
  refine decisionResults_outcome (fun e he => ?_) ?_ (.inl ?_)
  · rw [regionResult_both]
    have := h e he
    split
    · split <;> decide
    · split
      · decide
      · rw [if_pos (by simp_all)]
        decide
  · rw [tableResult_both, if_pos hx, if_pos hy]
    decide
  · obtain ⟨e, he, h1, h2⟩ := hex
    refine ⟨e, he, ?_⟩
    have h3 := h e he
    rw [h1, h2] at h3
    rw [regionResult_both, h1, h2, if_neg nofun, if_neg nofun, if_pos (by simpa using h3)]
    rfl

/-- On each region at most one voter dissents, and somewhere one does. -/
theorem outcome_partnerDissent (hx : x.tableDigest = l.tableDigest) (hy : y.tableDigest = l.tableDigest)
    (h : ∀ e ∈ l.entries, localEquals l x e.region = true ∨ localEquals l y e.region = true)
    (hex : ∃ e ∈ l.entries, localEquals l x e.region = false ∨ localEquals l y e.region = false) :
    worstOutcome (decisionResults l (some x) (some y)) = .partnerDissent := by
  refine decisionResults_outcome (fun e he => ?_) ?_ (.inl ?_)
  · rw [regionResult_both]
    have := h e he
    split
    · split <;> decide
    · rw [if_pos (by simp_all)]
      decide
  · rw [tableResult_both, if_pos hx, if_pos hy]
    decide
  · obtain ⟨e, he, hd⟩ := hex
    refine ⟨e, he, ?_⟩
    rw [regionResult_both]
    obtain h1 | h1 := h e he
    · rw [if_pos h1, if_neg (by simp_all)]
      rfl
    · rw [if_neg (by simp_all), if_pos h1]
      rfl

/-- Which partner the regions name where at most one voter dissents. -/
theorem named_iff (hx : x.tableDigest = l.tableDigest) (hy : y.tableDigest = l.tableDigest)
    (h : ∀ e ∈ l.entries, localEquals l x e.region = true ∨ localEquals l y e.region = true) :
    ((decisionResults l (some x) (some y)).any (fun r => r.2 == .partnerDissent .a) = true ↔
      ∃ e ∈ l.entries, localEquals l x e.region = false) ∧
    ((decisionResults l (some x) (some y)).any (fun r => r.2 == .partnerDissent .b) = true ↔
      ∃ e ∈ l.entries, localEquals l y e.region = false) := by
  have hr : ∀ e ∈ l.entries, (regionResult l (some x) (some y) e.region = .partnerDissent .a ↔ localEquals l x e.region = false) ∧
      (regionResult l (some x) (some y) e.region = .partnerDissent .b ↔ localEquals l y e.region = false) := fun e he => by
    rw [regionResult_both]
    have := h e he
    cases h1 : localEquals l x e.region <;> cases h2 : localEquals l y e.region <;> simp_all
  rw [decisionResults_any _ _ _ (· == .partnerDissent .a), decisionResults_any _ _ _ (· == .partnerDissent .b),
    tableResult_both, if_pos hx, if_pos hy]
  simp only [beq_iff_eq, reduceCtorEq, or_false]
  exact ⟨exists_congr fun e => and_congr_right fun he => (hr e he).1, exists_congr fun e => and_congr_right fun he => (hr e he).2⟩

/-- One partner holds another table digest, the other one the local one. -/
theorem tableResult_named (p : Port) (hab : p = .a ∧ a = some x ∧ b = some y ∨ p = .b ∧ a = some y ∧ b = some x)
    (hx : x.tableDigest ≠ l.tableDigest) (hy : y.tableDigest = l.tableDigest) : tableResult l a b = .partnerDissent p ∧
      ∀ i, regionResult l a b i = if localEquals l y i then .partnerDissent p else .noMajority := by
  have hl := localEquals_of_table hx
  obtain ⟨rfl, rfl, rfl⟩ | ⟨rfl, rfl, rfl⟩ := hab
  · refine ⟨by rw [tableResult_both, if_neg hx, if_pos hy], fun i => ?_⟩
    rw [regionResult_both, hl, partnersEqual_of_table (.inl hx)]
    rfl
  · refine ⟨by rw [tableResult_both, if_pos hy, if_neg hx], fun i => ?_⟩
    rw [regionResult_both, hl, partnersEqual_of_table (.inr hx)]
    rfl

end

end Sys2Proof.Machine
end

section
/-! The decision of a vote record (R106 to R113): the state in which it is noted, and the consequence by outcome and mode. -/

namespace Sys2Proof.Machine

variable {r s t : State}

/-! ### Records by their cycles -/

/-- Records that keep their cycles are found where they were. -/
theorem find_cycle_map (rs : List VoteRecord) (f : VoteRecord → VoteRecord) (hf : ∀ r, (f r).cycle = r.cycle) (c : Word) :
    (rs.map f).find? (fun r => r.cycle == c) = (rs.find? (fun r => r.cycle == c)).map f := by
  rw [List.find?_map]
  congr 2
  funext r
  simp [hf]

theorem State.recordFor_of_mem {v : VoteRecord} (hn : (s.vtu.records.map (·.cycle)).Nodup) (hv : v ∈ s.vtu.records) :
    s.recordFor v.cycle = some v := by
  unfold State.recordFor
  cases h : s.vtu.records.find? (fun r => r.cycle == v.cycle) with
  | none => simpa using List.find?_eq_none.1 h v hv
  | some w =>
    have hc : w.cycle = v.cycle := by simpa using List.find?_some h
    rw [List.inj_on_of_nodup_map hn (List.mem_of_find?_eq_some h) hv hc]

/-- A record takes the place of the one of its cycle. -/
theorem State.putRecord_recordFor {v : VoteRecord} (h : (s.recordFor v.cycle).isSome = true) :
    (s.putRecord v).recordFor v.cycle = some v := by
  unfold State.recordFor at h ⊢
  show (s.vtu.records.map fun x => if x.cycle = v.cycle then v else x).find? _ = _
  rw [find_cycle_map _ _ fun x => by split <;> simp_all]
  obtain ⟨w, hw⟩ := Option.isSome_iff_exists.1 h
  have hc : w.cycle = v.cycle := by simpa using List.find?_some hw
  rw [hw, Option.map_some, if_pos hc]

/-! ### What a consequence leaves of the vote -/

/-- The event unit has only gained, the partners and the frames received are as before, and a decided record stands. -/
structure VoteStands (s t : State) : Prop where
  aftermath : Aftermath s t
  partner : ∀ p, (t.link p).partner = (s.link p).partner
  rx : ∀ p, (t.link p).rx = (s.link p).rx
  record : ∀ c v, s.recordFor c = some v → v.outcome ≠ none → t.recordFor c = some v

theorem VoteStands.refl (s : State) : VoteStands s s := ⟨.refl s, fun _ => rfl, fun _ => rfl, fun _ _ h _ => h⟩

theorem VoteStands.trans (h : VoteStands r s) (k : VoteStands s t) : VoteStands r t :=
  ⟨h.aftermath.trans k.aftermath, fun p => (k.partner p).trans (h.partner p), fun p => (k.rx p).trans (h.rx p),
    fun c v hv ho => k.record c v (h.record c v hv ho) ho⟩

theorem VoteStands.counts (h : VoteStands r s) {x : Vtu} (hx : x.records = s.vtu.records) : VoteStands r (s.setVtu x) := by
  refine h.trans ⟨(Aftermath.refl s).of_frame rfl rfl, fun _ => rfl, fun _ => rfl, fun c v hv _ => ?_⟩
  unfold State.recordFor at hv ⊢
  rw [show (s.setVtu x).vtu.records = s.vtu.records from hx, hv]

theorem State.isolateFor_vtu (s : State) (c : Cause) (h : s.mdc.mode.isolable = true) :
    (s.isolateFor c).vtu = s.voteIsolated.vtu := by
  rw [s.isolateFor_eq c h]
  simp

theorem VoteStands.isolateFor (h : VoteStands r s) (c : Cause) : VoteStands r (s.isolateFor c) := by
  refine h.trans ?_
  by_cases hi : s.mdc.mode.isolable = true
  · refine ⟨(Aftermath.refl s).isolateFor c, fun p => by rw [s.isolateFor_link c hi], fun p => by rw [s.isolateFor_link c hi],
      fun c' v hv ho => ?_⟩
    unfold State.recordFor at hv ⊢
    rw [s.isolateFor_vtu c hi]
    show (s.vtu.records.map VoteRecord.close).find? _ = _
    rw [find_cycle_map _ _ fun x => by unfold VoteRecord.close; split <;> rfl, hv, Option.map_some]
    unfold VoteRecord.close
    rw [if_neg (by simpa using ho)]
  · unfold State.isolateFor
    rw [if_neg hi]
    exact .refl s

theorem State.requestMode_run_frame (s : State) : (s.requestMode .run).lkc = s.lkc ∧ (s.requestMode .run).vtu = s.vtu ∧
    (s.requestMode .run).rse = s.rse ∧ (s.requestMode .run).msq = s.msq ∧ (s.requestMode .run).ptl = s.ptl ∧
    (s.requestMode .run).dgu = s.dgu := by
  rw [State.requestMode_run]
  split <;> simp

theorem VoteStands.requestMode_run (h : VoteStands r s) : VoteStands r (s.requestMode .run) := by
  obtain ⟨hl, hv, -⟩ := s.requestMode_run_frame
  refine h.trans ⟨(Aftermath.refl s).requestMode_run, fun p => ?_, fun p => ?_, fun c v hv' _ => ?_⟩
  · unfold State.link
    rw [hl]
  · unfold State.link
    rw [hl]
  · unfold State.recordFor at hv' ⊢
    rw [hv, hv']

theorem VoteStands.syncOutcome (h : VoteStands r s) (o : VoteOutcome) : VoteStands r (s.syncOutcome o) := by
  unfold State.syncOutcome
  split
  · exact (h.counts (x := { s.vtu with syncCount := 0 }) rfl).requestMode_run
  · have hc : VoteStands r (s.setVtu { s.vtu with syncCount := s.vtu.syncCount + 1 }) := h.counts rfl
    unfold State.syncLimit
    split
    · exact hc.isolateFor _
    · exact hc

theorem VoteStands.runOutcome (h : VoteStands r s) (o : VoteOutcome) : VoteStands r (s.runOutcome o) := by
  unfold State.runOutcome
  split
  · have hc : VoteStands r (s.setVtu { s.vtu with unchecked := s.vtu.unchecked + 1 }) := h.counts rfl
    unfold State.uncheckedLimit
    split
    · exact hc.isolateFor _
    · exact hc
  · exact h.counts rfl

theorem VoteStands.consequence (h : VoteStands r s) (o : VoteOutcome) (x : RegionResult) :
    VoteStands r (s.voteConsequence o x) := by
  unfold State.voteConsequence
  split
  · exact (h.counts (x := { s.vtu with unchecked := 0 }) rfl).isolateFor _
  · split
    · exact h.syncOutcome o
    · exact h.runOutcome o

/-! ### The consequence by outcome and mode (R111 to R113) -/

/-- The modes in which a decision is made. -/
def Voting (s : State) : Prop := s.mdc.mode = .sync ∨ s.mdc.mode = .run ∨ s.mdc.mode = .repair

theorem Voting.isolable (h : Voting s) : s.mdc.mode.isolable = true := by
  obtain h | h | h := h <;> (rw [h]; rfl)

theorem State.voteConsequence_fails (h : Voting s) {o : VoteOutcome} (ho : o.fails = true) (x : RegionResult) :
    (s.voteConsequence o x).mdc = { mode := .isolated, chen := false, cause := failureCause o x } := by
  unfold State.voteConsequence
  rw [if_pos ho]
  exact (State.isolateFor_mdc (s.setVtu { s.vtu with unchecked := 0 }) _ h.isolable).1

/-- An outcome that raises the sync count. -/
theorem State.voteConsequence_sync (hm : s.mdc.mode = .sync) {o : VoteOutcome} (hf : o.fails = false) (ho : o ≠ .agree)
    (x : RegionResult) : (s.vtu.syncCount + 1 < s.cmi.settings.syncLimit →
      (s.voteConsequence o x).mdc = s.mdc ∧ (s.voteConsequence o x).vtu.syncCount = s.vtu.syncCount + 1) ∧
    (s.cmi.settings.syncLimit ≤ s.vtu.syncCount + 1 →
      (s.voteConsequence o x).mdc = { mode := .isolated, chen := false, cause := .syncTimeout }) := by
  let y : State := s.setVtu { s.vtu with syncCount := s.vtu.syncCount + 1 }
  have he : s.voteConsequence o x = y.syncLimit := by
    unfold State.voteConsequence State.syncOutcome
    rw [hf, if_neg nofun, if_pos hm, if_neg ho]
  rw [he]
  unfold State.syncLimit
  refine ⟨fun h => ?_, fun h => ?_⟩
  · rw [if_neg (by simp [y, State.setVtu]; omega)]
    exact ⟨rfl, rfl⟩
  · rw [if_pos (by simpa [y, State.setVtu, hm] using h)]
    exact (y.isolateFor_mdc _ (by rw [show y.mdc.mode = _ from hm]; rfl)).1

theorem State.voteConsequence_run (hm : s.mdc.mode ≠ .sync) {o : VoteOutcome} (hf : o.fails = false) (ho : o ≠ .unchecked)
    (x : RegionResult) : s.voteConsequence o x = s.setVtu { s.vtu with unchecked := 0 } := by
  unfold State.voteConsequence State.runOutcome
  rw [hf, if_neg nofun, if_neg hm, if_neg ho]

/-- PARTNER_DISSENT. -/
theorem State.voteConsequence_dissent (s : State) (x : RegionResult) :
    DissentTolerated s (s.voteConsequence .partnerDissent x) := by
  refine ⟨fun hm => (State.voteConsequence_sync (o := .partnerDissent) hm rfl nofun x).1,
    fun hm => (State.voteConsequence_sync (o := .partnerDissent) hm rfl nofun x).2, fun hm => ?_⟩
  rw [State.voteConsequence_run (o := .partnerDissent) hm rfl nofun x]
  exact ⟨rfl, rfl⟩

/-- UNCHECKED in RUN and REPAIR. -/
theorem State.voteConsequence_unchecked (h : Voting s) (hm : s.mdc.mode ≠ .sync) (x : RegionResult) :
    (s.vtu.unchecked = 0 → (s.voteConsequence .unchecked x).mdc = s.mdc ∧ (s.voteConsequence .unchecked x).vtu.unchecked = 1) ∧
    (1 ≤ s.vtu.unchecked →
      (s.voteConsequence .unchecked x).mdc = { mode := .isolated, chen := false, cause := .noVoter }) := by
  let y : State := s.setVtu { s.vtu with unchecked := s.vtu.unchecked + 1 }
  have he : s.voteConsequence .unchecked x = y.uncheckedLimit := by
    unfold State.voteConsequence State.runOutcome
    rw [if_neg nofun, if_neg hm, if_pos rfl]
  rw [he]
  unfold State.uncheckedLimit
  refine ⟨fun h0 => ?_, fun h1 => ?_⟩
  · rw [if_neg (by simp [y, State.setVtu, h0])]
    exact ⟨rfl, by simp [y, State.setVtu, h0]⟩
  · have hrun : s.mdc.mode = .run ∨ s.mdc.mode = .repair := h.resolve_left hm
    rw [if_pos (by simpa [y, State.setVtu, h1] using hrun)]
    exact (y.isolateFor_mdc _ h.isolable).1

/-- AGREE in SYNC: the mode becomes RUN, and SRM has its occasion. -/
theorem State.voteConsequence_agree (hm : s.mdc.mode = .sync) (x : RegionResult) :
    (s.voteConsequence .agree x).mdc = { s.mdc with mode := .run, chen := true } ∧
    (s.voteConsequence .agree x).vtu.syncCount = 0 ∧
    (RowTableLaw s →
      MoveChosen s.srm s.ret.entries (MovePermitted s .run) (s.msq.port ≠ none) (s.voteConsequence .agree x)) := by
  let y : State := s.setVtu { s.vtu with syncCount := 0 }
  have he : s.voteConsequence .agree x = ((y.setMode .run).fire .modeChanged).chooseMove := by
    unfold State.voteConsequence State.syncOutcome
    rw [if_neg nofun, if_pos hm, if_pos rfl, State.requestMode_run]
    exact if_pos (by rw [show (s.setVtu { s.vtu with syncCount := 0 }).mdc.mode = .sync from hm]; rfl)
  rw [he]
  refine ⟨by rw [(State.chooseMove_frame _).2.2.2.2.2.2.2.2.2.1]; rfl,
    by rw [(State.chooseMove_frame _).2.2.2.2.2.2.2.2.1]; rfl, fun hn => ?_⟩
  have hk : GroupKept s ((y.setMode .run).fire .modeChanged) := .of_msq rfl
  exact hk.chosen hn rfl rfl

/-! ### The decision noted -/

/-- A partner's entry at a decision (R107). -/
def Partner.counted (x : Partner) (v : VoteRecord) (p : Port) : Partner :=
  if (v.setOf p).isSome then { x with absence := 0 }
  else if v.expects p then
    { x with absence := min 2 (x.absence + 1), lost := x.lost || decide (min 2 (x.absence + 1) = 2) }
  else x

theorem State.countAbsence_link (s : State) (v : VoteRecord) (p q : Port) : (s.countAbsence v p).link q =
    if q = p then { s.link p with partner := (s.link p).partner.counted v p } else s.link q := by
  unfold State.countAbsence Partner.counted State.markLost State.setPartner
  dsimp only
  split
  · exact State.setLink_link ..
  · split
    · have hfire (z : State) (ev : Event) : (z.fire ev).link q = z.link q := by unfold State.link; simp
      by_cases h2 : min 2 ((s.link p).partner.absence + 1) = 2
      · cases hl : (s.link p).partner.lost
        · rw [if_pos (by simp [h2]), hfire, State.setLink_link, State.setLink_link, State.setLink_link, if_pos rfl, h2]
          split <;> simp
        · rw [if_neg (by simp), State.setLink_link, h2]
          simp
      · rw [if_neg (by simp [h2]), State.setLink_link]
        simp [h2]
    · split
      · rename_i h
        rw [h]
      · rfl

/-- A partner that is absent for the second time is reported lost. -/
theorem State.countAbsence_lost {v : VoteRecord} {p : Port} (he : v.expects p = true) (hs : v.setOf p = none)
    (ha : (s.link p).partner.absence = 1) (hl : (s.link p).partner.lost = false) :
    FlagSet (s.countAbsence v p) .partnerLost := by
  unfold State.countAbsence FlagSet
  dsimp only
  rw [hs, if_neg nofun, if_pos he, ha, hl, if_pos (by decide)]
  unfold State.markLost
  rw [State.fire_flag]
  simp

theorem Aftermath.setPartner (h : Aftermath r s) (p : Port) (x : Partner) : Aftermath r (s.setPartner p x) :=
  h.of_frame (by simp) (by simp)

theorem Aftermath.countAbsence (h : Aftermath r s) (v : VoteRecord) (p : Port) : Aftermath r (s.countAbsence v p) := by
  unfold State.countAbsence
  dsimp only
  split
  · exact h.setPartner _ _
  · split
    · split
      · exact ((h.setPartner _ _).setPartner _ _).fire _
      · exact h.setPartner _ _
    · exact h

theorem State.countAbsence_msTime (s : State) (v : VoteRecord) (p : Port) :
    (s.countAbsence v p).evu.msTime = s.evu.msTime := by
  unfold State.countAbsence State.markLost
  dsimp only
  split
  · simp
  · split
    · split <;> simp
    · rfl

theorem State.markSuspect_link (s : State) (rs : List (Nat × RegionResult)) (p q : Port) : (s.markSuspect rs p).link q =
    if q = p then { s.link p with partner := { (s.link p).partner with
      suspect := (s.link p).partner.suspect || rs.any (fun r => r.2 == .partnerDissent p) } } else s.link q := by
  unfold State.markSuspect State.setPartner
  cases h : rs.any (fun r => r.2 == .partnerDissent p)
  · rw [if_neg nofun]
    split
    · rename_i hq
      simp [hq]
    · rfl
  · rw [if_pos rfl, State.setLink_link]
    simp

/-- The results of a decision, and its outcome. -/
def State.voteResults (s : State) (v : VoteRecord) (l : Snapshot) : List (Nat × RegionResult) :=
  decisionResults l (v.voter s.mdc.mode .a) (v.voter s.mdc.mode .b)

def State.voteOutcome (s : State) (v : VoteRecord) (l : Snapshot) : VoteOutcome := worstOutcome (s.voteResults v l)

/-- The record as decided. -/
def State.decidedRecord (s : State) (v : VoteRecord) (l : Snapshot) : VoteRecord :=
  { v with outcome := some (s.voteOutcome v l), deadline := none, results := s.voteResults v l }

/-- The absences are counted and the record is decided. -/
def State.voteCounted (s : State) (v : VoteRecord) (l : Snapshot) : State :=
  ((s.countAbsence v .a).countAbsence v .b).putRecord (s.decidedRecord v l)

/-- The suspects are marked, and the events have fired. -/
def State.voteMarked (s : State) (v : VoteRecord) (l : Snapshot) : State :=
  ((((s.voteCounted v l).markSuspect (s.voteResults v l) .a).markSuspect (s.voteResults v l) .b).fireDissent
    (s.voteResults v l)).fireFailed (s.voteOutcome v l)

/-- The capture has been offered: the consequence is to follow. -/
def State.voteNoted (s : State) (v : VoteRecord) (l : Snapshot) : State :=
  (s.voteMarked v l).captureVote (s.voteResults v l) (s.voteOutcome v l) (v.voter s.mdc.mode .a)

theorem State.decideWith_eq (s : State) (v : VoteRecord) (l : Snapshot) : s.decideWith v l =
    (s.voteNoted v l).voteConsequence (s.voteOutcome v l)
      (tableResult l (v.voter s.mdc.mode .a) (v.voter s.mdc.mode .b)) := rfl

theorem State.voteMarked_blocks (s : State) (v : VoteRecord) (l : Snapshot) :
    (s.voteMarked v l).mdc = s.mdc ∧ (s.voteMarked v l).cmi = s.cmi ∧ (s.voteMarked v l).msq = s.msq ∧
    (s.voteMarked v l).ret = s.ret ∧ (s.voteMarked v l).srm = s.srm ∧ (s.voteMarked v l).rse = s.rse ∧
    (s.voteMarked v l).dgu = s.dgu ∧ (s.voteMarked v l).ptl = s.ptl ∧
    (s.voteMarked v l).vtu = (s.putRecord (s.decidedRecord v l)).vtu := by
  have hv : (s.voteCounted v l).vtu = (s.putRecord (s.decidedRecord v l)).vtu := by
    unfold State.voteCounted State.putRecord State.setVtu
    simp
  unfold State.voteMarked
  simp [hv]
  simp [State.voteCounted]

theorem State.captureVote_evu (s : State) (rs : List (Nat × RegionResult)) (o : VoteOutcome) (a : Option PartnerSet) :
    (s.captureVote rs o a).evu.flags = s.evu.flags ∧ (s.captureVote rs o a).evu.counters = s.evu.counters := by
  unfold State.captureVote
  split
  · exact ⟨rfl, rfl⟩
  · split
    · exact ⟨(State.offerCapture_evu ..).1, (State.offerCapture_evu ..).2.1⟩
    · exact ⟨rfl, rfl⟩

theorem State.captureVote_blocks (s : State) (rs : List (Nat × RegionResult)) (o : VoteOutcome) (a : Option PartnerSet) :
    s.captureVote rs o a = { s with evu := (s.captureVote rs o a).evu } := by
  unfold State.captureVote
  split
  · rfl
  · split <;> rfl

theorem State.voteNoted_blocks (s : State) (v : VoteRecord) (l : Snapshot) :
    s.voteNoted v l = { s.voteMarked v l with evu := (s.voteNoted v l).evu } := State.captureVote_blocks ..

theorem State.voteNoted_link (s : State) (v : VoteRecord) (l : Snapshot) (p : Port) : (s.voteNoted v l).link p = { s.link p with
    partner := { (s.link p).partner.counted v p with
      suspect := (s.link p).partner.suspect || (s.voteResults v l).any (fun r => r.2 == .partnerDissent p) } } := by
  have hsus (x : Partner) (q : Port) : (x.counted v q).suspect = x.suspect := by
    unfold Partner.counted
    split
    · rfl
    · split <;> rfl
  have hfire : (s.voteMarked v l).link p =
      (((s.voteCounted v l).markSuspect (s.voteResults v l) .a).markSuspect (s.voteResults v l) .b).link p := by
    unfold State.link
    rw [show (s.voteMarked v l).lkc = _ from (State.fireFailed_frame ..).2.2.2.2.2.2.2.2.2.1,
      (State.fireDissent_frame ..).2.2.2.2.2.2.2.2.2.1]
  have hput : (s.voteCounted v l).link = ((s.countAbsence v .a).countAbsence v .b).link := rfl
  rw [s.voteNoted_blocks]
  show (s.voteMarked v l).link p = _
  rw [hfire]
  cases p <;> simp [State.markSuspect_link, hput, State.countAbsence_link, hsus]

theorem State.voteCounted_aftermath (s : State) (v : VoteRecord) (l : Snapshot) : Aftermath s (s.voteCounted v l) :=
  Aftermath.of_frame (((Aftermath.refl s).countAbsence v .a).countAbsence v .b) rfl rfl

/-- Beside the absences and the record, a decision marks the suspects and fires. -/
theorem State.voteMarked_counted (s : State) (v : VoteRecord) (l : Snapshot) :
    Aftermath (s.voteCounted v l) (s.voteMarked v l) := by
  have hmark {x : State} (h : Aftermath (s.voteCounted v l) x) (rs : List (Nat × RegionResult)) (p : Port) :
      Aftermath (s.voteCounted v l) (x.markSuspect rs p) := by
    unfold State.markSuspect
    split
    · exact h.setPartner _ _
    · exact h
  have hdis := hmark (hmark (.refl _) (s.voteResults v l) .a) (s.voteResults v l) .b
  unfold State.voteMarked State.fireFailed State.fireDissent
  split
  · split
    · exact (hdis.fire _).fire _
    · exact hdis.fire _
  · split
    · exact hdis.fire _
    · exact hdis

theorem State.voteMarked_aftermath (s : State) (v : VoteRecord) (l : Snapshot) : Aftermath s (s.voteMarked v l) :=
  (s.voteCounted_aftermath v l).trans (s.voteMarked_counted v l)

theorem State.voteMarked_msTime (s : State) (v : VoteRecord) (l : Snapshot) : (s.voteMarked v l).evu.msTime = s.evu.msTime := by
  have hput : (s.voteCounted v l).evu.msTime = s.evu.msTime := by
    simp [State.voteCounted, State.countAbsence_msTime]
  unfold State.voteMarked State.fireFailed State.fireDissent
  split <;> split <;> simp [hput]

/-- The events of a decision (R110, R111). -/
theorem State.voteNoted_flags (s : State) (v : VoteRecord) (l : Snapshot) :
    (∀ ev, FlagSet (s.voteMarked v l) ev → FlagSet (s.voteNoted v l) ev) ∧
    ((∃ p, (s.voteResults v l).any (fun r => r.2 == .partnerDissent p) = true) →
      FlagSet (s.voteNoted v l) .partnerDissent) ∧
    ((s.voteOutcome v l).fails = true → FlagSet (s.voteNoted v l) .voteFailed) := by
  have hkeep (ev : Event) (h : FlagSet (s.voteMarked v l) ev) : FlagSet (s.voteNoted v l) ev := by
    unfold FlagSet State.voteNoted at *
    rwa [(State.captureVote_evu ..).1]
  refine ⟨hkeep, fun ⟨p, hp⟩ => hkeep _ ?_, fun hf => hkeep _ ?_⟩
  · have hany : (s.voteResults v l).any (fun r => r.2.outcome == .partnerDissent) = true := by
      obtain ⟨r, hr, ho⟩ := List.any_eq_true.1 hp
      rw [beq_iff_eq] at ho
      exact List.any_eq_true.2 ⟨r, hr, by rw [ho]; rfl⟩
    have hd : FlagSet ((((s.voteCounted v l).markSuspect (s.voteResults v l) .a).markSuspect (s.voteResults v l) .b).fireDissent
        (s.voteResults v l)) .partnerDissent := by
      unfold FlagSet State.fireDissent
      rw [if_pos hany, State.fire_flag]
      simp
    unfold State.voteMarked State.fireFailed
    split
    · exact ((Aftermath.refl _).fire _).flags _ hd
    · exact hd
  · unfold State.voteMarked FlagSet
    unfold State.fireFailed
    rw [if_pos hf, State.fire_flag]
    simp

/-- A partner reported lost at a decision. -/
theorem State.voteNoted_lost {v : VoteRecord} (l : Snapshot) {p : Port} (he : v.expects p = true) (hs : v.setOf p = none)
    (ha : (s.link p).partner.absence = 1) (hl : (s.link p).partner.lost = false) :
    FlagSet (s.voteNoted v l) .partnerLost := by
  refine (s.voteNoted_flags v l).1 _ ((s.voteMarked_counted v l).flags _ ?_)
  show FlagSet ((s.countAbsence v .a).countAbsence v .b) .partnerLost
  cases p with
  | a => exact ((Aftermath.refl _).countAbsence v .b).flags _ (State.countAbsence_lost he hs ha hl)
  | b =>
    have hlink : (s.countAbsence v .a).link .b = s.link .b := by rw [State.countAbsence_link, if_neg nofun]
    exact State.countAbsence_lost he hs (by rw [hlink, ha]) (by rw [hlink, hl])

/-- The capture of a decision (R110). -/
theorem State.voteNoted_captured (s : State) (v : VoteRecord) (l : Snapshot) :
    (s.voteOutcome v l = .agree ∨ s.voteOutcome v l = .unchecked → CapturesKept s (s.voteNoted v l)) ∧
    (s.voteOutcome v l ≠ .agree → s.voteOutcome v l ≠ .unchecked → ∀ n res,
      (s.voteResults v l).find? (fun r => r.2.outcome == s.voteOutcome v l) = some (n, res) →
      Captured s (s.voteNoted v l) .vote (voteRequester res (v.voter s.mdc.mode .a)) none (.vote (s.voteOutcome v l) n)) := by
  have hkept := (s.voteMarked_aftermath v l).captures
  obtain ⟨-, hcmi, -, -, -, -, -, -, hvtu⟩ := s.voteMarked_blocks v l
  unfold State.voteNoted State.captureVote
  refine ⟨fun h => ?_, fun h1 h2 n res hf => ?_⟩
  · rw [if_pos (by simpa using h)]
    exact hkept
  · rw [if_neg (by simp [h1, h2]), hf]
    refine ⟨?_, ?_, fun k hk => ?_⟩
    · rw [State.offerCapture_capture, if_pos rfl, hkept, hcmi, hvtu, s.voteMarked_msTime]
      simp [Capture.offered, State.putRecord, State.setVtu]
    · rw [State.offerCapture_capture, if_pos rfl, hkept]
      simp only [Capture.offered, Config.repeatTop]
      rfl
    · rw [State.offerCapture_capture, if_neg hk, hkept]

/-- The record of the cycle is the decided one. -/
theorem State.voteNoted_record {v : VoteRecord} (l : Snapshot) (h : s.recordFor v.cycle = some v) :
    (s.voteNoted v l).recordFor v.cycle = some (s.decidedRecord v l) := by
  have hv : (s.voteNoted v l).vtu = (s.putRecord (s.decidedRecord v l)).vtu := by
    rw [s.voteNoted_blocks]
    exact (s.voteMarked_blocks v l).2.2.2.2.2.2.2.2
  unfold State.recordFor
  rw [hv]
  exact State.putRecord_recordFor (v := s.decidedRecord v l) (by rw [show (s.decidedRecord v l).cycle = v.cycle from rfl, h]; rfl)

end Sys2Proof.Machine
end

section
/-! VOTE_DEADLINE_EXPIRY (O51): the record whose deadline has come is decided. -/

namespace Sys2Proof.Machine

variable {s t : State} {v : VoteRecord} {l : Snapshot} {p q : Port} {x y : PartnerSet}

/-! ### The record that is due -/

theorem State.expiredRecord_of (hm : v ∈ s.vtu.records) (ho : v.outcome = none) (hd : v.deadline = some 0)
    (hu : ∀ w ∈ s.vtu.records, w.outcome = none → w.deadline = some 0 → w = v) : s.expiredRecord = some v := by
  unfold State.expiredRecord VoteRecord.isOpen
  cases h : s.vtu.records.find? (fun r => r.outcome.isNone && r.deadline == some 0) with
  | none => simpa [ho, hd] using List.find?_eq_none.1 h v hm
  | some w =>
    have hw := List.find?_some h
    rw [Bool.and_eq_true, Option.isNone_iff_eq_none, beq_iff_eq] at hw
    rw [hu w (List.mem_of_find?_eq_some h) hw.1 hw.2]

theorem exec_voteDeadlineExpiry_of (he : s.expiredRecord = some v) (hr : s.recordFor v.cycle = some v) (ho : v.outcome = none)
    (hl : v.snapshot = some l) : exec .voteDeadlineExpiry s = .next (s.decideWith v l) := by
  have hd : s.decideRecord v.cycle = s.decideWith v l := by
    unfold State.decideRecord VoteRecord.isOpen
    rw [hr]
    simp [ho, hl]
  simp only [exec, execVoteDeadlineExpiry, he, hd]

/-! ### The decision as a whole -/

theorem State.decideWith_stands (s : State) (v : VoteRecord) (l : Snapshot) :
    VoteStands (s.voteNoted v l) (s.decideWith v l) := (VoteStands.refl _).consequence _ _

theorem State.decideWith_record (l : Snapshot) (h : s.recordFor v.cycle = some v) :
    (s.decideWith v l).recordFor v.cycle = some (s.decidedRecord v l) :=
  (s.decideWith_stands v l).record _ _ (State.voteNoted_record l h) nofun

theorem State.decideWith_partner (s : State) (v : VoteRecord) (l : Snapshot) (p : Port) :
    ((s.decideWith v l).link p).partner = { (s.link p).partner.counted v p with
      suspect := (s.link p).partner.suspect || (s.voteResults v l).any (fun r => r.2 == .partnerDissent p) } := by
  rw [(s.decideWith_stands v l).partner, s.voteNoted_link]

/-- The absences (R107). -/
theorem State.decideWith_absent (he : v.expects p = true) (hs : v.setOf p = none) (h2 : (s.link p).partner.absence < 2) :
    ((s.decideWith v l).link p).partner.absence = (s.link p).partner.absence + 1 ∧
    ((s.link p).partner.absence = 1 → ((s.decideWith v l).link p).partner.lost = true) ∧
    ((s.link p).partner.absence = 1 → (s.link p).partner.lost = false → FlagSet (s.decideWith v l) .partnerLost) ∧
    ((s.link p).partner.absence = 0 → ((s.decideWith v l).link p).partner.lost = (s.link p).partner.lost) := by
  rw [State.decideWith_partner]
  unfold Partner.counted
  rw [hs, if_neg nofun, if_pos he]
  refine ⟨by dsimp only; omega, fun h => by simp [h], fun h hl => ?_, fun h => by simp [h]⟩
  exact (s.decideWith_stands v l).aftermath.flags _ (State.voteNoted_lost l he hs h hl)

theorem State.decideWith_present (hs : v.setOf p = some x) : ((s.decideWith v l).link p).partner.absence = 0 := by
  rw [State.decideWith_partner]
  unfold Partner.counted
  rw [hs]
  rfl

theorem State.decideWith_unexpected (he : v.expects p = false) (hs : v.setOf p = none) :
    ((s.decideWith v l).link p).partner.absence = (s.link p).partner.absence := by
  rw [State.decideWith_partner]
  unfold Partner.counted
  rw [hs, if_neg nofun, he, if_neg nofun]

/-- What stands of the part when the consequence follows. -/
theorem State.voteNoted_stands (s : State) (v : VoteRecord) (l : Snapshot) : (s.voteNoted v l).mdc = s.mdc ∧
    (s.voteNoted v l).cmi = s.cmi ∧ (s.voteNoted v l).msq = s.msq ∧ (s.voteNoted v l).ret = s.ret ∧
    (s.voteNoted v l).srm = s.srm ∧ (s.voteNoted v l).vtu.syncCount = s.vtu.syncCount ∧
    (s.voteNoted v l).vtu.unchecked = s.vtu.unchecked := by
  obtain ⟨hm, hc, hq, hr, hs, -, -, -, hv⟩ := s.voteMarked_blocks v l
  rw [s.voteNoted_blocks]
  exact ⟨hm, hc, hq, hr, hs, by rw [hv]; rfl, by rw [hv]; rfl⟩

/-- A failing outcome (R111). -/
theorem State.decideWith_failed (h : Voting s) {o : VoteOutcome} (ho : s.voteOutcome v l = o) (hf : o.fails = true) :
    FlagSet (s.decideWith v l) .voteFailed ∧ (s.decideWith v l).mdc = {
      mode := .isolated, chen := false
      cause := failureCause o (tableResult l (v.voter s.mdc.mode .a) (v.voter s.mdc.mode .b)) } := by
  subst ho
  refine ⟨(s.decideWith_stands v l).aftermath.flags _ ((s.voteNoted_flags v l).2.2 hf), ?_⟩
  rw [s.decideWith_eq]
  refine State.voteConsequence_fails ?_ hf _
  unfold Voting
  rw [(s.voteNoted_stands v l).1]
  exact h

/-- PARTNER_DISSENT (R112, R113). -/
theorem State.decideWith_dissent (ho : s.voteOutcome v l = .partnerDissent) : DissentTolerated s (s.decideWith v l) := by
  obtain ⟨hm, hc, -, -, -, hs, hu⟩ := s.voteNoted_stands v l
  have h := (s.voteNoted v l).voteConsequence_dissent (tableResult l (v.voter s.mdc.mode .a) (v.voter s.mdc.mode .b))
  rw [s.decideWith_eq, ho]
  unfold DissentTolerated at h ⊢
  rwa [hm, hc, hs] at h

/-- UNCHECKED (R112, R113). -/
theorem State.decideWith_unchecked (h : Voting s) (ho : s.voteOutcome v l = .unchecked) :
    let t := s.decideWith v l
    (s.mdc.mode = .sync → s.vtu.syncCount + 1 < s.cmi.settings.syncLimit →
      t.mdc = s.mdc ∧ t.vtu.syncCount = s.vtu.syncCount + 1) ∧
    (s.mdc.mode = .sync → s.cmi.settings.syncLimit ≤ s.vtu.syncCount + 1 →
      t.mdc = { mode := .isolated, chen := false, cause := .syncTimeout }) ∧
    (s.mdc.mode ≠ .sync → s.vtu.unchecked = 0 → t.mdc = s.mdc ∧ t.vtu.unchecked = 1) ∧
    (s.mdc.mode ≠ .sync → 1 ≤ s.vtu.unchecked → t.mdc = { mode := .isolated, chen := false, cause := .noVoter }) := by
  obtain ⟨hm, hc, -, -, -, hs, hu⟩ := s.voteNoted_stands v l
  have hv : Voting (s.voteNoted v l) := by
    unfold Voting
    rw [hm]
    exact h
  have hsync := State.voteConsequence_sync (s := s.voteNoted v l) (o := .unchecked)
  have hrun := State.voteConsequence_unchecked hv
  dsimp only
  rw [s.decideWith_eq, ho]
  rw [hm, hc, hs] at hsync
  rw [hm, hu] at hrun
  exact ⟨fun hm => (hsync hm rfl nofun _).1, fun hm => (hsync hm rfl nofun _).2, fun hm => (hrun hm _).1,
    fun hm => (hrun hm _).2⟩

/-- AGREE (R112, R113). -/
theorem State.decideWith_agree (ho : s.voteOutcome v l = .agree) :
    let t := s.decideWith v l
    (s.mdc.mode = .sync → t.mdc = { s.mdc with mode := .run, chen := true } ∧ t.vtu.syncCount = 0 ∧
      (RowTableLaw s → MoveChosen s.srm s.ret.entries (MovePermitted s .run) (s.msq.port ≠ none) t)) ∧
    (s.mdc.mode ≠ .sync → t.mdc = s.mdc ∧ t.vtu.unchecked = 0) := by
  obtain ⟨hm, -, hq, hr, hsrm, -, -⟩ := s.voteNoted_stands v l
  dsimp only
  rw [s.decideWith_eq, ho]
  refine ⟨fun h => ?_, fun h => ?_⟩
  · obtain ⟨hmdc, hcount, hmove⟩ := State.voteConsequence_agree (s := s.voteNoted v l) (hm ▸ h)
      (tableResult l (v.voter s.mdc.mode .a) (v.voter s.mdc.mode .b))
    refine ⟨by rw [hmdc, hm], hcount, fun hn => ?_⟩
    have hc := hmove (by unfold RowTableLaw; rw [hr]; exact hn)
    rw [hsrm, hr, hq] at hc
    exact hc.congr ((GroupKept.of_msq hq).movePermitted hsrm _).symm rfl rfl id
  · rw [State.voteConsequence_run (o := .agree) (by rw [hm]; exact h) rfl nofun]
    exact ⟨hm, rfl⟩

/-! ### Who votes -/

theorem voters_of_both (hpq : q ≠ p) {m : Mode} (hx : v.voter m p = some x) (hy : v.voter m q = some y) :
    p = .a ∧ v.voter m .a = some x ∧ v.voter m .b = some y ∨ p = .b ∧ v.voter m .a = some y ∧ v.voter m .b = some x := by
  cases p <;> cases q <;> simp_all

theorem voters_of_lone {m : Mode} (hx : v.voter m p = some x) (hn : ∀ q, q ≠ p → v.voter m q = none) :
    v.voter m .a = some x ∧ v.voter m .b = none ∨ v.voter m .a = none ∧ v.voter m .b = some x := by
  cases p with
  | a => exact .inl ⟨hx, hn .b nofun⟩
  | b => exact .inr ⟨hn .a nofun, hx⟩

/-- The capture names the lowest index of the outcome. -/
theorem find_of_lowest {rs : List (Nat × RegionResult)} {o : VoteOutcome} {k n : Nat} {res : RegionResult}
    (hk : rs[k]? = some (n, res)) (ho : res.outcome = o)
    (hlow : ∀ (k' n' : Nat) res', k' < k → rs[k']? = some (n', res') → res'.outcome ≠ o) :
    rs.find? (fun r => r.2.outcome == o) = some (n, res) := by
  obtain ⟨hlt, hget⟩ := List.getElem?_eq_some_iff.1 hk
  rw [List.find?_eq_some_iff_getElem]
  refine ⟨by simpa using ho, k, hlt, hget, fun j hj => ?_⟩
  simpa using hlow j rs[j].1 rs[j].2 hj (List.getElem?_eq_getElem (by omega))

/-- The clauses of a decision by who votes and how, for a record that is due. -/
theorem State.decideWith_results (s : State) (v : VoteRecord) (l : Snapshot) :
    (s.voteResults v l).length = l.entries.length + 1 ∧
    (∀ (k : Nat) e, l.entries[k]? = some e → (s.voteResults v l)[k]? =
      some (e.region, regionResult l (v.voter s.mdc.mode .a) (v.voter s.mdc.mode .b) e.region)) ∧
    (s.voteResults v l)[l.entries.length]? =
      some (32, tableResult l (v.voter s.mdc.mode .a) (v.voter s.mdc.mode .b)) := decisionResults_get ..

theorem State.decideWith_lone (h : Voting s) (hx : v.voter s.mdc.mode p = some x)
    (hn : ∀ q y, q ≠ p → v.setOf q = some y → y.votes s.mdc.mode = false)
    (hd : x.tableDigest ≠ l.tableDigest ∨ ∃ e ∈ l.entries, localEquals l x e.region = false) :
    s.voteOutcome v l = .split ∧ FlagSet (s.decideWith v l) .voteFailed ∧
      (s.decideWith v l).mdc = { mode := .isolated, chen := false
                                 cause := if x.tableDigest = l.tableDigest then .split else .tableMismatch } := by
  have hlone := voters_of_lone hx fun q hq => VoteRecord.voter_eq_none.2 fun y hy => hn q y hq hy
  obtain ⟨ho, ht⟩ := outcome_split hlone hd
  obtain ⟨hf, hm⟩ := State.decideWith_failed h ho rfl
  refine ⟨ho, hf, ?_⟩
  rw [hm, ht]
  by_cases htd : x.tableDigest = l.tableDigest
  · rw [if_pos htd, if_pos htd]
    rfl
  · rw [if_neg htd, if_neg htd]
    rfl

/-- One partner holds another table digest than the other two parties. -/
theorem State.decideWith_otherTable (h : Voting s) (hpq : q ≠ p) (hx : v.voter s.mdc.mode p = some x)
    (hy : v.voter s.mdc.mode q = some y) (hxt : x.tableDigest ≠ l.tableDigest) (hyt : y.tableDigest = l.tableDigest) :
    let t := s.decideWith v l
    (s.voteResults v l)[l.entries.length]? = some (32, .partnerDissent p) ∧ FlagSet t .partnerDissent ∧
      (t.link p).partner.suspect = true ∧ (t.link q).partner.suspect = (s.link q).partner.suspect ∧
      ((∀ e ∈ l.entries, localEquals l y e.region = true) →
        some (s.voteOutcome v l) = some .partnerDissent ∧ DissentTolerated s t) ∧
      ((∃ e ∈ l.entries, localEquals l y e.region = false) → some (s.voteOutcome v l) = some .noMajority ∧
        FlagSet t .voteFailed ∧ t.mdc = { mode := .isolated, chen := false, cause := .noMajority }) := by
  obtain ⟨ht, hr⟩ := tableResult_named p (voters_of_both hpq hx hy) hxt hyt
  have hany (o : Port) : (s.voteResults v l).any (fun r => r.2 == .partnerDissent o) = decide (o = p) := by
    refine Bool.eq_iff_iff.2 ((decisionResults_any l _ _ (· == .partnerDissent o)).trans ?_)
    rw [ht]
    simp only [hr, beq_iff_eq, RegionResult.partnerDissent.injEq, decide_eq_true_eq, @eq_comm _ p o]
    refine ⟨fun h => h.elim (fun ⟨e, _, he⟩ => ?_) id, .inr⟩
    split at he
    · exact (RegionResult.partnerDissent.inj he).symm
    · cases he
  dsimp only
  refine ⟨(s.decideWith_results v l).2.2.trans (by rw [ht]), ?_, ?_, ?_, fun hall => ?_, fun ⟨e, he, hd⟩ => ?_⟩
  · exact (s.decideWith_stands v l).aftermath.flags _ ((s.voteNoted_flags v l).2.1 ⟨p, by rw [hany]; simp⟩)
  · rw [State.decideWith_partner, hany]
    simp
  · rw [State.decideWith_partner, hany]
    simp [hpq]
  · have ho : s.voteOutcome v l = .partnerDissent :=
      decisionResults_outcome (fun e he => by rw [hr, if_pos (hall e he)]; exact Nat.le_refl _)
        (by rw [ht]; exact Nat.le_refl _) (.inr (by rw [ht]; rfl))
    exact ⟨congrArg some ho, State.decideWith_dissent ho⟩
  · have ho : s.voteOutcome v l = .noMajority := outcome_noMajority (.inl ⟨e, he, by rw [hr, hd]; rfl⟩)
    obtain ⟨hf, hm⟩ := State.decideWith_failed h ho rfl
    rw [ht] at hm
    exact ⟨congrArg some ho, hf, hm⟩

/-- Both partners vote with the local table digest. -/
theorem State.decideWith_both (h : Voting s) (hx : v.voter s.mdc.mode .a = some x) (hy : v.voter s.mdc.mode .b = some y)
    (hxt : x.tableDigest = l.tableDigest) (hyt : y.tableDigest = l.tableDigest) :
    let t := s.decideWith v l
    ((∃ e ∈ l.entries, localEquals l x e.region = false ∧ localEquals l y e.region = false ∧
        partnersEqual l x y e.region = false) → some (s.voteOutcome v l) = some .noMajority ∧ FlagSet t .voteFailed ∧
      t.mdc = { mode := .isolated, chen := false, cause := .noMajority }) ∧
    ((∃ e ∈ l.entries, localEquals l x e.region = false ∧ localEquals l y e.region = false) →
      (∀ e ∈ l.entries, localEquals l x e.region = true ∨ localEquals l y e.region = true ∨
        partnersEqual l x y e.region = true) → some (s.voteOutcome v l) = some .localDissent ∧ FlagSet t .voteFailed ∧
      t.mdc = { mode := .isolated, chen := false, cause := .voteDissent }) ∧
    ((∀ e ∈ l.entries, localEquals l x e.region = true ∨ localEquals l y e.region = true) →
      (∃ e ∈ l.entries, localEquals l x e.region = false ∨ localEquals l y e.region = false) →
      some (s.voteOutcome v l) = some .partnerDissent ∧ FlagSet t .partnerDissent ∧
      ((t.link .a).partner.suspect = true ↔ (s.link .a).partner.suspect = true ∨
        ∃ e ∈ l.entries, localEquals l x e.region = false) ∧
      ((t.link .b).partner.suspect = true ↔ (s.link .b).partner.suspect = true ∨
        ∃ e ∈ l.entries, localEquals l y e.region = false) ∧ DissentTolerated s t) := by
  have ht : tableResult l (v.voter s.mdc.mode .a) (v.voter s.mdc.mode .b) = .agree := by
    rw [hx, hy, tableResult_both, if_pos hxt, if_pos hyt]
  dsimp only
  refine ⟨fun ⟨e, he, h1, h2, h3⟩ => ?_, fun hex hall => ?_, fun hall hex => ?_⟩
  · have ho : s.voteOutcome v l = .noMajority :=
      outcome_noMajority (.inl ⟨e, he, by rw [hx, hy, regionResult_both, h1, h2, h3]; rfl⟩)
    obtain ⟨hf, hm⟩ := State.decideWith_failed h ho rfl
    rw [ht] at hm
    exact ⟨congrArg some ho, hf, hm⟩
  · have ho : s.voteOutcome v l = .localDissent := by
      unfold State.voteOutcome State.voteResults
      rw [hx, hy]
      exact outcome_localDissent hxt hyt hex hall
    obtain ⟨hf, hm⟩ := State.decideWith_failed h ho rfl
    rw [ht] at hm
    exact ⟨congrArg some ho, hf, hm⟩
  · have ho : s.voteOutcome v l = .partnerDissent := by
      unfold State.voteOutcome State.voteResults
      rw [hx, hy]
      exact outcome_partnerDissent hxt hyt hall hex
    obtain ⟨hna, hnb⟩ := named_iff hxt hyt hall
    have hrs : s.voteResults v l = decisionResults l (some x) (some y) := by
      unfold State.voteResults
      rw [hx, hy]
    rw [← hrs] at hna hnb
    refine ⟨congrArg some ho, (s.decideWith_stands v l).aftermath.flags _ ((s.voteNoted_flags v l).2.1 ?_), ?_, ?_,
      State.decideWith_dissent ho⟩
    · obtain ⟨e, he, hd⟩ := hex
      exact hd.elim (fun hd => ⟨.a, hna.2 ⟨e, he, hd⟩⟩) fun hd => ⟨.b, hnb.2 ⟨e, he, hd⟩⟩
    · rw [State.decideWith_partner, ← hna, Bool.or_eq_true]
    · rw [State.decideWith_partner, ← hnb, Bool.or_eq_true]

theorem voteRequester_other {res : RegionResult} (h : ∀ p, res ≠ .partnerDissent p) (a : Option PartnerSet) :
    voteRequester res a = if a.isSome then .linkA else .linkB := by
  cases res with
  | partnerDissent p => exact absurd rfl (h p)
  | _ => rfl

/-- The capture of the outcome, and its requester (R110). -/
theorem State.decideWith_captured {o : VoteOutcome} (ho : s.voteOutcome v l = o) (h1 : o ≠ .agree) (h2 : o ≠ .unchecked)
    {k n : Nat} {res : RegionResult} (hk : (s.voteResults v l)[k]? = some (n, res)) (hres : res.outcome = o)
    (hlow : ∀ (k' n' : Nat) res', k' < k → (s.voteResults v l)[k']? = some (n', res') → res'.outcome ≠ o) :
    Captured s (s.decideWith v l) .vote (voteRequester res (v.voter s.mdc.mode .a)) none (.vote o n) := by
  subst ho
  exact ((s.voteNoted_captured v l).2 h1 h2 n res (find_of_lowest hk hres hlow)).aftermath
    (s.decideWith_stands v l).aftermath

/-! ### The statement -/

/-- Settles O51. -/
theorem deadlineDecidesByMajority : Obligations.DeadlineDecidesByMajority := by
  intro s v l hm hlaw hv ho hd hl hu
  have hrec : s.recordFor v.cycle = some v := State.recordFor_of_mem hlaw.2.1 hv
  have hstands := s.decideWith_stands v l
  obtain ⟨hlen, hget, hlast⟩ := s.decideWith_results v l
  have hvoter {p x} (h1 : v.setOf p = some x) (h2 : x.votes s.mdc.mode = true) : v.voter s.mdc.mode p = some x :=
    VoteRecord.voter_eq_some.2 ⟨h1, h2⟩
  refine ⟨s.decideWith v l, s.decidedRecord v l, exec_voteDeadlineExpiry_of (State.expiredRecord_of hv ho hd hu) hrec ho hl,
    State.decideWith_record l hrec, rfl, fun p => State.decideWith_absent, fun p x => State.decideWith_present,
    fun p => State.decideWith_unexpected, hlen, fun k e he => ⟨_, hget k e he, resultOf_table74 ..⟩, ⟨_, hlast, ?_⟩,
    fun x y hx hy h1 h2 hxt hyt => ?_, fun p q x y hpq hx hy h1 h2 hxt hyt => ?_, fun h => ?_, fun k n res o hout h1 h2 hk hres hlow => ?_,
    fun hn => ?_, fun ⟨p, x, hx, h1⟩ hall => ?_, fun p x hx h1 hxt hn hex => ?_, fun p x hx h1 hxt hn => ?_,
    fun x y hx hy h1 h2 hxt hyt => State.decideWith_both hm (hvoter hx h1) (hvoter hy h2) hxt hyt⟩
  · have h := resultOf_table74 v s.mdc.mode (·.tableDigest == l.tableDigest) (·.tableDigest == l.tableDigest)
      (partnersTableEqual l)
    unfold partnersTableEqual at h
    simp only [Bool.and_eq_true, beq_iff_eq] at h
    exact h
  · have ht : tableResult l (v.voter s.mdc.mode .a) (v.voter s.mdc.mode .b) = .noMajority := by
      rw [hvoter (p := .a) hx h1, hvoter (p := .b) hy h2, tableResult_both, if_neg hxt, if_neg hyt]
    have hout : s.voteOutcome v l = .noMajority := outcome_noMajority (.inr ht)
    obtain ⟨hf, hmdc⟩ := State.decideWith_failed hm hout rfl
    rw [ht] at hmdc
    exact ⟨hlast.trans (by rw [ht]), congrArg some hout, hf, hmdc⟩
  · exact State.decideWith_otherTable hm hpq (hvoter hx h1) (hvoter hy h2) hxt hyt
  · exact fun k => (hstands.aftermath.captures k).trans
      ((s.voteNoted_captured v l).1 (h.imp Option.some.inj Option.some.inj) k)
  · have hc := State.decideWith_captured (Option.some.inj hout) h1 h2 hk hres hlow
    refine ⟨fun p hp => ?_, fun hp ha => ?_, fun hp ha => ?_⟩
    · subst hp
      cases p <;> exact hc
    · obtain ⟨x, hx, -⟩ := (voterIs_iff ..).1 ha
      rw [voteRequester_other hp, hx] at hc
      exact hc
    · have hn : v.voter s.mdc.mode .a = none := Option.eq_none_iff_forall_not_mem.2 fun x hx =>
        ha ((voterIs_iff ..).2 ⟨x, hx, trivial⟩)
      rw [voteRequester_other hp, hn] at hc
      exact hc
  · have hnone (p : Port) : v.voter s.mdc.mode p = none := VoteRecord.voter_eq_none.2 fun x hx => hn p x hx
    have hout : s.voteOutcome v l = .unchecked := by
      unfold State.voteOutcome State.voteResults
      rw [hnone, hnone]
      exact outcome_unchecked
    exact ⟨congrArg some hout, State.decideWith_unchecked hm hout⟩
  · have hout : s.voteOutcome v l = .agree := by
      refine outcome_agree ?_ fun y hy => ?_
      · have := hvoter hx h1
        cases p with
        | a => exact .inl (by rw [this]; exact nofun)
        | b => exact .inr (by rw [this]; exact nofun)
      · obtain hy | hy := hy
        · obtain ⟨h2, h3⟩ := VoteRecord.voter_eq_some.1 hy
          exact hall _ y h2 h3
        · obtain ⟨h2, h3⟩ := VoteRecord.voter_eq_some.1 hy
          exact hall _ y h2 h3
    exact ⟨congrArg some hout, State.decideWith_agree hout⟩
  · obtain ⟨hout, hf, hmdc⟩ := State.decideWith_lone hm (hvoter hx h1) hn (.inr hex)
    rw [if_pos hxt] at hmdc
    exact ⟨congrArg some hout, hf, hmdc⟩
  · obtain ⟨hout, hf, hmdc⟩ := State.decideWith_lone hm (hvoter hx h1) hn (.inl hxt)
    rw [if_neg hxt] at hmdc
    exact ⟨congrArg some hout, hf, hmdc⟩

end Sys2Proof.Machine
end

section
/-! DIGEST (R104, R105): the partner's entry, and what the vote unit makes of the set. -/

namespace Sys2Proof.Machine

variable {r s t : State} {p q : Port} {m l : Word} {x : PartnerSet} {v : VoteRecord}

/-! ### The frame is heard -/

/-- The partner's entry as a DIGEST leaves it. -/
def Partner.heard (y : Partner) (mode : Option Mode) (m : Word) : Partner :=
  { y with mode, cycle := some m, lost := false, absence := 0 }

/-- The part when the partner entry has taken the frame. -/
def State.digestHeard (s : State) (p : Port) (m : Word) (mode : Option Mode) : State :=
  { s with lkc := ((s.taken p).setPartner p ((s.link p).partner.heard mode m)).lkc }

theorem State.digestHeard_link (s : State) (p q : Port) (m : Word) (mode : Option Mode) :
    (s.digestHeard p m mode).link q = if q = p then
      { s.link p with rx := (s.link p).rx.tail, partner := (s.link p).partner.heard mode m } else s.link q := by
  show ((s.taken p).setPartner p ((s.link p).partner.heard mode m)).link q = _
  unfold State.setPartner
  rw [State.setLink_link, s.taken_self, s.taken_link]
  split <;> rfl

/-- The part when the vote unit has taken the frame too. -/
def State.digestVoted (s : State) (p : Port) (m : Word) (x : PartnerSet) : State :=
  ((s.taken p).announceDigest p x.mode m).voteDigest p m x

theorem State.digestHeard_eq (s : State) (p : Port) (m : Word) (mode : Option Mode) :
    ((s.taken p).announceDigest p mode m).setPartner p
      { (((s.taken p).announceDigest p mode m).link p).partner with lost := false, absence := 0 } =
      s.digestHeard p m mode := by
  have hlink (q : Port) : (((s.taken p).announceDigest p mode m).setPartner p
      { (((s.taken p).announceDigest p mode m).link p).partner with lost := false, absence := 0 }).link q =
      (s.digestHeard p m mode).link q := by
    rw [s.digestHeard_link]
    unfold State.announceDigest State.setPartner
    simp only [State.setLink_link, if_pos]
    rw [s.taken_self, s.taken_link]
    split <;> rfl
  have hl (y z : State) (h : ∀ q, y.link q = z.link q) : y.lkc = z.lkc := by
    have ha := h .a
    have hb := h .b
    unfold State.link at ha hb
    cases hy : y.lkc
    cases hz : z.lkc
    simp_all
  refine State.eq_of_blocks ?_
  rw [hl _ _ hlink]
  simp [State.digestHeard, State.announceDigest, State.taken]

/-- A vote unit that takes no frames. -/
theorem State.digestVoted_silent (h : (s.mdc.mode ≠ .sync ∧ s.mdc.mode ≠ .run ∧ s.mdc.mode ≠ .repair) ∨ s.vtu.last = none) :
    s.digestVoted p m x = s.digestHeard p m x.mode := by
  unfold State.digestVoted State.voteDigest
  dsimp only
  rw [s.digestHeard_eq]
  show (if s.mdc.mode.votes then match s.vtu.last with
    | some last => (s.digestHeard p m x.mode).takeSet last m p x
    | none => s.digestHeard p m x.mode else s.digestHeard p m x.mode) = _
  obtain ⟨h1, h2, h3⟩ | h := h
  · rw [if_neg]
    unfold Mode.votes
    split <;> simp_all
  · rw [h]
    exact ite_self _

theorem State.digestVoted_of (hm : Voting s) (hl : s.vtu.last = some l) :
    s.digestVoted p m x = (s.digestHeard p m x.mode).takeSet l m p x := by
  unfold State.digestVoted State.voteDigest
  dsimp only
  rw [s.digestHeard_eq]
  show (if s.mdc.mode.votes then match s.vtu.last with
    | some last => (s.digestHeard p m x.mode).takeSet last m p x
    | none => s.digestHeard p m x.mode else s.digestHeard p m x.mode) = _
  have hv : s.mdc.mode.votes = true := by obtain h | h | h := hm <;> (rw [h]; rfl)
  rw [if_pos hv, hl]

/-! ### The set is stored -/

theorem VoteRecord.store_setOf (v : VoteRecord) (p q : Port) (x : PartnerSet) :
    (v.store p x).setOf q = if q = p then some x else v.setOf q := by
  cases p <;> cases q <;> rfl

theorem VoteRecord.store_keeps (v : VoteRecord) (p : Port) (x : PartnerSet) : (v.store p x).cycle = v.cycle ∧
    (v.store p x).outcome = v.outcome ∧ (v.store p x).snapshot = v.snapshot ∧ (v.store p x).expects = v.expects := by
  cases p <;> exact ⟨rfl, rfl, rfl, rfl⟩

theorem VoteRecord.complete_iff (v : VoteRecord) : v.complete = true ↔ ∀ p, v.expects p = true → v.setOf p ≠ none := by
  unfold VoteRecord.complete
  refine ⟨fun h p => ?_, fun h => ?_⟩
  · simp only [Bool.and_eq_true, Bool.or_eq_true, Bool.not_eq_true', Option.isSome_iff_ne_none] at h
    cases p with
    | a => exact fun he => h.1.resolve_left (by rw [show v.expectA = true from he]; exact nofun)
    | b => exact fun he => h.2.resolve_left (by rw [show v.expectB = true from he]; exact nofun)
  · have ha := h .a
    have hb := h .b
    unfold VoteRecord.expects VoteRecord.setOf at ha hb
    cases hx : v.expectA <;> cases hy : v.expectB <;> simp_all [Option.isSome_iff_ne_none]

theorem State.recordFor_cycle (h : s.recordFor m = some v) : v.cycle = m := by
  unfold State.recordFor at h
  simpa using List.find?_some h

theorem State.storeSet_of (h : s.recordFor m = some v) : s.storeSet m p x = s.putRecord (v.store p x) := by
  unfold State.storeSet
  rw [h]

theorem State.stored_recordFor (h : s.recordFor m = some v) :
    (s.putRecord (v.store p x)).recordFor m = some (v.store p x) := by
  have hc : (v.store p x).cycle = m := (v.store_keeps p x).1.trans (State.recordFor_cycle h)
  have hp := State.putRecord_recordFor (s := s) (v := v.store p x) (by rw [hc, h]; rfl)
  rwa [hc] at hp

/-- The stored record is decided where it is complete and holds a snapshot. -/
theorem State.decideIfComplete_stored (h : s.recordFor m = some v) (ho : v.outcome = none) :
    (s.putRecord (v.store p x)).decideIfComplete m =
      if (v.store p x).complete = true then
        match v.snapshot with
        | some l => (s.putRecord (v.store p x)).decideWith (v.store p x) l
        | none => s.putRecord (v.store p x)
      else s.putRecord (v.store p x) := by
  have hr := State.stored_recordFor (p := p) (x := x) h
  obtain ⟨-, hoc, hsn, -⟩ := v.store_keeps p x
  unfold State.decideIfComplete State.decideRecord VoteRecord.isOpen
  rw [hr]
  dsimp only
  rw [hoc, ho, hsn]
  rfl

/-- A step of the vote unit that neither decides nor fires. -/
def VoteQuiet (s t : State) : Prop := t = { s with vtu := t.vtu, evu := t.evu } ∧ Fired s t []

theorem VoteQuiet.putRecord (s : State) (v : VoteRecord) : VoteQuiet s (s.putRecord v) := ⟨rfl, fun _ => by simp [FlagSet]⟩

theorem VoteQuiet.count (s : State) (c : Counter) : VoteQuiet s (s.count c) :=
  ⟨State.eq_of_blocks (by simp), fun _ => by simp [FlagSet]⟩

/-- What the vote unit makes of a set: it decides the record of L, or only its records and counters change. -/
theorem State.takeSet_outcome (s : State) (l m : Word) (p : Port) (x : PartnerSet) : VoteQuiet s (s.takeSet l m p x) ∨
    ∃ v sn, s.recordFor m = some v ∧ v.outcome = none ∧ v.snapshot = some sn ∧
      s.takeSet l m p x = (s.putRecord (v.store p x)).decideWith (v.store p x) sn := by
  unfold State.takeSet
  cases h : s.recordFor m with
  | some v =>
    dsimp only
    rw [State.storeSet_of h]
    split
    · rename_i hc
      have ho : v.outcome = none := by
        unfold VoteRecord.isOpen at hc
        rw [Bool.and_eq_true, Option.isNone_iff_eq_none] at hc
        exact hc.1
      rw [State.decideIfComplete_stored h ho]
      split
      · cases hs : v.snapshot with
        | some sn => exact .inr ⟨v, sn, rfl, ho, hs, rfl⟩
        | none => exact .inl (.putRecord ..)
      · exact .inl (.putRecord ..)
    · split
      · exact .inl (.putRecord ..)
      · exact .inl (.count ..)
  | none =>
    dsimp only
    split
    · refine .inl ?_
      unfold State.storeSet
      split
      · exact ⟨rfl, fun _ => by simp [FlagSet]⟩
      · exact ⟨rfl, fun _ => by simp [FlagSet]⟩
    · exact .inl (.count ..)

theorem Word.sub_eq_iff (m l : Word) (k : Word) : m - l = k ↔ m = l + k := by
  rw [sub_eq_iff_eq_add, add_comm]

/-- A frame for a record that is OPEN, of L or ahead. -/
theorem State.takeSet_open (hlaw : VoteLaw s) (hl : s.vtu.last = some l) (hv : v ∈ s.vtu.records) (hm : v.cycle = m)
    (ho : v.outcome = none) : s.recordFor m = some v ∧
    (m ≠ l → s.takeSet l m p x = s.putRecord (v.store p x)) ∧
    (m = l → ∃ sn, v.snapshot = some sn ∧ s.takeSet l m p x =
      if (v.store p x).complete = true then (s.putRecord (v.store p x)).decideWith (v.store p x) sn
      else s.putRecord (v.store p x)) := by
  obtain ⟨-, hn, -, -, -, hopen⟩ := hlaw
  have hio : v.isOpen = true := by unfold VoteRecord.isOpen; rw [ho]; rfl
  have hr : s.recordFor m = some v := hm ▸ State.recordFor_of_mem hn hv
  have hcyc := hopen l hl v hv hio
  rw [hm] at hcyc
  refine ⟨hr, fun hne => ?_, fun he => ?_⟩
  · have hahead := hcyc.resolve_left fun h => hne h.1
    unfold State.takeSet
    rw [hr]
    dsimp only
    rw [hio, if_neg (by simp [hne]), if_pos (by simpa [Word.sub_eq_iff] using hahead.1), State.storeSet_of hr]
  · subst he
    have hsn : v.snapshot.isSome = true := by
      obtain h | h := hcyc
      · exact h.2
      · exact absurd h.1 (by simp)
    obtain ⟨sn, hsn⟩ := Option.isSome_iff_exists.1 hsn
    refine ⟨sn, hsn, ?_⟩
    unfold State.takeSet
    rw [hr]
    dsimp only
    rw [hio, if_pos (by simp), State.storeSet_of hr, State.decideIfComplete_stored hr ho, hsn]

theorem State.recordFor_none (h : ∀ w ∈ s.vtu.records, w.cycle ≠ m) : s.recordFor m = none := by
  unfold State.recordFor
  exact List.find?_eq_none.2 fun w hw => by simpa using h w hw

theorem makeRoom_subset (l : Word) (rs : List VoteRecord) : ∀ w ∈ makeRoom l rs, w ∈ rs := by
  unfold makeRoom
  split
  · exact fun _ => id
  · split
    · exact fun w hw => List.mem_of_mem_filter hw
    · exact fun w hw => List.mem_of_mem_tail hw

/-- A frame for a cycle ahead that has no record. -/
theorem State.takeSet_new (h : ∀ w ∈ s.vtu.records, w.cycle ≠ m) (hm : m = l + 1 ∨ m = l + 2) :
    s.takeSet l m p x = (s.createRecord l m).putRecord ((VoteRecord.new m).store p x) ∧
      (s.takeSet l m p x).recordFor m = some ((VoteRecord.new m).store p x) := by
  have hnew : (s.createRecord l m).recordFor m = some (VoteRecord.new m) := by
    unfold State.recordFor
    show (makeRoom l s.vtu.records ++ [VoteRecord.new m]).find? _ = _
    rw [List.find?_append, List.find?_eq_none.2 fun w hw => by simpa using h w (makeRoom_subset _ _ w hw)]
    simp [VoteRecord.new]
  have ht : s.takeSet l m p x = (s.createRecord l m).putRecord ((VoteRecord.new m).store p x) := by
    unfold State.takeSet
    rw [State.recordFor_none h]
    dsimp only
    rw [if_pos (by simpa [Word.sub_eq_iff] using hm), State.storeSet_of hnew]
  exact ⟨ht, by rw [ht]; exact State.stored_recordFor hnew⟩

/-- A frame for a decided record, or for a cycle without one that is not ahead (R105). -/
theorem State.takeSet_stale (hn : (s.vtu.records.map (·.cycle)).Nodup)
    (h : (∃ w ∈ s.vtu.records, w.cycle = m ∧ w.outcome ≠ none) ∨
      ((∀ w ∈ s.vtu.records, w.cycle ≠ m) ∧ m ≠ l + 1 ∧ m ≠ l + 2)) : s.takeSet l m p x = s.count .staleDigest := by
  unfold State.takeSet
  obtain ⟨w, hw, rfl, ho⟩ | ⟨hno, h1, h2⟩ := h
  · have hio : w.isOpen = false := by
      unfold VoteRecord.isOpen
      rwa [Option.isNone_eq_false_iff, Option.isSome_iff_ne_none]
    rw [State.recordFor_of_mem hn hw]
    dsimp only
    rw [hio]
    simp
  · rw [State.recordFor_none hno]
    dsimp only
    rw [if_neg]
    rw [Bool.or_eq_true, decide_eq_true_iff, decide_eq_true_iff, Word.sub_eq_iff, Word.sub_eq_iff]
    exact not_or.2 ⟨h1, h2⟩

end Sys2Proof.Machine
end

section
/-! What a DIGEST leaves when the vote unit has taken it (O57), and what the restoration engine makes of the announced mode. -/

namespace Sys2Proof.Machine

variable {r s t : State} {p q : Port} {m l : Word} {x : PartnerSet} {v : VoteRecord}

/-! ### The services under a vote -/

/-- The services are as before, or have all ended and the end of one is reported. -/
def ServicesOrEnded (s t : State) : Prop :=
  t.rse = s.rse ∨ t.rse = { service := none, reentry := none, repair := none, repairList := [] } ∧
    (s.rse.service ≠ none → FlagSet t .serviceEnded)

theorem ServicesOrEnded.isolateFor (s : State) (c : Cause) : ServicesOrEnded s (s.isolateFor c) := by
  by_cases h : s.mdc.mode.isolable = true
  · exact .inr ⟨s.isolateFor_rse c h, fun hs => s.isolateFor_ended c h (.inl hs)⟩
  · unfold State.isolateFor
    rw [if_neg h]
    exact .inl rfl

theorem ServicesOrEnded.congr (h : ServicesOrEnded s t) (hr : s.rse = r.rse) : ServicesOrEnded r t := by
  unfold ServicesOrEnded at h ⊢
  rwa [hr] at h

theorem State.syncOutcome_services (s : State) (o : VoteOutcome) : ServicesOrEnded s (s.syncOutcome o) := by
  unfold State.syncOutcome State.syncLimit
  split
  · exact .inl (State.requestMode_run_frame (s.setVtu { s.vtu with syncCount := 0 })).2.2.1
  · split
    · exact (ServicesOrEnded.isolateFor (s.setVtu { s.vtu with syncCount := s.vtu.syncCount + 1 }) _).congr rfl
    · exact .inl rfl

theorem State.runOutcome_services (s : State) (o : VoteOutcome) : ServicesOrEnded s (s.runOutcome o) := by
  unfold State.runOutcome State.uncheckedLimit
  split
  · split
    · exact (ServicesOrEnded.isolateFor (s.setVtu { s.vtu with unchecked := s.vtu.unchecked + 1 }) _).congr rfl
    · exact .inl rfl
  · exact .inl rfl

theorem State.decideWith_services (s : State) (v : VoteRecord) (sn : Snapshot) : ServicesOrEnded s (s.decideWith v sn) := by
  have hr : (s.voteNoted v sn).rse = s.rse := by
    rw [s.voteNoted_blocks]
    exact (s.voteMarked_blocks v sn).2.2.2.2.2.1
  rw [s.decideWith_eq]
  refine ServicesOrEnded.congr (s := s.voteNoted v sn) ?_ hr
  unfold State.voteConsequence
  split
  · exact (ServicesOrEnded.isolateFor ((s.voteNoted v sn).setVtu { (s.voteNoted v sn).vtu with unchecked := 0 }) _).congr rfl
  · split
    · exact State.syncOutcome_services ..
    · exact State.runOutcome_services ..

/-! ### The vote unit has taken the frame -/

theorem State.digestVoted_cases (s : State) (p : Port) (m : Word) (x : PartnerSet) :
    s.digestVoted p m x = s.digestHeard p m x.mode ∨
      ∃ l, Voting s ∧ s.vtu.last = some l ∧ s.digestVoted p m x = (s.digestHeard p m x.mode).takeSet l m p x := by
  by_cases hm : Voting s
  · cases hl : s.vtu.last with
    | none => exact .inl (State.digestVoted_silent (.inr hl))
    | some l => exact .inr ⟨l, hm, rfl, State.digestVoted_of hm hl⟩
  · refine .inl (State.digestVoted_silent (.inl ?_))
    simpa [Voting] using hm

theorem VoteQuiet.link (h : VoteQuiet s t) (q : Port) : t.link q = s.link q := by
  rw [h.1]
  rfl

theorem State.digestVoted_services (s : State) (p : Port) (m : Word) (x : PartnerSet) :
    ServicesOrEnded s (s.digestVoted p m x) := by
  obtain h | ⟨l, -, -, h⟩ := s.digestVoted_cases p m x
  · rw [h]
    exact .inl rfl
  · rw [h]
    obtain hq | ⟨v, sn, -, -, -, ht⟩ := (s.digestHeard p m x.mode).takeSet_outcome l m p x
    · rw [hq.1]
      exact .inl rfl
    · rw [ht]
      exact (State.decideWith_services ..).congr rfl

/-- The partner's entry stands through the vote, and the frame has left the queue. -/
theorem State.digestVoted_partner (s : State) (p : Port) (m : Word) (x : PartnerSet) :
    let y := (s.digestVoted p m x).link p
    y.partner.mode = x.mode ∧ y.partner.cycle = some m ∧ y.partner.role = (s.link p).partner.role ∧
      y.partner.lost = false ∧ y.partner.absence = 0 ∧ y.rx = (s.link p).rx.tail := by
  have hlink : (s.digestHeard p m x.mode).link p = { s.link p with
      rx := (s.link p).rx.tail, partner := (s.link p).partner.heard x.mode m } := by rw [s.digestHeard_link, if_pos rfl]
  obtain h | ⟨l, -, -, h⟩ := s.digestVoted_cases p m x
  · rw [h, hlink]
    exact ⟨rfl, rfl, rfl, rfl, rfl, rfl⟩
  · rw [h]
    obtain hq | ⟨v, sn, -, -, -, ht⟩ := (s.digestHeard p m x.mode).takeSet_outcome l m p x
    · rw [hq.link, hlink]
      exact ⟨rfl, rfl, rfl, rfl, rfl, rfl⟩
    · let z : State := (s.digestHeard p m x.mode).putRecord (v.store p x)
      have hz : z.link p = (s.digestHeard p m x.mode).link p := rfl
      have hpartner := z.decideWith_partner (v.store p x) sn p
      have hrx := (z.decideWith_stands (v.store p x) sn).rx p
      have hset : ((v.store p x).setOf p).isSome = true := by rw [VoteRecord.store_setOf, if_pos rfl]; rfl
      unfold Partner.counted at hpartner
      rw [if_pos hset, hz, hlink] at hpartner
      rw [z.voteNoted_link, hz, hlink] at hrx
      rw [ht]
      dsimp only
      rw [hpartner, hrx]
      exact ⟨rfl, rfl, rfl, rfl, rfl, rfl⟩

/-- A frame for a record that is OPEN: stored, and the record of L decided with the last set expected. -/
theorem State.digestVoted_open (hm : Voting s) (hl : s.vtu.last = some l) (hlaw : VoteLaw s) (hv : v ∈ s.vtu.records)
    (hc : v.cycle = m) (ho : v.outcome = none) : ∃ r', (s.digestVoted p m x).recordFor m = some r' ∧ r'.setOf p = some x ∧
      r'.snapshot = v.snapshot ∧ (∀ q, q ≠ p → r'.setOf q = v.setOf q) ∧
      (m ≠ l → r'.outcome = none ∧ (s.digestVoted p m x).mdc = s.mdc) ∧
      (m = l → (∀ q, q ≠ p → v.expects q = true → v.setOf q ≠ none) → r'.outcome ≠ none) ∧
      (m = l → (∃ q, q ≠ p ∧ v.expects q = true ∧ v.setOf q = none) → r'.outcome = none ∧
        (s.digestVoted p m x).mdc = s.mdc) := by
  let z : State := s.digestHeard p m x.mode
  obtain ⟨hrec, hahead, hnow⟩ := State.takeSet_open (s := z) (m := m) (p := p) (x := x) hlaw hl hv hc ho
  obtain ⟨-, hso, hsn, hex⟩ := v.store_keeps p x
  have hother (q : Port) (hq : q ≠ p) : (v.store p x).setOf q = v.setOf q := by rw [v.store_setOf, if_neg hq]
  have hself : (v.store p x).setOf p = some x := by rw [v.store_setOf, if_pos rfl]
  have hstored := State.stored_recordFor (p := p) (x := x) hrec
  have hcomplete : (v.store p x).complete = true ↔ ∀ q, q ≠ p → v.expects q = true → v.setOf q ≠ none := by
    rw [VoteRecord.complete_iff, hex]
    refine ⟨fun h q hq he => hother q hq ▸ h q he, fun h q he => ?_⟩
    by_cases hq : q = p
    · rw [hq, hself]
      exact nofun
    · rw [hother q hq]
      exact h q hq he
  rw [State.digestVoted_of hm hl]
  show ∃ r', (z.takeSet l m p x).recordFor m = some r' ∧ _
  by_cases he : m = l
  · obtain ⟨sn, -, ht⟩ := hnow he
    rw [ht]
    by_cases hco : (v.store p x).complete = true
    · rw [if_pos hco]
      have hd := State.decideWith_record (s := z.putRecord (v.store p x)) (v := v.store p x) sn
        (by rw [(v.store_keeps p x).1, hc]; exact hstored)
      rw [(v.store_keeps p x).1, hc] at hd
      refine ⟨_, hd, ?_, hsn, fun q hq => ?_, fun hne => absurd he hne, fun _ _ => nofun, fun _ ⟨q, hq, h1, h2⟩ => ?_⟩
      · rw [← hself]
        cases p <;> rfl
      · rw [← hother q hq]
        cases q <;> rfl
      · exact absurd h2 (hcomplete.1 hco q hq h1)
    · rw [if_neg hco]
      exact ⟨_, hstored, hself, hsn, hother, fun hne => absurd he hne, fun _ hall => absurd (hcomplete.2 hall) hco,
        fun _ _ => ⟨hso.trans ho, rfl⟩⟩
  · rw [hahead he]
    exact ⟨_, hstored, hself, hsn, hother, fun _ => ⟨hso.trans ho, rfl⟩, fun h => absurd h he, fun h => absurd h he⟩

/-- A frame for a cycle ahead that has no record. -/
theorem State.digestVoted_new (hm : Voting s) (hl : s.vtu.last = some l) (hno : ∀ w ∈ s.vtu.records, w.cycle ≠ m)
    (ha : m = l + 1 ∨ m = l + 2) : ∃ r', (s.digestVoted p m x).recordFor m = some r' ∧ r'.outcome = none ∧
      r'.snapshot = none ∧ r'.setOf p = some x ∧
      (s.digestVoted p m x).vtu = { s.vtu with records := (s.digestVoted p m x).vtu.records } ∧
      s.digestVoted p m x = { s with lkc := (s.digestVoted p m x).lkc, vtu := (s.digestVoted p m x).vtu } := by
  obtain ⟨ht, hrec⟩ := State.takeSet_new (s := s.digestHeard p m x.mode) (p := p) (x := x) (l := l) hno ha
  obtain ⟨-, hso, hsn, -⟩ := (VoteRecord.new m).store_keeps p x
  rw [State.digestVoted_of hm hl]
  refine ⟨_, hrec, hso, hsn, by rw [VoteRecord.store_setOf, if_pos rfl], ?_, ?_⟩
  · rw [ht]
    rfl
  · rw [ht]
    rfl

/-- A stale frame (R105). -/
theorem State.digestVoted_stale (hm : Voting s) (hl : s.vtu.last = some l) (hn : (s.vtu.records.map (·.cycle)).Nodup)
    (h : (∃ w ∈ s.vtu.records, w.cycle = m ∧ w.outcome ≠ none) ∨
      ((∀ w ∈ s.vtu.records, w.cycle ≠ m) ∧ m ≠ l + 1 ∧ m ≠ l + 2)) :
    s.digestVoted p m x = (s.digestHeard p m x.mode).count .staleDigest :=
  (State.digestVoted_of hm hl).trans (State.takeSet_stale (s := s.digestHeard p m x.mode) hn h)

/-- Without an OPEN record of its cycle the frame decides nothing. -/
theorem State.digestVoted_undecided (s : State) (p : Port) (x : PartnerSet)
    (h : ∀ w ∈ s.vtu.records, w.cycle = m → w.outcome ≠ none) :
    (s.digestVoted p m x).rse = s.rse ∧ (s.digestVoted p m x).mdc = s.mdc ∧ Fired s (s.digestVoted p m x) [] := by
  obtain hw | ⟨l, -, -, hw⟩ := s.digestVoted_cases p m x
  · rw [hw]
    exact ⟨rfl, rfl, fun _ => by simp [FlagSet, State.digestHeard]⟩
  · rw [hw]
    obtain ⟨hq, hf⟩ | ⟨v, sn, hr, ho, -⟩ := (s.digestHeard p m x.mode).takeSet_outcome l m p x
    · rw [hq]
      refine ⟨rfl, rfl, fun ev => ?_⟩
      exact hf ev
    · exact absurd ho (h v (List.mem_of_find?_eq_some hr) (State.recordFor_cycle hr))

/-! ### The restoration engine hears a mode (R141, R148, R151, R154) -/

variable {mode : Option Mode}

theorem State.serviceHears_quiet (h : ∀ v, s.rse.service = some v → v.port ≠ p ∨ StaysTarget v mode) :
    s.serviceHears p mode = s := by
  unfold State.serviceHears
  split
  · rfl
  · rename_i v hv
    split
    · rename_i hp
      have hs := (h v hv).resolve_left fun hn => hn hp
      unfold StaysTarget at hs
      split
      · rw [if_pos (by unfold announcesReentry; simp_all [or_assoc])]
      · rw [if_pos (by simp_all)]
    · rfl

theorem State.serviceHears_ends {v : Service} (hv : s.rse.service = some v) (hp : v.port = p) (h : ¬ StaysTarget v mode) :
    s.serviceHears p mode = s.endService none := by
  unfold State.serviceHears
  rw [hv]
  dsimp only
  rw [if_pos hp]
  unfold StaysTarget at h
  split
  · rw [if_neg (by unfold announcesReentry; simp_all)]
  · rw [if_neg (by simp_all)]

/-- A service ends without ABANDON. -/
theorem State.endService_silent {v : Service} (hv : s.rse.service = some v) :
    (s.endService none).rse = { s.rse with service := none } ∧ (s.endService none).mdc = s.mdc ∧
      (s.endService none).link = s.link ∧ Fired s (s.endService none) [.serviceEnded] := by
  have he : s.endService none = ((s.forget WordOp.ofCopy).setService none).fire .serviceEnded := by
    unfold State.endService
    rw [hv]
  rw [he]
  exact ⟨rfl, rfl, rfl, (fired_of_evu s _ .serviceEnded rfl).1⟩

theorem State.reentryHears_quiet {stays : Bool}
    (h : ∀ v, s.rse.reentry = some v → v.asked ≠ p ∨ v.phase = .asking ∨ stays = true) : s.reentryHears p stays = s := by
  unfold State.reentryHears
  split
  · rfl
  · rename_i v hv
    rw [if_neg]
    obtain h | h | h := h v hv <;> simp [h]

theorem State.reentryHears_lost {v : Reentry} (hv : s.rse.reentry = some v) (hph : v.phase = .receiving) (ha : v.asked = p) :
    s.reentryHears p false = s.isolateFor .sourceLost := by
  unfold State.reentryHears
  rw [hv]
  dsimp only
  rw [if_pos (by simp [hph, ha])]

theorem State.repairHears_quiet
    (h : ∀ v, s.rse.repair = some v → v.asked ≠ p ∨ v.phase = .auditing ∨ mode = some .run) : s.repairHears p mode = s := by
  unfold State.repairHears
  split
  · rfl
  · rename_i v hv
    rw [if_neg]
    obtain h | h | h := h v hv <;> simp [h]

theorem State.repairHears_refused {v : Repair} (hv : s.rse.repair = some v) (hph : v.phase ≠ .auditing) (ha : v.asked = p)
    (hm : mode ≠ some .run) : s.repairHears p mode = (s.release p).blockRefused := by
  unfold State.repairHears
  rw [hv]
  dsimp only
  rw [if_pos (by simp [hph, ha, hm])]

theorem State.targetDigest_quiet (h : ∀ v, s.rse.reentry = some v → v.asked ≠ p ∨ v.phase = .asking) :
    s.targetDigest p m x = s := by
  unfold State.targetDigest
  split
  · rfl
  · rename_i v hv
    dsimp only
    rw [if_neg]
    obtain h | h := h v hv <;> simp [h]

/-- DIGEST as a command: the vote unit, then the four parts of the restoration engine. -/
theorem exec_digest_of {td : Nat} {es : List DigestEntry} (h : NextFrame s p (.digest m mode td es)) :
    exec (.digest p) s = .next (((((s.digestVoted p m { mode, tableDigest := td, entries := es }).serviceHears p mode).reentryHears
      p (mode = some .run)).repairHears p mode).targetDigest p m { mode, tableDigest := td, entries := es }) := by
  simp only [exec, execDigest, h.front, s.dropFront_eq]
  rfl

/-! ### A refusal of the request for the head block (R151) -/

theorem State.blockRefused_of {v : Repair} (hv : s.rse.repair = some v) (hp : v.tried p = true) (hq : q ≠ p) :
    (s.expectedVoter q = true → v.tried q = false → (s.link q).tx.length < 16 → s.blockRefused = s.askBlock v q) ∧
    (s.expectedVoter q = false ∨ v.tried q = true → s.blockRefused = s.isolateFor .noSource) := by
  have hport (o : Port) : o = p ∨ o = q := by cases o <;> cases p <;> cases q <;> simp_all
  unfold State.blockRefused State.seekBlock
  rw [hv]
  dsimp only
  refine ⟨fun he ht hl => ?_, fun h => ?_⟩
  · have hc : s.repairCandidate v = some q := by
      cases hc : s.repairCandidate v with
      | none =>
        rw [s.repairCandidate_none v hc q he] at ht
        cases ht
      | some o =>
        obtain ⟨-, hto⟩ := s.repairCandidate_some v o hc
        obtain rfl | rfl := hport o
        · rw [hp] at hto
          cases hto
        · rfl
    rw [hc]
    dsimp only
    rw [if_pos ((s.blockAsked_iff q he).2 hl)]
  · have hc : s.repairCandidate v = none := by
      cases hc : s.repairCandidate v with
      | none => rfl
      | some o =>
        obtain ⟨heo, hto⟩ := s.repairCandidate_some v o hc
        obtain rfl | rfl := hport o
        · rw [hp] at hto
          cases hto
        · rw [heo, hto] at h
          simp at h
    rw [hc]

end Sys2Proof.Machine
end

section
/-! DIGEST at a re-entry target (R145, R147): the mirror check and the join (O57). -/

namespace Sys2Proof.Machine

variable {r s t : State} {p q : Port} {m l : Word} {x : PartnerSet} {v : VoteRecord}

/-! ### A pass that starts is a SCRUB pass -/

theorem State.scrubTo_kind (s : State) (i : Fin 32) (w : Nat) : (s.scrubTo i w).ptl.kind = s.ptl.kind := by
  unfold State.scrubTo State.nextScrubRegion
  split
  · rfl
  · split
    · rw [State.enterScrub_ptl]
    · unfold State.completePass
      rw [State.beginPass_ptl]
      simp [State.setPtl]

theorem State.skipListed_kind (k : Nat) (s : State) : (State.skipListed k s).ptl.kind = s.ptl.kind := by
  induction k generalizing s with
  | zero => rfl
  | succ k ih =>
    unfold State.skipListed
    split
    · split
      · rw [ih, State.scrubTo_kind]
      · rfl
    · rfl

theorem State.startScrub_kind (s : State) : s.startScrub.ptl.kind = .scrub := by
  unfold State.startScrub State.skip
  rw [State.skipListed_kind, State.beginPass_ptl]
  rfl

/-! ### The mirror check (R145) -/

theorem entryFor_iff {es : List DigestEntry} {i : Nat} {e : DigestEntry} (h : entryFor es i = some e) : e.region = i := by
  unfold entryFor at h
  simpa using List.find?_some h

/-- The snapshot's entry of a digest region. -/
theorem State.snapshot_entry {i : Fin 32} (h : s.isDigestRegion i = true) : entryFor s.snapshot.entries i.val =
    some { region := i.val, valid := (s.record i).valid, digest := (s.record i).digest } := by
  have hm : i ∈ s.digestRegions := List.mem_filter.2 ⟨List.mem_finRange i, h⟩
  unfold entryFor State.snapshot
  dsimp only
  rw [List.find?_map]
  have hf : s.digestRegions.find? ((fun e : DigestEntry => e.region == i.val) ∘ fun i : Fin 32 =>
      ({ region := i.val, valid := (s.record i).valid, digest := (s.record i).digest } : DigestEntry)) = some i := by
    cases hc : s.digestRegions.find? ((fun e : DigestEntry => e.region == i.val) ∘ fun i : Fin 32 =>
      ({ region := i.val, valid := (s.record i).valid, digest := (s.record i).digest } : DigestEntry)) with
    | none => simpa using List.find?_eq_none.1 hc i hm
    | some j =>
      have := List.find?_some hc
      rw [Fin.ext (by simpa using this : j.val = i.val)]
  rw [hf]
  rfl

/-- The frame's values equal the local ones. -/
def Mirrored (s : State) (x : PartnerSet) : Prop :=
  x.tableDigest = s.dgu.tableDigest ∧ ∀ i, s.isDigestRegion i = true → (s.record i).valid = true ∧
    ∃ e, entryFor x.entries i.val = some e ∧ e.valid = true ∧ e.digest = (s.record i).digest

theorem State.mirrors_iff (s : State) (x : PartnerSet) : s.mirrors x = true ↔ Mirrored s x := by
  have hall : (∀ i ∈ s.digestRegions, localEquals s.snapshot x i.val = true) ↔
      ∀ i, s.isDigestRegion i = true → localEquals s.snapshot x i.val = true :=
    ⟨fun h i hi => h i (List.mem_filter.2 ⟨List.mem_finRange i, hi⟩), fun h i hi => h i (List.mem_filter.1 hi).2⟩
  unfold State.mirrors Mirrored
  rw [Bool.and_eq_true, beq_iff_eq, List.all_eq_true]
  refine and_congr_right fun ht => ?_
  have hsn : (∀ e ∈ s.snapshot.entries, localEquals s.snapshot x e.region = true) ↔
      ∀ i ∈ s.digestRegions, localEquals s.snapshot x i.val = true := by
    unfold State.snapshot
    simp
  rw [hsn, hall]
  refine forall₂_congr fun i hi => ?_
  unfold localEquals
  rw [State.snapshot_entry hi, show s.snapshot.tableDigest = s.dgu.tableDigest from rfl, ht]
  cases hx : entryFor x.entries i.val with
  | none => simp [entriesEqual]
  | some e => simp [entriesEqual, and_assoc, @eq_comm _ (s.record i).digest]

/-- Where they do not, some value differs. -/
theorem not_mirrored {td : Nat} {es : List DigestEntry} {mode : Option Mode}
    (h : td ≠ s.dgu.tableDigest ∨ ∃ i, s.isDigestRegion i = true ∧ ((s.record i).valid = false ∨
      ∀ e, entryFor es i.val = some e → e.valid = false ∨ e.digest ≠ (s.record i).digest)) :
    ¬ Mirrored s { mode, tableDigest := td, entries := es } := by
  rintro ⟨ht, hall⟩
  obtain h | ⟨i, hi, h⟩ := h
  · exact h ht
  · obtain ⟨hv, e, he, hev, hed⟩ := hall i hi
    obtain h | h := h
    · rw [hv] at h
      cases h
    · obtain h | h := h e he
      · rw [hev] at h
        cases h
      · exact h hed

/-! ### The frame at a target -/

/-- The target has taken the source's mark. -/
theorem State.targetDigest_of {v : Reentry} (hv : s.rse.reentry = some v) (hph : v.phase = .receiving) (ha : v.asked = p) :
    s.targetDigest p m x =
      let y := s.setReentry (some { v with source := some m })
      if v.auditsDone then (if y.mirrors x then y.mirrorAgrees p { v with source := some m } m else y.mirrorDiffers) else y := by
  unfold State.targetDigest
  rw [hv]
  dsimp only
  rw [if_pos (by simp [hph, ha])]

/-- The change of mode into READY starts a SCRUB pass. -/
theorem State.requestMode_ready (s : State) : s.requestMode .ready =
    if s.mdc.mode.leadsTo .ready then (((s.setMode .ready).fire .modeChanged).startScrub).chooseMove else s := rfl

/-- Agreement in VERIFY. -/
theorem State.mirrorAgrees_verify {v : Reentry} (hm : s.mdc.mode = .verify) :
    let t := s.mirrorAgrees p v m
    t.mdc = { s.mdc with mode := .ready, chen := false } ∧ FlagSet t .joinReady ∧ t.rse = s.rse ∧ t.ptl.kind = .scrub ∧
      (RowTableLaw s → MoveChosen s.srm s.ret.entries (MovePermitted s .ready) (s.msq.port ≠ none) t) := by
  let y : State := ((s.setMode .ready).fire .modeChanged).startScrub
  have ht : s.mirrorAgrees p v m = (y.chooseMove).fire .joinReady := by
    unfold State.mirrorAgrees
    rw [hm]
    dsimp only
    rw [State.requestMode_ready, if_pos (by rw [hm]; rfl)]
  have hmdc : y.mdc = { s.mdc with mode := .ready, chen := false } := by simp [y, State.setMode]
  dsimp only
  rw [ht]
  refine ⟨?_, ?_, ?_, ?_, fun hn => ?_⟩
  · rw [(State.fire_frame ..).2.2.2.2.2.2.2.2.2.2.2.1, (State.chooseMove_frame _).2.2.2.2.2.2.2.2.2.1, hmdc]
  · unfold FlagSet
    rw [State.fire_flag]
    simp
  · simp [y]
  · rw [(State.fire_frame ..).2.2.2.2.2.2.2.2.1, (State.chooseMove_frame _).2.2.2.2.2.2.1]
    exact State.startScrub_kind _
  · have hk : GroupKept s y := .of_msq (by simp [y])
    have hc := hk.chosen hn (by simp [y]) (by simp [y])
    rw [hmdc] at hc
    exact hc.congr Iff.rfl (by simp) (by simp) ((Aftermath.refl _).fire _ |>.flags _)

/-- The join (R147). -/
theorem State.joinNow_joined (hm : s.mdc.mode = .ready) (n : Word) :
    let t := s.joinNow p n
    t.mdc = { s.mdc with mode := .run, chen := true } ∧
      t.vtu = { s.vtu with last := some n, watchdog := some 0, unchecked := 0 } ∧ t.rse = { s.rse with reentry := none } ∧
      FlagSet t .serviceEnded ∧ FlagSet t .modeChanged ∧ (t.link p).partner.role = .none ∧
      (t.link p).tx = queued (s.link p) (.joined n) ∧
      (RowTableLaw s → MoveChosen s.srm s.ret.entries (MovePermitted s .run) (s.msq.port ≠ none) t) := by
  let y : State := (s.setMode .run).fire .modeChanged
  let z : State := (y.chooseMove.voteJoin n).offerFrame p (.joined n)
  let u : State := (z.setPartner p { (z.link p).partner with role := .none }).setReentry none
  have ht : s.joinNow p n = u.fire .serviceEnded := by
    unfold State.joinNow
    rw [State.requestMode_run, if_pos (by rw [hm]; rfl)]
  have hrun := (State.chooseMove_frame y)
  have hzvtu : z.vtu = { s.vtu with last := some n, watchdog := some 0, unchecked := 0 } := by
    rw [show z.vtu = _ from (State.offerFrame_frame ..).2.2.2.2.2.2.2.2.2.1]
    show { y.chooseMove.vtu with last := some n, watchdog := some 0, unchecked := 0 } = _
    simp [y]
  have hlink : y.chooseMove.link p = s.link p := by
    unfold State.link
    simp [y]
  have haft : Aftermath y.chooseMove u :=
    ((((Aftermath.refl y.chooseMove).of_frame (t := y.chooseMove.voteJoin n) rfl rfl).offerFrame p _).setPartner p _).setRse _
  dsimp only
  rw [ht]
  have hlinkt : (u.fire .serviceEnded).link p = { z.link p with partner := { (z.link p).partner with role := .none } } := by
    have hu : (u.fire .serviceEnded).link p = (z.setPartner p { (z.link p).partner with role := .none }).link p := rfl
    unfold State.setPartner at hu
    rwa [State.setLink_link, if_pos rfl] at hu
  refine ⟨?_, ?_, ?_, ?_, ?_, ?_, ?_, fun hn => ?_⟩
  · rw [(State.fire_frame ..).2.2.2.2.2.2.2.2.2.2.2.1, show u.mdc = z.mdc by simp [u], show z.mdc = y.chooseMove.mdc by
      simp [z, State.voteJoin, State.setVtu], (State.chooseMove_frame _).2.2.2.2.2.2.2.2.2.1]
    rfl
  · simpa [u] using hzvtu
  · have hz : (z.setPartner p { (z.link p).partner with role := .none }).rse = s.rse := by
      simp [z, y, State.voteJoin, State.setVtu]
    show { (z.setPartner p { (z.link p).partner with role := .none }).rse with reentry := none } = _
    rw [hz]
  · unfold FlagSet
    rw [State.fire_flag]
    simp
  · refine (haft.fire _).flags _ ((Aftermath.refl y).chooseMove.flags _ ?_)
    unfold FlagSet
    rw [State.fire_flag]
    simp
  · rw [hlinkt]
  · rw [hlinkt]
    show (z.link p).tx = _
    rw [State.offerFrame_link, if_pos rfl]
    show queued (y.chooseMove.link p) (.joined n) = _
    rw [hlink]
  · have hk : GroupKept s y := .of_msq rfl
    exact (hk.chosen hn rfl rfl).congr Iff.rfl (by simp [u, z, State.voteJoin, State.setVtu])
      (by simp [u, z, State.voteJoin, State.setVtu]) ((haft.fire _).flags _)

theorem State.mirrorAgrees_ready (hm : s.mdc.mode = .ready) (v : Reentry) : s.mirrorAgrees p v m = s.tryJoin p v m := by
  unfold State.mirrorAgrees
  rw [hm]

/-- Agreement in READY, by how far the join cycle lies. -/
theorem State.tryJoin_of {v : Reentry} {n : Word} (h : v.join = some n) :
    (m = n → s.tryJoin p v m = s.joinNow p n) ∧
    (1 ≤ (m - n).toNat → (m - n).toNat < 2 ^ 31 → s.tryJoin p v m = s.joinMissed v) ∧
    (2 ^ 31 ≤ (m - n).toNat → s.tryJoin p v m = s) := by
  unfold State.tryJoin
  rw [h]
  dsimp only
  have hne (hk : (m - n).toNat ≠ 0) : m ≠ n := by
    rintro rfl
    simp at hk
  refine ⟨fun he => if_pos he, fun h1 h2 => ?_, fun h2 => ?_⟩
  · rw [if_neg (hne (by omega)), if_pos (by omega)]
  · rw [if_neg (hne (by omega)), if_neg (by omega)]

theorem State.mirrorDiffers_of (hm : s.mdc.mode = .verify ∨ s.mdc.mode = .ready) :
    s.mirrorDiffers = s.isolateFor .mirrorMismatch := by
  unfold State.mirrorDiffers
  obtain h | h := hm <;> rw [h]

/-- A part with neither a re-entry nor a repair hears nothing more. -/
theorem State.hears_none (hr : s.rse.reentry = none) (hp : s.rse.repair = none) (b : Bool) (mode : Option Mode) :
    ((s.reentryHears p b).repairHears p mode).targetDigest p m x = s := by
  rw [State.reentryHears_quiet (by rw [hr]; exact nofun), State.repairHears_quiet (by rw [hp]; exact nofun),
    State.targetDigest_quiet (by rw [hr]; exact nofun)]

theorem State.expectedVoter_congr (hl : t.link q = s.link q) (hm : t.mdc = s.mdc) : t.expectedVoter q = s.expectedVoter q := by
  unfold State.expectedVoter
  rw [hl, hm]

/-! ### The statement -/

/-- Settles O57. -/
theorem digestIsStoredOrMirrored : Obligations.DigestIsStoredOrMirrored := by
  refine ⟨fun s p m mode td es hn hs hr hp => ?_, fun s p m mode td es v hn hv hp hst hr hrp => ?_,
    fun s p m mode td es v hn hmode hs hrp hl hv hph ha hm => ?_,
    fun s p q m mode td es v hn hmode hs hr hv hph hm ha ht hq hlaw hdec => ?_,
    fun s p m mode td es v hn hs hrp hl hv hph ha hmode => ?_⟩
  · let x : PartnerSet := { mode, tableDigest := td, entries := es }
    let w : State := s.digestVoted p m x
    have hrse : w.rse = s.rse ∨ w.rse = { service := none, reentry := none, repair := none, repairList := [] } :=
      (s.digestVoted_services p m x).imp_right And.left
    have h1 : w.serviceHears p mode = w := State.serviceHears_quiet fun v hv => by
      obtain h | h := hrse <;> rw [h] at hv
      · exact hs v hv
      · cases hv
    have h2 (b : Bool) : w.reentryHears p b = w := State.reentryHears_quiet fun v hv => by
      obtain h | h := hrse <;> rw [h] at hv
      · exact (hr v hv).imp_right .inl
      · cases hv
    have h3 : w.repairHears p mode = w := State.repairHears_quiet fun v hv => by
      obtain h | h := hrse <;> rw [h] at hv
      · exact hp v hv
      · cases hv
    have h4 : w.targetDigest p m x = w := State.targetDigest_quiet fun v hv => by
      obtain h | h := hrse <;> rw [h] at hv
      · exact hr v hv
      · cases hv
    obtain ⟨hmd, hcy, hro, hlo, hab, hrx⟩ := s.digestVoted_partner p m x
    refine ⟨w, ?_, hmd, hcy, hro, hlo, hab, hrx, fun hsil => ?_, fun l hm hl hlaw => ⟨fun r hrm hc ho => ?_, fun hno ha => ?_,
      fun hst => ?_⟩⟩
    · rw [exec_digest_of hn]
      show Host.Outcome.next ((((w.serviceHears p mode).reentryHears p _).repairHears p mode).targetDigest p m x) = _
      rw [h1, h2, h3, h4]
    · rw [show w = _ from State.digestVoted_silent hsil]
      exact ⟨fun q hq => by rw [s.digestHeard_link, if_neg hq], rfl⟩
    · exact State.digestVoted_open hm hl hlaw hrm hc ho
    · exact State.digestVoted_new hm hl hno ha
    · rw [show w = _ from State.digestVoted_stale hm hl hlaw.2.1 hst]
      obtain ⟨heq, hf⟩ := VoteQuiet.count (s.digestHeard p m mode) .staleDigest
      exact ⟨heq, hf, fun c => by simp [State.digestHeard]⟩
  · let x : PartnerSet := { mode, tableDigest := td, entries := es }
    let w : State := s.digestVoted p m x
    have hexec := exec_digest_of hn
    obtain hrse | ⟨hrse, hflag⟩ := s.digestVoted_services p m x
    · obtain ⟨hrw, hmw, -, hfw⟩ := State.endService_silent (s := w) (v := v) (by rw [hrse, hv])
      rw [hrse] at hrw
      rw [State.serviceHears_ends (s := w) (by rw [hrse, hv]) hp hst, State.hears_none (by rw [hrw, hr]) (by rw [hrw, hrp])] at hexec
      refine ⟨_, hexec, by rw [hrw], (hfw _).2 (.inr (by simp)), fun hdec => ?_⟩
      obtain ⟨-, hmdc, hf⟩ := s.digestVoted_undecided p x hdec
      refine ⟨hrw, hmw.trans hmdc, fun ev => ?_⟩
      rw [hfw ev, hf ev]
      simp
    · rw [State.serviceHears_quiet (by rw [hrse]; exact nofun), State.hears_none (by rw [hrse]) (by rw [hrse])] at hexec
      refine ⟨w, hexec, by rw [hrse], hflag (by rw [hv]; exact nofun), fun hdec => ?_⟩
      have hsame := (s.digestVoted_undecided p x hdec).1
      rw [hrse] at hsame
      rw [← hsame] at hv
      cases hv
  · let w : State := s.digestHeard p m mode
    have hiso : w.mdc.mode.isolable = true := by
      show s.mdc.mode.isolable = true
      obtain h | h | h := hm <;> (rw [h]; rfl)
    have hrse := w.isolateFor_rse .sourceLost hiso
    have hexec := exec_digest_of hn
    rw [State.digestVoted_silent (.inr hl), State.serviceHears_quiet (s := w) (by rw [show w.rse.service = none from hs]; exact nofun),
      decide_eq_false hmode, State.reentryHears_lost (s := w) hv hph ha, State.repairHears_quiet (by rw [hrse]; exact nofun),
      State.targetDigest_quiet (by rw [hrse]; exact nofun)] at hexec
    exact ⟨_, hexec, (w.isolateFor_mdc .sourceLost hiso).1, by rw [hrse]⟩
  · obtain ⟨l, hl⟩ : ∃ l, s.vtu.last = some l := by
      cases h : s.vtu.last with
      | some l => exact ⟨l, rfl⟩
      | none =>
        obtain ⟨w, hw, -⟩ := hdec
        rw [hlaw.2.2.2.1 h] at hw
        cases hw
    let w : State := (s.digestHeard p m mode).count .staleDigest
    let z : State := w.release p
    have hwr : w.rse = s.rse := by simp [w, State.digestHeard]
    have hzr : z.rse = s.rse := by simpa [z, State.release] using hwr
    have hzm : z.mdc = s.mdc := by simp [z, w, State.release, State.digestHeard]
    have hwl (o : Port) : w.link o = (s.digestHeard p m mode).link o := by unfold State.link; simp [w]
    have hzq : z.link q = s.link q := by
      refine (State.offerFrame_link w p q _).trans ?_
      rw [if_neg (Ne.symm hq), hwl, s.digestHeard_link, if_neg hq]
    have hzp : (z.link p).tx = queued (s.link p) (.abandon 19) := by
      rw [show z.link p = _ from State.offerFrame_link w p p _, if_pos rfl, hwl, s.digestHeard_link, if_pos rfl]
      rfl
    have hexec := exec_digest_of hn
    rw [State.digestVoted_stale (.inr (.inr hm)) hl hlaw.2.1 (.inl hdec),
      State.serviceHears_quiet (s := w) (by rw [hwr, hs]; exact nofun),
      State.reentryHears_quiet (s := w) (by rw [hwr, hr]; exact nofun),
      State.repairHears_refused (s := w) (by rw [hwr, hv]) hph ha hmode] at hexec
    obtain ⟨hask, hnone⟩ := State.blockRefused_of (s := z) (by rw [hzr, hv]) ht hq
    rw [State.expectedVoter_congr hzq hzm, hzq] at hask
    rw [State.expectedVoter_congr hzq hzm] at hnone
    refine ⟨fun he htq hroom => ?_, fun h => ?_⟩
    · rw [hask he htq hroom, State.targetDigest_quiet (by rw [State.askBlock_rse, hzr, hr]; exact nofun)] at hexec
      have hup : (z.link q).up = true := by rw [hzq]; exact s.expectedVoter_up q he
      have hself := State.askBlock_self v hup (by rw [hzq]; exact hroom)
      refine ⟨_, hexec, ⟨?_, ?_⟩, ?_, State.eq_of_blocks ?_⟩
      · rw [State.askBlock_rse, hzr]
        unfold Repair.ask
        cases p <;> cases q <;> simp_all [Repair.tried]
      · rw [hself, hzq, hzr, show z.dgu = s.dgu by simp [z, w, State.release, State.digestHeard]]
      · rw [State.askBlock_link, if_neg (Ne.symm hq), hzp]
      · simp [State.askBlock, z, w, State.release, State.digestHeard]
    · have hiso : z.mdc.mode.isolable = true := by rw [hzm, hm]; rfl
      have hrse := z.isolateFor_rse .noSource hiso
      rw [hnone h, State.targetDigest_quiet (by rw [hrse]; exact nofun)] at hexec
      exact ⟨_, hexec, (z.isolateFor_mdc .noSource hiso).1, by rw [hrse], by rw [hrse]⟩
  · let x : PartnerSet := { mode, tableDigest := td, entries := es }
    let w : State := s.digestHeard p m mode
    let v' : Reentry := { v with source := some m }
    let y : State := w.setReentry (some v')
    have hexec := exec_digest_of hn
    rw [State.digestVoted_silent (.inr hl), State.serviceHears_quiet (s := w) (by rw [show w.rse.service = none from hs]; exact nofun),
      State.reentryHears_quiet (s := w) fun _ _ => .inr (.inr (decide_eq_true hmode)),
      State.repairHears_quiet (s := w) fun _ _ => .inr (.inr hmode), State.targetDigest_of (s := w) hv hph ha] at hexec
    dsimp only at hexec
    refine ⟨fun hd => ?_, fun hd => ?_⟩
    · rw [if_neg (by rw [hd]; exact nofun)] at hexec
      exact ⟨y, hexec, rfl, rfl, rfl⟩
    · rw [if_pos hd] at hexec
      refine ⟨fun hsame => ⟨fun hm => ?_, fun hm n hj => ?_⟩, fun hdiff hm => ?_⟩
      · rw [if_pos ((State.mirrors_iff y x).2 hsame)] at hexec
        exact ⟨_, hexec, State.mirrorAgrees_verify (s := y) hm⟩
      · rw [if_pos ((State.mirrors_iff y x).2 hsame), State.mirrorAgrees_ready (s := y) hm] at hexec
        obtain ⟨hjoin, hmissed, hwait⟩ := State.tryJoin_of (s := y) (p := p) (m := m) (v := v') hj
        refine ⟨fun he => ?_, fun h1 h2 => ?_, fun h2 => ?_⟩
        · rw [hjoin he] at hexec
          obtain ⟨hmdc, hvtu, hrse, hend, hchg, hrole, htx, hmove⟩ := State.joinNow_joined (s := y) (p := p) hm n
          refine ⟨_, hexec, hmdc, hvtu, hrse, hend, hchg, hrole, htx.trans ?_, hmove⟩
          rw [show y.link p = _ from s.digestHeard_link p p m mode, if_pos rfl]
          rfl
        · rw [hmissed h1 h2] at hexec
          refine ⟨_, hexec, rfl, rfl, ?_⟩
          unfold FlagSet State.joinMissed
          rw [State.fire_flag]
          simp
        · rw [hwait h2] at hexec
          exact ⟨y, hexec, rfl, rfl, fun ev => by simp [FlagSet, y, w, State.setReentry, State.setRse, State.digestHeard]⟩
      · rw [if_neg fun h => not_mirrored hdiff ((State.mirrors_iff y x).1 h), State.mirrorDiffers_of (s := y) hm] at hexec
        have hiso : y.mdc.mode.isolable = true := by
          show s.mdc.mode.isolable = true
          obtain h | h := hm <;> (rw [h]; rfl)
        refine ⟨_, hexec, (y.isolateFor_mdc .mirrorMismatch hiso).1, by rw [y.isolateFor_rse .mirrorMismatch hiso], ?_⟩
        rw [y.isolateFor_link .mirrorMismatch hiso]
        subst ha
        refine (y.servicesOver_reentry _ true v' rfl hs hrp).trans ?_
        rw [show y.link v'.asked = _ from s.digestHeard_link v.asked v.asked m mode, if_pos rfl]
        rfl

end Sys2Proof.Machine
end

section
/-! Audit words at their records (R60, R61), the walks at a region's end (R79, R81), and an occasion to choose a move within a
group (R45, R46), for the ends of patrol reads. -/

namespace Sys2Proof.Machine

variable {r s t x y z : State} {i j : Fin 32} {w : Nat} {v : Word}

/-! ### The accumulator -/

/-- A record with the term of an audit word added. -/
def DigestRecord.added (d : DigestRecord) (w : Nat) (v : Word) : DigestRecord :=
  { d with acc := (d.acc + v.toNat * (w + 1)) % (2 ^ 61 - 1), pointer := w + 1 }

/-- A record whose audit has ended at its region's last word. -/
def DigestRecord.ended (d : DigestRecord) (w : Nat) (v : Word) : DigestRecord :=
  { d.added w v with running := false, digest := if d.valid then d.digest else (d.added w v).acc, valid := true }

theorem State.handAudit_record (s : State) (i j : Fin 32) (w : Nat) (v : Word) : (s.handAudit i w v).record j =
    if j = i then (s.record i).auditWord (s.regionWords i) w v else s.record j := State.updateRecord_record ..

theorem DigestRecord.takes_of {d : DigestRecord} (hr : d.running = true) (hp : d.pointer = w) : d.takes w = true := by
  unfold DigestRecord.takes
  simp [hr, hp]

/-- A word before the region's last one. -/
theorem DigestRecord.auditWord_mid {d : DigestRecord} {n : Nat} (hr : d.running = true) (hp : d.pointer = w) (hn : w + 1 < n) :
    d.auditWord n w v = d.added w v ∧ d.auditAnswer n w v = .taken := by
  have ht := DigestRecord.takes_of hr hp
  subst hp
  unfold DigestRecord.auditWord DigestRecord.auditAnswer
  rw [ht, if_pos rfl, if_pos rfl, if_neg (by omega), if_neg (by omega)]
  exact ⟨rfl, rfl⟩

/-- The region's last word. -/
theorem DigestRecord.auditWord_last {d : DigestRecord} {n : Nat} (hr : d.running = true) (hp : d.pointer = w) (hn : w + 1 = n) :
    d.auditWord n w v = d.ended w v ∧ d.auditAnswer n w v =
      if d.valid then (if (d.added w v).acc = d.digest then .matched else .drift) else .established := by
  have ht := DigestRecord.takes_of hr hp
  subst hp
  unfold DigestRecord.auditWord DigestRecord.auditAnswer
  rw [ht, if_pos rfl, if_pos rfl, if_pos hn, if_pos hn]
  exact ⟨rfl, rfl⟩

theorem DigestRecord.ended_valid {d : DigestRecord} (h : d.valid = true) :
    (d.ended w v).valid = true ∧ (d.ended w v).digest = d.digest := by
  unfold DigestRecord.ended
  rw [h]
  exact ⟨rfl, rfl⟩

theorem DigestsStand.handAudit_last (hr : (s.record i).running = true) (hp : (s.record i).pointer = w)
    (hn : w + 1 = s.regionWords i) (hv : (s.record i).valid = true) : DigestsStand s (s.handAudit i w v) := by
  intro j
  rw [State.handAudit_record]
  split
  · rename_i hj
    rw [(DigestRecord.auditWord_last hr hp hn).1, hj, (DigestRecord.ended_valid hv).1, (DigestRecord.ended_valid hv).2, hv]
    exact ⟨rfl, rfl⟩
  · exact ⟨rfl, rfl⟩

theorem nextRegion_lt {rs : List (Fin 32)} (h : nextRegion rs i = some j) : i < j := by
  unfold nextRegion at h
  simpa using List.find?_some h

/-! ### The kind of pass -/

theorem State.skip_kind (s : State) : s.skip.ptl.kind = s.ptl.kind := State.skipListed_kind _ s

/-- A suspended pass that goes on is a SCRUB pass, and a SCRUB pass stays one. -/
theorem State.resumeScrub_scrub (h : s.ptl.kind = .scrub ∨ s.ptl.suspended ≠ none) : s.resumeScrub.ptl.kind = .scrub := by
  unfold State.resumeScrub
  split
  · rename_i hn
    exact h.resolve_right fun hs => hs hn
  · dsimp only
    split
    · split
      · rw [State.skip_kind, State.enterScrub_ptl]
        rfl
      · rw [State.skip_kind]
        rfl
    · rfl

/-- An isolation in REPAIR during a repair audit: the suspended pass goes on. -/
theorem State.isolateFor_kind (s : State) (c : Cause) (hm : s.mdc.mode = .repair) (hk : s.ptl.kind = .repairAudit)
    (hs : s.ptl.suspended ≠ none) : (s.isolateFor c).ptl.kind = .scrub := by
  have hiso : s.mdc.mode.isolable = true := by rw [hm]; rfl
  have hoptl : (s.isolatedOver c).ptl = s.ptl := by simp
  rw [(s.isolateFor_patrol c hiso).1, State.patrolIsolated_resumes _ _ (.inr (.inr (.inl hm))) (by rw [hoptl]; exact hk)]
  refine State.resumeScrub_scrub (.inr ?_)
  rw [(State.stopAuditHere_frame _).2.2.2.2.2.2.2.2.1]
  show (s.isolatedOver c).ptl.suspended ≠ none
  rw [hoptl]
  exact hs

/-- A repair audit that fails (R158). -/
theorem State.repairFailed_resumed (hm : s.mdc.mode = .repair) (hk : s.ptl.kind = .repairAudit) (hs : s.ptl.suspended ≠ none) :
    (s.repairFailed.resumeScrub).mdc = { mode := .isolated, chen := false, cause := .repairFailed } ∧
      (s.repairFailed.resumeScrub).rse.repair = none ∧ (s.repairFailed.resumeScrub).ptl.kind = .scrub := by
  have hiso : s.mdc.mode.isolable = true := by rw [hm]; rfl
  have hmdc := (s.isolateFor_mdc .repairFailed hiso).1
  have hrse := s.isolateFor_rse .repairFailed hiso
  unfold State.repairFailed
  refine ⟨by simpa using hmdc, by simp [hrse], State.resumeScrub_scrub (.inl (s.isolateFor_kind _ hm hk hs))⟩

/-! ### An occasion to choose a move before a group leaves the port -/

/-- What follows the choice leaves the row table, the map and what has fired. -/
theorem moveChosen_atEnd {g : Group} (hk : GroupKept s z) (hr : z.ret = s.ret) (hs : z.srm = s.srm) (hn : RowTableLaw s)
    (hw : ¬ MoveWaits s) (hp : z.msq.port = some g) (hg : ∀ a, g.op ≠ .moveCopy a) (hxs : x.srm = z.chooseMove.srm)
    (hxr : x.ret = z.chooseMove.ret) (ha : Aftermath z.chooseMove x) :
    MoveChosen s.srm s.ret.entries (MovePermitted s z.mdc.mode) False x.endGroup := by
  have hwait : z.srm.startWaiting = none := by
    rw [hs]
    unfold MoveWaits at hw
    simpa using hw
  have hc := z.chooseMove_atEnd g (by rw [hr]; exact hn.2) hwait hp hg
  obtain ⟨hsrm, hret⟩ := State.endGroup_rows x z.chooseMove hxs hxr
  rw [hs, hr] at hc
  refine hc.congr (hk.movePermitted hs _).symm hsrm (by rw [hret]) fun hf => ?_
  refine ha.endGroup.flags _ ?_
  have he : z.chooseMove.endGroup.evu = z.chooseMove.evu := by simp
  unfold FlagSet at hf ⊢
  rwa [he] at hf

/-! ### The change into SYNC (R77, R120) -/

theorem State.requestMode_sync (s : State) : s.requestMode .sync = if s.mdc.mode.leadsTo .sync then
    ((((s.setMode .sync).voteSync).fire .modeChanged).startScrub).chooseMove else s := rfl

theorem State.validateCleared_record (s : State) (j : Fin 32) : s.validateCleared.record j =
    if s.isDigestRegion j then { s.record j with valid := true, digest := 0, running := false } else s.record j := by
  unfold State.validateCleared State.record
  simp

theorem State.startScrub_timer (s : State) : s.startScrub.ptl.timer = some 0 := by
  have hto (k : State) (i : Fin 32) (w : Nat) (h : k.ptl.timer = some 0) : (k.scrubTo i w).ptl.timer = some 0 := by
    unfold State.scrubTo State.nextScrubRegion
    split
    · exact h
    · split
      · exact h
      · unfold State.completePass
        rw [State.beginPass_ptl]
        rfl
  have hskip (n : Nat) (k : State) (h : k.ptl.timer = some 0) : (State.skipListed n k).ptl.timer = some 0 := by
    induction n generalizing k with
    | zero => exact h
    | succ n ih =>
      unfold State.skipListed
      split
      · split
        · exact ih _ (hto _ _ _ h)
        · exact h
      · exact h
  refine hskip _ _ ?_
  rw [State.beginPass_ptl]
  rfl

end Sys2Proof.Machine
end

section
/-! The ends of audit reads and clear writes (O47). -/

namespace Sys2Proof.Machine

variable {s t x y : State} {g : Group} {m : CellSample} {i j : Fin 32} {w a : Nat} {v : Word} {o : ReadOutcome}

/-! ### The two commands -/

theorem exec_auditReadEnd_of (m : CellSample) (hp : s.msq.port = some g) (ho : g.op = .auditRead i w a) :
    exec (.auditReadEnd m) s = .next (s.auditReadEnd g i w m) := by
  simp only [exec, execAuditReadEnd, hp, ho]

theorem exec_clearWriteEnd_of (hp : s.msq.port = some g) (ho : g.op = .clearWrite i w a) :
    exec .clearWriteEnd s = .next (s.clearWriteEnd g i w) := by
  simp only [exec, execClearWriteEnd, hp, ho]

/-! ### What PTL makes of an audit word -/

theorem State.auditEnd_taken (hu : o ≠ .uncorrectable) (hk : s.ptl.kind = .verifyAudit ∨ s.ptl.kind = .repairAudit)
    (hr : (s.record i).running = true) (hp : (s.record i).pointer = w) (hn : w + 1 < s.regionWords i) :
    s.auditEnd i w o v = (s.handAudit i w v).auditOn i w := by
  have ha : s.auditAnswer i w v = .taken := (DigestRecord.auditWord_mid hr hp hn).2
  unfold State.auditEnd
  dsimp only
  rw [if_neg hu, ha]
  obtain h | h := hk <;> rw [h]
  · rw [if_pos rfl]
    rfl
  · rw [if_neg nofun, if_pos rfl]
    rfl

/-- The region's last word in the VERIFY audit. -/
theorem State.auditEnd_established (hu : o ≠ .uncorrectable) (hk : s.ptl.kind = .verifyAudit)
    (hr : (s.record i).running = true) (hp : (s.record i).pointer = w) (hn : w + 1 = s.regionWords i)
    (hv : (s.record i).valid = false) : s.auditEnd i w o v = (s.handAudit i w v).nextVerify i := by
  have ha : s.auditAnswer i w v = .established := by
    refine (DigestRecord.auditWord_last hr hp hn).2.trans ?_
    rw [hv]
    rfl
  unfold State.auditEnd
  dsimp only
  rw [if_neg hu, ha, if_pos hk]
  rfl

/-- The region's last word in a repair audit. -/
theorem State.auditEnd_repair (hu : o ≠ .uncorrectable) (hk : s.ptl.kind = .repairAudit)
    (hr : (s.record i).running = true) (hp : (s.record i).pointer = w) (hn : w + 1 = s.regionWords i)
    (hv : (s.record i).valid = true) : s.auditEnd i w o v =
      if (((s.record i).added w v).acc = (s.record i).digest) then (s.handAudit i w v).nextRepairAudit i
      else (((s.handAudit i w v).fire .digestDrift).repairFailed).resumeScrub := by
  have ha : s.auditAnswer i w v = if ((s.record i).added w v).acc = (s.record i).digest then .matched else .drift := by
    refine (DigestRecord.auditWord_last hr hp hn).2.trans ?_
    rw [hv, if_pos rfl]
  unfold State.auditEnd
  dsimp only
  rw [if_neg hu, ha, if_neg (by rw [hk]; exact nofun), if_pos hk]
  split <;> rfl

/-- The word of an audit read at its owner. -/
def State.auditTaken (s : State) (g : Group) (i : Fin 32) (w : Nat) (m : CellSample) : State :=
  if (s.readActed g m).groupLive then (s.readActed g m).auditEnd i w (readResult (found s g m)).1 (readResult (found s g m)).2
  else (s.readActed g m).strayAudit g i w (readResult (found s g m)).1 (readResult (found s g m)).2

theorem State.auditReadEnd_eq (s : State) (g : Group) (i : Fin 32) (w : Nat) (m : CellSample) :
    s.auditReadEnd g i w m = (s.auditTaken g i w m).endGroup := rfl

/-- An uncorrectable word stops the audit. -/
theorem State.auditTaken_uncorrectable (h : wrongBits (found s g m).flips = 2) : s.auditTaken g i w m =
    if (s.readActed g m).groupLive then ((s.readActed g m).updateRecord i DigestRecord.auditStop).auditOn i w
    else s.readActed g m := by
  unfold State.auditTaken
  rw [readResult_uncorrectable _ h]
  unfold State.auditEnd State.strayAudit
  split
  · exact if_pos rfl
  · exact if_neg (by simp)

theorem State.auditTaken_stopped (h : wrongBits (found s g m).flips = 2) :
    (s.auditTaken g i w m).mdc = (s.readActed g m).mdc ∧ (s.auditTaken g i w m).rse = (s.readActed g m).rse ∧
      Aftermath (s.readActed g m) (s.auditTaken g i w m) := by
  rw [State.auditTaken_uncorrectable h]
  split
  · exact ⟨rfl, rfl, ((Aftermath.refl _).auditStop i).setPtl _⟩
  · exact ⟨rfl, rfl, .refl _⟩

/-- A clean or corrected word that PTL waits for. -/
theorem State.auditTaken_word (h : wrongBits (found s g m).flips ≤ 1) (hp : s.msq.port = some g) (hl : g.live = true) :
    ∃ o, o ≠ ReadOutcome.uncorrectable ∧
      s.auditTaken g i w m = (s.readActed g m).auditEnd i w o (found s g m).data := by
  obtain ⟨ho, hd⟩ := readResult_of_le _ h
  refine ⟨_, ho, ?_⟩
  unfold State.auditTaken
  rw [State.readActed_live h hp, if_pos hl, hd]

/-- A word within the region: what stands when the group has left the port. -/
theorem State.auditTaken_blocks (y : State) (i : Fin 32) (w : Nat) (v : Word) (hr : (y.record i).running = true)
    (hp : (y.record i).pointer = w) (hn : w + 1 < y.regionWords i) :
    let x := (y.handAudit i w v).auditOn i w
    x.record i = (y.record i).added w v ∧ (∀ j, j ≠ i → x.record j = y.record j) ∧
      x = { y with
        ptl := { y.ptl with place := some { region := i, word := w + 1 } }, dgu := { y.dgu with records := x.dgu.records } } := by
  have hrec (j : Fin 32) : ((y.handAudit i w v).auditOn i w).record j = if j = i then (y.record i).added w v else y.record j := by
    rw [← (DigestRecord.auditWord_mid hr hp hn).1]
    exact y.handAudit_record i j w v
  exact ⟨(hrec i).trans (if_pos rfl), fun j hj => (hrec j).trans (if_neg hj), rfl⟩

/-! ### The VERIFY audit goes on or completes (R80, R144) -/

theorem State.established_walk (y : State) (i : Fin 32) (w : Nat) (v : Word) (hr : (y.record i).running = true)
    (hp : (y.record i).pointer = w) (hn : w + 1 = y.regionWords i) (hv : (y.record i).valid = false) :
    let x := (y.handAudit i w v).nextVerify i
    x.mdc = y.mdc ∧ (x.record i).valid = true ∧ (x.record i).running = false ∧
      (x.record i).digest = ((y.record i).added w v).acc ∧
      (∀ j, nextRegion y.digestRegions i = some j → x.ptl.place = some { region := j, word := 0 } ∧ x.rse = y.rse ∧
        x.record j = { y.record j with running := true, acc := 0, pointer := 0 }) ∧
      (nextRegion y.digestRegions i = none → x.ptl.kind = .none ∧ x.ptl.place = none ∧
        ∀ v', y.rse.reentry = some v' → x.rse = { y.rse with reentry := some { v' with auditsDone := true } }) := by
  let z : State := y.handAudit i w v
  have hrec (j : Fin 32) : z.record j = if j = i then (y.record i).ended w v else y.record j := by
    rw [← (DigestRecord.auditWord_last hr hp hn).1]
    exact y.handAudit_record i j w v
  have hended : ((y.record i).ended w v).valid = true ∧ ((y.record i).ended w v).running = false ∧
      ((y.record i).ended w v).digest = ((y.record i).added w v).acc := by
    unfold DigestRecord.ended
    rw [hv]
    exact ⟨rfl, rfl, rfl⟩
  dsimp only
  cases hnext : nextRegion y.digestRegions i with
  | some j =>
    have hx : z.nextVerify i = z.enterAudit j := by
      unfold State.nextVerify
      rw [show z.digestRegions = y.digestRegions from rfl, hnext]
    have hij : i ≠ j := (nextRegion_lt hnext).ne
    have hxi : (z.enterAudit j).record i = (y.record i).ended w v := by
      rw [State.enterAudit_record, if_neg hij, hrec, if_pos rfl]
    have hxj : (z.enterAudit j).record j = { y.record j with running := true, acc := 0, pointer := 0 } := by
      rw [State.enterAudit_record, if_pos rfl, hrec, if_neg hij.symm]
    rw [hx, hxi]
    refine ⟨rfl, hended.1, hended.2.1, hended.2.2, fun k hk => ?_, nofun⟩
    obtain rfl := Option.some.inj hk
    exact ⟨rfl, rfl, hxj⟩
  | none =>
    have hx : z.nextVerify i = (z.setPtl Ptl.initial).setReentry (z.rse.reentry.map fun v => { v with auditsDone := true }) := by
      unfold State.nextVerify
      rw [show z.digestRegions = y.digestRegions from rfl, hnext]
    have hxi : (z.nextVerify i).record i = (y.record i).ended w v := by
      rw [hx]
      exact (hrec i).trans (if_pos rfl)
    rw [hxi]
    refine ⟨by rw [hx]; rfl, hended.1, hended.2.1, hended.2.2, nofun, fun _ => ⟨by rw [hx]; rfl, by rw [hx]; rfl, fun v' hv' => ?_⟩⟩
    rw [hx]
    show { y.rse with reentry := y.rse.reentry.map fun v' : Reentry => { v' with auditsDone := true } } = _
    rw [hv']
    rfl

/-! ### A repair audit goes on, succeeds or fails (R81, R158) -/

theorem State.repairSucceeded_walk (hm : s.mdc.mode = .repair) (hs : s.ptl.suspended ≠ none) :
    let x := s.repairSucceeded.resumeScrub
    let z := (s.setMode .run).fire .modeChanged
    x.mdc = { s.mdc with mode := .run, chen := true } ∧ x.rse = { s.rse with repair := none } ∧ FlagSet x .repairDone ∧
      FlagSet x .modeChanged ∧ x.ptl.kind = .scrub ∧ DigestsStand s x ∧ x.srm = z.chooseMove.srm ∧
      x.ret = z.chooseMove.ret ∧ Aftermath z.chooseMove x := by
  let z : State := (s.setMode .run).fire .modeChanged
  let u : State := z.chooseMove.setRepair none
  have hsucc : s.repairSucceeded = u.fire .repairDone := by
    unfold State.repairSucceeded
    rw [State.requestMode_run, if_pos (by rw [hm]; rfl)]
  have haft : Aftermath z.chooseMove (u.fire .repairDone).resumeScrub := (((Aftermath.refl _).setRse _).fire _).resumeScrub
  have hdone : FlagSet (u.fire .repairDone) .repairDone := by
    unfold FlagSet
    rw [State.fire_flag]
    simp
  have hchanged : FlagSet z .modeChanged := by
    unfold FlagSet
    rw [State.fire_flag]
    simp
  have hdig : DigestsStand s (u.fire .repairDone) := (DigestsStand.refl s).of_dgu (by simp [u, z])
  dsimp only
  rw [hsucc]
  refine ⟨?_, ?_, (Aftermath.resumeScrub (.refl _)).flags _ hdone, haft.flags _ ((Aftermath.refl z).chooseMove.flags _ hchanged),
    State.resumeScrub_scrub (.inr ?_), hdig.resumeScrub, ?_, ?_, haft⟩
  · have hmdc : z.chooseMove.mdc = { s.mdc with mode := .run, chen := true } := (State.chooseMove_frame z).2.2.2.2.2.2.2.2.2.1
    rw [← hmdc]
    exact (State.resumeScrub_frame _).2.2.2.2.2.2.2.2.2.2.1
  · have hrse : z.chooseMove.rse = s.rse := (State.chooseMove_frame z).2.2.2.2.2.2.2.2.2.2.1
    rw [← hrse]
    exact (State.resumeScrub_frame _).2.2.2.2.2.2.2.2.2.2.2.1
  · simpa [u, z] using hs
  · exact (State.resumeScrub_frame _).2.2.2.2.2.2.1
  · exact (State.resumeScrub_frame _).2.2.2.2.2.1

/-- The region matches, and the walk comes to the next named one. -/
theorem State.matched_next (y : State) (i : Fin 32) (w : Nat) (v : Word) (hj : nextRegion y.ptl.auditList i = some j) : (y.handAudit i w v).nextRepairAudit i = (y.handAudit i w v).enterRepairAudit j ∧
      (y.handAudit i w v).record j = y.record j := by
  have hne : j ≠ i := (nextRegion_lt hj).ne'
  refine ⟨?_, (y.handAudit_record i j w v).trans (if_neg hne)⟩
  unfold State.nextRepairAudit
  rw [show (y.handAudit i w v).ptl = y.ptl from rfl, hj]

/-! ### A word of a CONSTANT region in a repair audit (R82, R158) -/

theorem State.abandonRiding_suspended {sp : Place} {ride : Bool} (hk : s.ptl.kind = .repairAudit)
    (hs : s.ptl.suspended = some (some sp, ride)) (i : Fin 32) :
    (∃ ride', (s.abandonRiding i).ptl = { s.ptl with suspended := some (some sp, ride') }) ∧
      ∀ j, (s.abandonRiding i).record j = s.record j ∨ (s.abandonRiding i).record j = { s.record j with running := false } := by
  have hself : s.ptl = { s.ptl with suspended := some (some sp, ride) } := by rw [← hs]
  unfold State.abandonRiding
  rw [hk, hs]
  dsimp only
  split
  · rename_i he
    cases he
    split
    · refine ⟨⟨false, rfl⟩, fun j => ?_⟩
      have hrec : ((s.updateRecord i DigestRecord.auditStop).setPtl { s.ptl with suspended := some (some sp, false) }).record j =
          if j = i then (s.record i).auditStop else s.record j := State.updateRecord_record ..
      rw [hrec]
      split
      · rename_i hj
        rw [hj]
        exact .inr rfl
      · exact .inl rfl
    · exact ⟨⟨true, hself⟩, fun _ => .inl rfl⟩
  · exact ⟨⟨ride, hself⟩, fun _ => .inl rfl⟩

/-- A repair audit stops where a block joins the list, before a partner is asked for the block. -/
def State.auditStopped (s : State) (i : Fin 32) : State := ((s.abandonRiding i).forget WordOp.ofS).stopAuditHere

theorem State.blockJoined_audit (hk : s.ptl.kind = .repairAudit) (i : Fin 32) :
    s.blockJoined i = ((s.auditStopped i).askFirst).resumeScrub := by
  unfold State.blockJoined
  dsimp only
  rw [(s.abandonRiding_ptl i).1, if_pos hk]
  rfl

@[simp] theorem State.auditStopped_frame (s : State) (i : Fin 32) : (s.auditStopped i).chanId = s.chanId ∧
    (s.auditStopped i).rgt = s.rgt ∧ (s.auditStopped i).dgu.tableDigest = s.dgu.tableDigest ∧
    (s.auditStopped i).lkc = s.lkc ∧ (s.auditStopped i).mdc = s.mdc ∧ (s.auditStopped i).rse = s.rse ∧
    (s.auditStopped i).evu = s.evu := by
  unfold State.auditStopped
  simp

theorem State.auditStopped_walk {sp here : Place} {ride : Bool} (hk : s.ptl.kind = .repairAudit)
    (hs : s.ptl.suspended = some (some sp, ride)) (hh : s.ptl.place = some here) (i : Fin 32) :
    (∃ ride', (s.auditStopped i).ptl = { s.ptl with suspended := some (some sp, ride') }) ∧
      (s.auditStopped i).record here.region = { s.record here.region with running := false } := by
  obtain ⟨⟨ride', hptl⟩, hrec⟩ := State.abandonRiding_suspended hk hs i
  refine ⟨⟨ride', by unfold State.auditStopped; simpa using hptl⟩, ?_⟩
  have hplace : ((s.abandonRiding i).forget WordOp.ofS).ptl.place = some here := by
    show (s.abandonRiding i).ptl.place = _
    rw [hptl]
    exact hh
  have hforget : ((s.abandonRiding i).forget WordOp.ofS).record = (s.abandonRiding i).record := rfl
  unfold State.auditStopped
  rw [State.stopAuditHere_record, hplace, Option.map_some, if_pos rfl, hforget]
  obtain h | h := hrec here.region <;> rw [h]

theorem State.auditStopped_dead (i : Fin 32) (hp : s.msq.port = some g) (ho : g.op.ofS = true) :
    (s.auditStopped i).groupLive = false := by
  have hport : (s.auditStopped i).msq.port = some { g with live := false } := by
    unfold State.auditStopped
    rw [(State.stopAuditHere_frame _).2.2.2.2.1]
    show ((s.abandonRiding i).msq.port.map fun g => if WordOp.ofS g.op then { g with live := false } else g) = _
    rw [(State.abandonRiding_frame s i).2.2.2.2.1, hp, Option.map_some, if_pos ho]
  unfold State.groupLive
  rw [hport]
  rfl

/-- The pass goes on at a word of a block that is not listed. -/
theorem State.resumeScrub_of_free {sp : Place} {ride : Bool} (hs : s.ptl.suspended = some (some sp, ride)) (hw : sp.word ≠ 0)
    (hb : blockOf (s.wordAddress sp.region sp.word) ∉ s.rse.repairList) :
    s.resumeScrub = s.setPtl (s.ptl.resumed (some sp) ride) := by
  unfold State.resumeScrub
  rw [hs]
  dsimp only
  rw [if_neg hw]
  exact State.skip_of_free (pl := sp) rfl hb

/-- Without an expected voter the search for a partner isolates the channel (R151). -/
theorem State.seekBlock_none {v : Repair} (k : Nat) (hv : s.rse.repair = some v) (hn : ∀ p, s.expectedVoter p = false) :
    State.seekBlock (k + 1) s = s.isolateFor .noSource := by
  have hc : s.repairCandidate v = none := by
    cases hc : s.repairCandidate v with
    | none => rfl
    | some p =>
      have := (s.repairCandidate_some v p hc).1
      rw [hn] at this
      cases this
  unfold State.seekBlock
  rw [hv]
  dsimp only
  rw [hc]

theorem State.askFirst_of {v : Repair} (hv : s.rse.repair = some v) :
    s.askFirst = State.seekBlock 3 (s.setRepair (some v.fresh)) := by
  unfold State.askFirst
  rw [hv]
  rfl

/-- The expected voters follow the ports, the mode and the identity. -/
theorem FirstVoter.congr {p : Port} (h : FirstVoter s p) (hl : t.lkc = s.lkc) (hm : t.mdc = s.mdc) (hc : t.chanId = s.chanId) :
    FirstVoter t p := by
  have hv (q : Port) : t.expectedVoter q = s.expectedVoter q :=
    State.expectedVoter_congr (by unfold State.link; rw [hl]) hm
  have hid (q : Port) : t.partnerId q = s.partnerId q := by
    cases q <;> (unfold State.partnerId; rw [hc])
  unfold FirstVoter at h ⊢
  simp only [hv, hid]
  exact h

/-- The voter of the lower identity is asked for the block, and the suspended pass goes on. -/
theorem State.blockJoined_asked {sp here : Place} {ride : Bool} {v : Repair} {p : Port} (i : Fin 32)
    (hk : s.ptl.kind = .repairAudit) (hs : s.ptl.suspended = some (some sp, ride)) (hh : s.ptl.place = some here)
    (hw : sp.word ≠ 0) (hb : blockOf (s.wordAddress sp.region sp.word) ∉ s.rse.repairList) (hv : s.rse.repair = some v)
    (hf : FirstVoter s p) (hl : (s.link p).tx.length < 16) :
    let t := s.blockJoined i
    t.mdc = s.mdc ∧ t.rse = { s.rse with repair := some (v.fresh.ask p) } ∧ t.link p = { s.link p with
      tx := (s.link p).tx ++ [.repairRequest s.dgu.tableDigest (s.rse.repairList.head?.getD 0)] } ∧
      (∀ q, q ≠ p → t.link q = s.link q) ∧ t.ptl.kind = .scrub ∧ t.ptl.place = some sp ∧ t.ptl.suspended = none ∧
      t.record here.region = { s.record here.region with running := false } ∧ t.groupLive = (s.auditStopped i).groupLive := by
  let u : State := (s.auditStopped i).setRepair (some v.fresh)
  let n : State := u.askBlock v.fresh p
  obtain ⟨⟨ride', hptl⟩, hrec⟩ := State.auditStopped_walk hk hs hh i
  have hur : u.rse = { s.rse with repair := some v.fresh } := by
    show { (s.auditStopped i).rse with repair := some v.fresh } = _
    simp
  have hul (q : Port) : u.link q = s.link q := by
    unfold State.link
    simp [u]
  have hfu : FirstVoter u p := hf.congr (by simp [u]) (by simp [u]) (by simp [u])
  have hseek : (s.auditStopped i).askFirst = n :=
    (State.askFirst_of (s := s.auditStopped i) (by simpa using hv)).trans
      (State.seekBlock_first u v.fresh p rfl (fun q => by cases q <;> rfl) hfu (by rw [hul]; exact hl))
  have hnr : n.rse = { s.rse with repair := some (v.fresh.ask p) } := by
    rw [show n.rse = _ from State.askBlock_rse u v.fresh p, hur]
  have hnp : n.ptl = { s.ptl with suspended := some (some sp, ride') } := by
    rw [← hptl]
    simp [n, u, State.askBlock]
  have hres : n.resumeScrub = n.setPtl (n.ptl.resumed (some sp) ride') := by
    refine State.resumeScrub_of_free (by rw [hnp]) hw ?_
    rw [hnr, show n.wordAddress = s.wordAddress from (State.sets_of_rgt (by simp [n, u, State.askBlock])).2.2.2.2.2]
    exact hb
  have hself := State.askBlock_self (s := u) v.fresh (p := p) (by rw [hul]; exact s.expectedVoter_up p hf.1) (by rw [hul]; exact hl)
  dsimp only
  rw [State.blockJoined_audit hk, hseek, hres]
  refine ⟨?_, hnr, ?_, fun q hq => ?_, rfl, rfl, rfl, ?_, ?_⟩
  · show n.mdc = _
    simp [n, u, State.askBlock]
  · refine hself.trans ?_
    rw [hul, hur, show u.dgu.tableDigest = s.dgu.tableDigest by simp [u]]
  · refine (State.askBlock_link u v.fresh p q).trans ?_
    rw [if_neg hq, hul]
  · have hdgu : (n.setPtl (n.ptl.resumed (some sp) ride')).dgu = (s.auditStopped i).dgu := by simp [n, u, State.askBlock]
    rw [State.record_of_dgu hdgu, hrec]
  · unfold State.groupLive
    simp [n, u, State.askBlock]

/-- With no expected voter the channel is isolated. -/
theorem State.blockJoined_alone {v : Repair} (i : Fin 32) (hk : s.ptl.kind = .repairAudit) (hm : s.mdc.mode = .repair)
    (hv : s.rse.repair = some v) (hn : ∀ p, s.expectedVoter p = false) : NoSourceLeft (s.blockJoined i) := by
  let u : State := (s.auditStopped i).setRepair (some v.fresh)
  have humdc : u.mdc = s.mdc := by simp [u]
  have hvoter (p : Port) : u.expectedVoter p = false := by
    rw [← hn p]
    exact State.expectedVoter_congr (by unfold State.link; simp [u]) humdc
  have hiso : u.mdc.mode.isolable = true := by rw [humdc, hm]; rfl
  have hseek : (s.auditStopped i).askFirst = u.isolateFor .noSource :=
    (State.askFirst_of (s := s.auditStopped i) (by simpa using hv)).trans (State.seekBlock_none 2 rfl hvoter)
  have hmdc := (u.isolateFor_mdc .noSource hiso).1
  have hrse := u.isolateFor_rse .noSource hiso
  unfold NoSourceLeft
  rw [State.blockJoined_audit hk, hseek]
  exact ⟨by simpa using hmdc, by simp [hrse], by simp [hrse]⟩

/-- The first block that joins the list in REPAIR. -/
theorem State.consequence_joins {pl : WordPlace} (hc : pl.cls = .constant) (hm : s.mdc.mode = .repair)
    (hl : s.rse.repairList = []) (a : Nat) :
    s.consequence pl a = (s.listBlock (a / 4096 * 4096)).blockJoined pl.region := by
  rw [(s.consequence_constant pl a hc).2.2 hm]
  unfold State.joinRepair
  rw [hl, if_neg (by simp), if_pos (by simp [Config.repairSize])]

/-! ### The CLEAR pass (R77, R78) -/

theorem State.requestMode_sync_of (hm : s.mdc.mode = .clearing) : s.requestMode .sync =
    ((((s.setMode .sync).voteSync).fire .modeChanged).startScrub).chooseMove := by
  rw [State.requestMode_sync, if_pos (by rw [hm]; rfl)]

theorem State.clearEnd_msq (s : State) (i : Fin 32) (w : Nat) : (s.clearEnd i w).msq = s.msq := by
  unfold State.clearEnd
  split
  · rfl
  · split
    · rfl
    · rw [State.requestMode_sync]
      split <;> simp

theorem State.clearEnd_on (h : w + 1 < s.regionWords i) : s.clearEnd i w = s.auditOn i w := if_pos h

theorem State.clearEnd_next (h : s.regionWords i ≤ w + 1) (hj : nextRegion s.validRegions i = some j) :
    s.clearEnd i w = s.setPtl { s.ptl with place := some { region := j, word := 0 } } := by
  unfold State.clearEnd
  rw [if_neg (by omega), hj]

/-- The part in SYNC, before SRM's occasion. -/
def State.cleared (s : State) : State := (((s.validateCleared.setMode .sync).voteSync).fire .modeChanged).startScrub

theorem State.clearEnd_last (h : s.regionWords i ≤ w + 1) (hn : nextRegion s.validRegions i = none)
    (hm : s.mdc.mode = .clearing) : s.clearEnd i w = s.cleared.chooseMove := by
  unfold State.clearEnd
  rw [if_neg (by omega), hn]
  exact State.requestMode_sync_of (s := s.validateCleared) (by simpa using hm)

theorem State.cleared_state (s : State) :
    (∀ j, s.isDigestRegion j = true → (s.cleared.record j).valid = true ∧ (s.cleared.record j).digest = 0) ∧
    s.cleared.mdc = { s.mdc with mode := .sync, chen := false } ∧
    s.cleared.vtu = { s.vtu with watchdog := some 0, unchecked := 0, syncCount := 0 } ∧
    s.cleared.ptl.kind = .scrub ∧ s.cleared.ptl.timer = some 0 ∧ FlagSet s.cleared .modeChanged ∧
    s.cleared.ret = s.ret ∧ s.cleared.srm = s.srm ∧ s.cleared.msq = s.msq := by
  let y : State := ((s.validateCleared.setMode .sync).voteSync).fire .modeChanged
  have hrec : y.record = s.validateCleared.record := State.record_of_dgu (by simp [y])
  have hflag : FlagSet y .modeChanged := by
    unfold FlagSet
    rw [State.fire_flag]
    simp
  refine ⟨fun j hj => ?_, ?_, ?_, State.startScrub_kind y, State.startScrub_timer y,
    (Aftermath.startScrub (.refl y)).flags _ hflag, by simp [State.cleared], by simp [State.cleared], by simp [State.cleared]⟩
  · obtain ⟨hv, hd⟩ := (DigestsStand.refl y).startScrub j
    rw [show s.cleared.record j = y.startScrub.record j from rfl, hv, hd, hrec, State.validateCleared_record, if_pos hj]
    exact ⟨rfl, rfl⟩
  · have : y.mdc = { s.mdc with mode := .sync, chen := false } := by simp [y, State.setMode]
    rw [← this]
    simp [State.cleared, y]
  · have : y.vtu = { s.vtu with watchdog := some 0, unchecked := 0, syncCount := 0 } := by
      simp [y, State.voteSync]
    rw [← this]
    simp [State.cleared, y]

/-- The end of a group whose owner has changed memory, the row table, the events, the pass and the digest records at most. -/
theorem State.endGroup_moved {p : Ptl} (hx : x = { s with
      mem := x.mem, srm := x.srm, ret := x.ret, evu := x.evu, ptl := p, dgu := { s.dgu with records := x.dgu.records } }) :
    x.endGroup = { s with
      mem := x.endGroup.mem, msq := { s.msq with port := none }, srm := x.endGroup.srm, ret := x.endGroup.ret
      evu := x.evu, ptl := p, dgu := { s.dgu with records := x.endGroup.dgu.records } } := by
  have hb : x.chanId = s.chanId ∧ x.msize = s.msize ∧ x.txi = s.txi ∧ x.rgt = s.rgt ∧ x.msq = s.msq ∧
      x.dgu = { s.dgu with records := x.dgu.records } ∧ x.ptl = p ∧ x.lkc = s.lkc ∧ x.vtu = s.vtu ∧ x.mdc = s.mdc ∧
      x.rse = s.rse ∧ x.cmi = s.cmi ∧ x.pending = s.pending := by
    rw [hx]
    exact ⟨rfl, rfl, rfl, rfl, rfl, rfl, rfl, rfl, rfl, rfl, rfl, rfl, rfl⟩
  obtain ⟨hchan, hmsize, htxi, hrgt, hmsq, hdgu, hptl, hlkc, hvtu, hmdc, hrse, hcmi, hpend⟩ := hb
  obtain ⟨h1, h2, h3, h4, h5, h6, h7, h8, h9, h10, h11, h12, -, h14⟩ := x.endGroup_frame
  exact State.eq_of_blocks ⟨h1.trans hchan, h2.trans hmsize, h3.trans htxi, h4.trans hrgt,
    by rw [x.endGroup_msq, hmsq], rfl, rfl, by rw [h5]; exact hdgu, h6.trans hptl, h7.trans hlkc, h8.trans hvtu,
    h9.trans hmdc, h10.trans hrse, h11, h12.trans hcmi, rfl, h14.trans hpend⟩

/-! ### The group's end, case by case -/

/-- A word within the region (R60), clean or corrected. -/
theorem State.auditReadEnd_taken (hf : wrongBits (found s g m).flips ≤ 1) (hp : s.msq.port = some g) (hl : g.live = true)
    (hk : s.ptl.kind = .verifyAudit ∨ s.ptl.kind = .repairAudit) (hr : (s.record i).running = true)
    (hptr : (s.record i).pointer = w) (hlt : w + 1 < s.regionWords i) : ∃ x : State, s.auditReadEnd g i w m = x.endGroup ∧
      x.mem = (s.readActed g m).mem ∧ x.srm = (s.readActed g m).srm ∧ x.ret = (s.readActed g m).ret ∧
      x.evu = (s.readActed g m).evu ∧ Aftermath (s.readActed g m) x ∧
      x.record i = (s.record i).added w (found s g m).data ∧ (∀ j, j ≠ i → x.record j = s.record j) ∧
      x = { s with
        mem := x.mem, srm := x.srm, ret := x.ret, evu := x.evu
        ptl := { s.ptl with place := some { region := i, word := w + 1 } }, dgu := { s.dgu with records := x.dgu.records } } := by
  let y : State := s.readActed g m
  obtain ⟨hchan, hmsize, htxi, hrgt, hmsq, hdgu, hptl, hlkc, hvtu, hmdc, hrse, hcmi, hpend⟩ := State.readActed_keeps hf
  obtain ⟨o, hu, htaken⟩ := State.auditTaken_word (i := i) (w := w) hf hp hl
  have hrec : y.record = s.record := State.record_of_dgu hdgu
  obtain ⟨-, -, -, -, hwords, -⟩ := State.sets_of_rgt hrgt
  have hyr : (y.record i).running = true := by rw [hrec, hr]
  have hyp : (y.record i).pointer = w := by rw [hrec, hptr]
  have hylt : w + 1 < y.regionWords i := by rw [hwords]; exact hlt
  obtain ⟨hi, hother, hx⟩ := State.auditTaken_blocks y i w (found s g m).data hyr hyp hylt
  rw [hrec] at hi hother
  refine ⟨(y.handAudit i w (found s g m).data).auditOn i w,
    congrArg State.endGroup (htaken.trans (State.auditEnd_taken hu (by rw [hptl]; exact hk) hyr hyp hylt)), rfl, rfl, rfl, rfl,
    ((Aftermath.refl y).updateRecord i _ fun ⟨_, _, hn⟩ => ?_).setPtl _, hi, hother, State.eq_of_blocks ?_⟩
  · rw [hyr] at hn
    cases hn
  · rw [hx]
    exact ⟨hchan, hmsize, htxi, hrgt, hmsq, rfl, rfl, by rw [show y.dgu = s.dgu from hdgu], by rw [show y.ptl = s.ptl from hptl],
      hlkc, hvtu, hmdc, hrse, rfl, hcmi, rfl, hpend⟩

/-- The region's last word in the VERIFY audit. -/
theorem State.auditReadEnd_established (hf : wrongBits (found s g m).flips ≤ 1) (hp : s.msq.port = some g) (hl : g.live = true)
    (hk : s.ptl.kind = .verifyAudit) (hr : (s.record i).running = true) (hptr : (s.record i).pointer = w)
    (hlast : w + 1 = s.regionWords i) (hvalid : (s.record i).valid = false) :
    let t := s.auditReadEnd g i w m
    t.mdc = s.mdc ∧ (t.record i).valid = true ∧ (t.record i).running = false ∧
      (t.record i).digest = ((s.record i).acc + (found s g m).data.toNat * (w + 1)) % (2 ^ 61 - 1) ∧
      (∀ j, nextRegion s.digestRegions i = some j → t.ptl.place = some { region := j, word := 0 } ∧
        t.rse = s.rse ∧ t.record j = { s.record j with running := true, acc := 0, pointer := 0 }) ∧
      (nextRegion s.digestRegions i = none → t.ptl.kind = .none ∧ t.ptl.place = none ∧
        ∀ v, s.rse.reentry = some v → t.rse = { s.rse with reentry := some { v with auditsDone := true } }) := by
  let y : State := s.readActed g m
  obtain ⟨-, -, -, hrgt, -, hdgu, hptl, -, -, hmdc, hrse, -⟩ := State.readActed_keeps hf
  obtain ⟨o, hu, htaken⟩ := State.auditTaken_word (i := i) (w := w) hf hp hl
  have hrec : y.record = s.record := State.record_of_dgu hdgu
  obtain ⟨-, hdig, -, -, hwords, -⟩ := State.sets_of_rgt hrgt
  have hyr : (y.record i).running = true := by rw [hrec, hr]
  have hyp : (y.record i).pointer = w := by rw [hrec, hptr]
  have hyn : w + 1 = y.regionWords i := by rw [hwords]; exact hlast
  have hyv : (y.record i).valid = false := by rw [hrec]; exact hvalid
  have hend := htaken.trans (State.auditEnd_established hu (hptl.symm ▸ hk) hyr hyp hyn hyv)
  obtain ⟨hxm, hxv, hxr, hxd, hnext, hdone⟩ := State.established_walk y i w (found s g m).data hyr hyp hyn hyv
  rw [hdig, hrec, hrse] at hnext
  rw [hdig, hrse] at hdone
  rw [hrec] at hxd
  let x : State := (y.handAudit i w (found s g m).data).nextVerify i
  have htrec : x.endGroup.record = x.record := State.record_of_dgu (by simp)
  have htptl : x.endGroup.ptl = x.ptl := by simp
  have htrse : x.endGroup.rse = x.rse := by simp
  have htmdc : x.endGroup.mdc = x.mdc := by simp
  dsimp only
  rw [s.auditReadEnd_eq, hend]
  show x.endGroup.mdc = _ ∧ (x.endGroup.record i).valid = _ ∧ (x.endGroup.record i).running = _ ∧
    (x.endGroup.record i).digest = _ ∧ (∀ j, _ → x.endGroup.ptl.place = _ ∧ x.endGroup.rse = _ ∧ x.endGroup.record j = _) ∧
    (_ → x.endGroup.ptl.kind = _ ∧ x.endGroup.ptl.place = _ ∧ ∀ v, _ → x.endGroup.rse = _)
  rw [htrec, htptl, htrse, htmdc]
  exact ⟨hxm.trans hmdc, hxv, hxr, hxd, hnext, hdone⟩

/-- The region's last word in a repair audit, at its owner: the part that the walk goes on from. -/
theorem State.auditReadEnd_judged (hf : wrongBits (found s g m).flips ≤ 1) (hp : s.msq.port = some g) (hl : g.live = true)
    (hk : s.ptl.kind = .repairAudit) (hr : (s.record i).running = true) (hptr : (s.record i).pointer = w)
    (hlast : w + 1 = s.regionWords i) (hvalid : (s.record i).valid = true) : ∃ z : State, s.auditReadEnd g i w m =
        (if ((s.record i).acc + (found s g m).data.toNat * (w + 1)) % (2 ^ 61 - 1) = (s.record i).digest then z.nextRepairAudit i
        else ((z.fire .digestDrift).repairFailed).resumeScrub).endGroup ∧
      z.mdc = s.mdc ∧ z.ptl = s.ptl ∧ z.rse = s.rse ∧ z.msq = s.msq ∧ z.srm = (s.readActed g m).srm ∧
      z.ret = (s.readActed g m).ret ∧ DigestsStand s z ∧ ∀ j, j ≠ i → z.record j = s.record j := by
  let y : State := s.readActed g m
  obtain ⟨-, -, -, hrgt, hmsq, hdgu, hptl, -, -, hmdc, hrse, -⟩ := State.readActed_keeps hf
  obtain ⟨o, hu, htaken⟩ := State.auditTaken_word (i := i) (w := w) hf hp hl
  have hrec : y.record = s.record := State.record_of_dgu hdgu
  obtain ⟨-, -, -, -, hwords, -⟩ := State.sets_of_rgt hrgt
  have hyr : (y.record i).running = true := by rw [hrec, hr]
  have hyp : (y.record i).pointer = w := by rw [hrec, hptr]
  have hyn : w + 1 = y.regionWords i := by rw [hwords]; exact hlast
  have hyv : (y.record i).valid = true := by rw [hrec]; exact hvalid
  have hend := htaken.trans (State.auditEnd_repair hu (hptl.symm ▸ hk) hyr hyp hyn hyv)
  have hacc : ((y.record i).added w (found s g m).data).acc =
      ((s.record i).acc + (found s g m).data.toNat * (w + 1)) % (2 ^ 61 - 1) := by rw [hrec]; rfl
  rw [hacc, hrec] at hend
  refine ⟨y.handAudit i w (found s g m).data, congrArg State.endGroup hend, hmdc, hptl, hrse, hmsq, rfl, rfl, ?_, fun j hj => ?_⟩
  · intro j
    rw [← hrec]
    exact DigestsStand.handAudit_last hyr hyp hyn hyv j
  · rw [State.handAudit_record, if_neg hj, hrec]

/-- A region of a repair audit that matches, and one that drifts (R81, R158). -/
theorem State.auditReadEnd_repair (h0 : wrongBits (found s g m).flips = 0) (hp : s.msq.port = some g)
    (ho : g.op = .auditRead i w a) (hl : g.live = true) (hk : s.ptl.kind = .repairAudit) (hr : (s.record i).running = true)
    (hptr : (s.record i).pointer = w) (hlast : w + 1 = s.regionWords i) (hm : s.mdc.mode = .repair)
    (hsus : s.ptl.suspended ≠ none) (hvalid : (s.record i).valid = true) :
    let t := s.auditReadEnd g i w m
    (((s.record i).acc + (found s g m).data.toNat * (w + 1)) % (2 ^ 61 - 1) = (s.record i).digest →
      (∀ j, nextRegion s.ptl.auditList i = some j → (s.record j).valid = true →
        t.ptl = { s.ptl with place := some { region := j, word := 0 } } ∧
        t.record j = { s.record j with running := true, acc := 0, pointer := 0 } ∧ t.mdc = s.mdc ∧ t.rse = s.rse) ∧
      (∀ j, nextRegion s.ptl.auditList i = some j → (s.record j).valid = false → t.rse.repair = none ∧ t.ptl.kind = .scrub ∧
        t.mdc = { mode := .isolated, chen := false, cause := .repairFailed }) ∧
      (nextRegion s.ptl.auditList i = none → t.mdc = { s.mdc with mode := .run, chen := true } ∧
        t.rse = { s.rse with repair := none } ∧ FlagSet t .repairDone ∧ FlagSet t .modeChanged ∧ t.ptl.kind = .scrub ∧
        (t.record i).digest = (s.record i).digest ∧
        (RowTableLaw s → ¬ MoveWaits s → MoveChosen s.srm s.ret.entries (MovePermitted s .run) False t))) ∧
    (((s.record i).acc + (found s g m).data.toNat * (w + 1)) % (2 ^ 61 - 1) ≠ (s.record i).digest →
      FlagSet t .digestDrift ∧ t.ptl.kind = .scrub ∧
        t.mdc = { mode := .isolated, chen := false, cause := .repairFailed } ∧ t.rse.repair = none) := by
  obtain ⟨hret, hsrm, -⟩ := State.readActed_quiet h0
  obtain ⟨z, hend, hzm, hzp, hzr, hzq, hzs, hzt, hdig, hzrec⟩ :=
    State.auditReadEnd_judged (i := i) (w := w) (by omega : wrongBits (found s g m).flips ≤ 1) hp hl hk hr hptr hlast hvalid
  have hzmode : z.mdc.mode = .repair := by rw [hzm, hm]
  have hzk : z.ptl.kind = .repairAudit := by rw [hzp, hk]
  have hzsus : z.ptl.suspended ≠ none := by rw [hzp]; exact hsus
  dsimp only
  rw [hend]
  refine ⟨fun heq => ?_, fun hne => ?_⟩
  · rw [if_pos heq]
    unfold State.nextRepairAudit
    rw [hzp]
    refine ⟨fun j hj hjv => ?_, fun j hj hjv => ?_, fun hn => ?_⟩
    · have hne : j ≠ i := (nextRegion_lt hj).ne'
      rw [hj]
      dsimp only
      rw [State.enterRepairAudit_valid (by rw [hzrec j hne]; exact hjv)]
      refine ⟨?_, ?_, by simpa using hzm, by simpa using hzr⟩
      · rw [(State.endGroup_frame _).2.2.2.2.2.1, ← hzp]
        rfl
      · rw [State.record_of_dgu (s := z.enterAudit j) (by simp), State.enterAudit_record, if_pos rfl, hzrec j hne]
    · have hne : j ≠ i := (nextRegion_lt hj).ne'
      obtain ⟨h1, h2, h3⟩ := State.repairFailed_resumed hzmode hzk hzsus
      rw [hj]
      dsimp only
      rw [State.enterRepairAudit_invalid (by rw [hzrec j hne]; exact hjv), show z.isolateFor .repairFailed = z.repairFailed from rfl]
      exact ⟨by simpa using h2, by simpa using h3, by simpa using h1⟩
    · obtain ⟨h1, h2, h3, h4, h5, h6, h7, h8, h9⟩ := State.repairSucceeded_walk hzmode hzsus
      rw [hn]
      dsimp only
      have htrec : z.repairSucceeded.resumeScrub.endGroup.record = z.repairSucceeded.resumeScrub.record :=
        State.record_of_dgu (by simp)
      refine ⟨?_, ?_, (Aftermath.refl _).endGroup.flags _ h3, (Aftermath.refl _).endGroup.flags _ h4,
        by simpa using h5, ?_, fun hrow hwait => ?_⟩
      · rw [(State.endGroup_frame _).2.2.2.2.2.2.2.2.1, h1, hzm]
      · rw [(State.endGroup_frame _).2.2.2.2.2.2.2.2.2.1, h2, hzr]
      · rw [htrec, (h6 i).2, (hdig i).2]
      · exact moveChosen_atEnd (z := (z.setMode .run).fire .modeChanged) (.of_msq hzq) (hzt.trans hret) (hzs.trans hsrm) hrow hwait
          (hzq.symm ▸ hp) (by rw [ho]; exact fun _ => nofun) h7 h8 h9
  · obtain ⟨h1, h2, h3⟩ := State.repairFailed_resumed (s := z.fire .digestDrift) hzmode hzk hzsus
    have hflag : FlagSet (z.fire .digestDrift) .digestDrift := by
      unfold FlagSet
      rw [State.fire_flag]
      simp
    rw [if_neg hne]
    exact ⟨((Aftermath.refl _).isolateFor _).resumeScrub.endGroup.flags _ hflag, by simpa using h3, by simpa using h1,
      by simpa using h2⟩

/-- An uncorrectable word that isolates the channel (R125). -/
theorem State.auditReadEnd_isolates {pl : WordPlace} (h2 : wrongBits (found s g m).flips = 2) (ho : g.op = .auditRead i w a)
    (hpl : g.place = some pl) (hm : s.mdc.mode = .verify ∧ pl.cls ≠ .nonvital ∨ s.mdc.mode = .repair ∧ pl.cls = .vital) :
    let t := s.auditReadEnd g i w m
    FlagSet t .memUncorrectable ∧ Captured s t .memory .s (some a) (.memory .read) ∧
      t.mdc = { mode := .isolated, chen := false, cause := .vitalDamage } ∧ t.rse.reentry = none ∧ t.rse.repair = none := by
  let n : State := s.readNoted g m
  have hnm : n.mdc = s.mdc := by simp [n]
  have hiso : n.mdc.mode.isolable = true := by
    rw [hnm]
    obtain ⟨h, -⟩ | ⟨h, -⟩ := hm <;> (rw [h]; rfl)
  have hacted : s.readActed g m = n.isolateFor .vitalDamage := by
    rw [State.readActed_placed h2 hpl]
    obtain ⟨h, hc⟩ | ⟨h, hc⟩ := hm
    · have hv : n.mdc.mode = .verify := by rw [hnm, h]
      cases hcls : pl.cls with
      | vital => exact (n.consequence_vital pl _ hcls (by simp [EventOnly, hcls, hv])).1
      | constant => exact ((n.consequence_constant pl _ hcls).1 (.inr (.inl hv))).1
      | nonvital => exact absurd hcls hc
    · exact (n.consequence_vital pl _ hc (by simp [EventOnly, hc, hnm, h])).1
  obtain ⟨hmdc, hrse, haft⟩ := State.auditTaken_stopped (i := i) (w := w) h2
  rw [hacted, (n.isolateFor_mdc .vitalDamage hiso).1] at hmdc
  rw [hacted, n.isolateFor_rse .vitalDamage hiso] at hrse
  obtain ⟨hflag, hcap⟩ := State.readActed_noted h2 haft.endGroup
  rw [ho] at hcap
  dsimp only
  rw [s.auditReadEnd_eq]
  exact ⟨hflag, hcap, by simpa using hmdc, by simp [hrse], by simp [hrse]⟩

/-- An uncorrectable word of a CONSTANT region in a repair audit (R82, R151, R158). -/
theorem State.auditReadEnd_joins {pl : WordPlace} {here sp : Place} {ride : Bool} {r : Repair} (hp : s.msq.port = some g)
    (ho : g.op = .auditRead i w a) (hpl : g.place = some pl) (hc : pl.cls = .constant) (h2 : wrongBits (found s g m).flips = 2)
    (hm : s.mdc.mode = .repair) (hk : s.ptl.kind = .repairAudit) (hh : s.ptl.place = some here)
    (hs : s.ptl.suspended = some (some sp, ride)) (hw : sp.word ≠ 0) (hli : s.rse.repairList = []) (hv : s.rse.repair = some r)
    (hb : s.wordAddress sp.region sp.word / 4096 * 4096 ≠ a / 4096 * 4096) :
    let t := s.auditReadEnd g i w m
    (∀ p, FirstVoter s p → (s.link p).tx.length < 16 → t.mdc = s.mdc ∧
      t.rse = { s.rse with
        repairList := [a / 4096 * 4096]
        repair := some
          { r with
            phase := .asking, asked := p, time := 0, written := [], triedA := p == .a, triedB := p == .b } } ∧
      t.link p = { s.link p with
        tx := (s.link p).tx ++ [.repairRequest s.dgu.tableDigest (a / 4096 * 4096)] } ∧
      (∀ q, q ≠ p → t.link q = s.link q) ∧ t.ptl.kind = .scrub ∧ t.ptl.place = some sp ∧ t.ptl.suspended = none ∧
      t.record here.region = { s.record here.region with running := false }) ∧
    ((∀ p, s.expectedVoter p = false) → NoSourceLeft t) := by
  let z : State := (s.readNoted g m).listBlock (a / 4096 * 4096)
  have hzm : z.mdc = s.mdc := by simp [z]
  have hzp : z.ptl = s.ptl := by simp [z]
  have hzr : z.rse = { s.rse with repairList := [a / 4096 * 4096] } := by
    show { (s.readNoted g m).rse with repairList := (s.readNoted g m).rse.repairList ++ [a / 4096 * 4096] } = _
    simp [hli]
  have hzl (p : Port) : z.link p = s.link p := s.readNoted_link g m p
  have hzk : z.ptl.kind = .repairAudit := by rw [hzp, hk]
  have hacted : s.readActed g m = z.blockJoined pl.region := by
    rw [State.readActed_placed h2 hpl, State.consequence_joins hc (by simpa using hm) (by simpa using hli), ho]
    rfl
  dsimp only
  refine ⟨fun p hf hroom => ?_, fun hn => ?_⟩
  · obtain ⟨h1, h2', h3, h4, h5, h6, h7, h8, h9⟩ := State.blockJoined_asked (s := z) (v := r) (p := p) pl.region hzk
      (by rw [hzp, hs]) (by rw [hzp, hh]) hw
      (by rw [hzr, show z.wordAddress = s.wordAddress from (State.sets_of_rgt (by simp [z])).2.2.2.2.2]; exact fun h => hb (List.mem_singleton.1 h))
      (by rw [hzr, hv]) (hf.congr (by simp [z]) hzm (by simp [z])) (by rw [hzl]; exact hroom)
    have hlive : (s.readActed g m).groupLive = false := by
      rw [hacted, h9]
      exact State.auditStopped_dead (g := g) _ (by simpa [z] using hp) (by rw [ho]; rfl)
    have htaken : s.auditTaken g i w m = z.blockJoined pl.region := by
      rw [State.auditTaken_uncorrectable h2, hlive, if_neg nofun, hacted]
    have htl (q : Port) : (z.blockJoined pl.region).endGroup.link q = (z.blockJoined pl.region).link q := by
      unfold State.link
      simp
    have htrec : (z.blockJoined pl.region).endGroup.record = (z.blockJoined pl.region).record := State.record_of_dgu (by simp)
    have htptl : (z.blockJoined pl.region).endGroup.ptl = (z.blockJoined pl.region).ptl := by simp
    rw [s.auditReadEnd_eq, htaken]
    refine ⟨by simpa using h1.trans hzm, ?_, ?_, fun q hq => ?_, by rw [htptl, h5], by rw [htptl, h6],
      by rw [htptl, h7], ?_⟩
    · rw [(State.endGroup_frame _).2.2.2.2.2.2.2.2.2.1, h2', hzr]
      rfl
    · rw [htl, h3, hzl, hzr, show z.dgu = s.dgu by simp [z]]
      rfl
    · rw [htl, h4 q hq, hzl]
    · rw [htrec, h8, State.record_of_dgu (s := s) (t := z) (by simp [z])]
  · obtain ⟨h1, h2', h3⟩ := State.blockJoined_alone (s := z) (v := r) pl.region hzk (by rw [hzm, hm]) (by rw [hzr, hv])
      fun p => by
        rw [← hn p]
        exact State.expectedVoter_congr (hzl p) hzm
    obtain ⟨hmdc, hrse, -⟩ := State.auditTaken_stopped (i := i) (w := w) h2
    rw [hacted] at hmdc hrse
    unfold NoSourceLeft
    rw [s.auditReadEnd_eq, (State.endGroup_frame _).2.2.2.2.2.2.2.2.1, (State.endGroup_frame _).2.2.2.2.2.2.2.2.2.1, hmdc, hrse]
    exact ⟨h1, h2', h3⟩

/-- A clear write moves on, to the next region, or to SYNC (R77, R78). -/
theorem State.clearWriteEnd_walk (hp : s.msq.port = some g) (ho : g.op = .clearWrite i w a) (hl : g.live = true) :
    let t := s.clearWriteEnd g i w
    Stores t g 0 ∧ CellsKept s t (writtenKeys g) ∧ t.msq.port = none ∧
      (w + 1 < s.regionWords i → t.ptl = { s.ptl with place := some { region := i, word := w + 1 } } ∧
        t.mdc = s.mdc ∧ t.dgu = s.dgu) ∧
      (∀ j, s.regionWords i ≤ w + 1 → nextRegion s.validRegions i = some j →
        t.ptl = { s.ptl with place := some { region := j, word := 0 } } ∧ t.mdc = s.mdc ∧ t.dgu = s.dgu) ∧
      (s.regionWords i ≤ w + 1 → nextRegion s.validRegions i = none → s.mdc.mode = .clearing →
        (∀ j, s.isDigestRegion j = true → (t.record j).valid = true ∧ (t.record j).digest = 0) ∧
        t.mdc = { s.mdc with mode := .sync, chen := false } ∧ t.vtu.watchdog = some 0 ∧ t.vtu.unchecked = 0 ∧
        t.vtu.syncCount = 0 ∧ t.vtu.last = s.vtu.last ∧ t.ptl.kind = .scrub ∧ t.ptl.timer = some 0 ∧
        FlagSet t .modeChanged ∧ (RowTableLaw s → ¬ MoveWaits s →
          MoveChosen s.srm s.ret.entries (MovePermitted s .sync) False t)) ∧
      t = { s with
        mem := t.mem, msq := { s.msq with port := none }, ptl := t.ptl, dgu := t.dgu, mdc := t.mdc, vtu := t.vtu
        srm := t.srm, ret := t.ret, evu := t.evu } := by
  let y : State := s.writeRows g.row g.word g.mirror 0
  have hend : s.clearWriteEnd g i w = (y.clearEnd i w).endGroup := by
    unfold State.clearWriteEnd
    dsimp only
    rw [if_pos hl]
  have hmem : (s.clearWriteEnd g i w).mem = y.mem := by
    rw [hend]
    simp
  have hsets := State.sets_of_rgt (s := s) (t := y) (by simp [y])
  obtain ⟨-, -, hvalid, hdig, hwords, -⟩ := hsets
  dsimp only
  refine ⟨stores_of_mem hmem, cellsKept_of_writeRows (fun _ _ => rfl) hmem,
    by rw [hend, State.endGroup_msq], fun hlt => ?_, fun j hge hj => ?_, fun hge hn hm => ?_, ?_⟩
  · rw [hend, State.clearEnd_on (by rw [hwords]; exact hlt)]
    simp [State.auditOn, State.setPtl, y]
  · rw [hend, State.clearEnd_next (by rw [hwords]; exact hge) (by rw [hvalid]; exact hj)]
    simp [State.setPtl, y]
  · obtain ⟨h1, h2, h3, h4, h5, h6, h7, h8, h9⟩ := y.cleared_state
    have hy : y.mdc = s.mdc ∧ y.vtu = s.vtu ∧ y.ret = s.ret ∧ y.srm = s.srm ∧ y.msq = s.msq := by simp [y]
    obtain ⟨hym, hyv, hyr, hys, hyq⟩ := hy
    rw [hend, State.clearEnd_last (by rw [hwords]; exact hge) (by rw [hvalid]; exact hn) (by rw [hym]; exact hm)]
    have htrec : y.cleared.chooseMove.endGroup.record = y.cleared.record := State.record_of_dgu (by simp)
    have htv : y.cleared.chooseMove.endGroup.vtu = { s.vtu with watchdog := some 0, unchecked := 0, syncCount := 0 } := by
      rw [← hyv, ← h3]
      simp
    have htp : y.cleared.chooseMove.endGroup.ptl = y.cleared.ptl := by simp
    rw [htrec, htv, htp]
    refine ⟨fun j hj => h1 j (by rw [hdig]; exact hj), ?_, rfl, rfl, rfl, rfl, h4, h5,
      ((Aftermath.refl _).chooseMove.endGroup).flags _ h6, fun hrow hwait => ?_⟩
    · rw [← hym, ← h2]
      simp
    · have hc := moveChosen_atEnd (s := s) (z := y.cleared) (x := y.cleared.chooseMove) (g := g) (.of_msq (h9.trans hyq))
        (h7.trans hyr) (h8.trans hys) hrow hwait ((h9.trans hyq).symm ▸ hp) (by rw [ho]; exact fun _ => nofun) rfl rfl (.refl _)
      rw [h2] at hc
      exact hc
  · rw [hend]
    exact State.eq_of_blocks (by simp [State.endGroup_msq, State.clearEnd_msq, y])

/-! ### The statement -/

/-- Settles O47, by the outcome of the read, the kind of audit and the word the walk comes to. -/
theorem auditAndClearEndsAdvanceWalk : Obligations.AuditAndClearEndsAdvanceWalk := by
  refine ⟨fun s g i w a m hp ho hl _ hk h0 hr hptr => ⟨fun hlt => ?_, fun hlast hkv hvalid => ?_,
      fun hlast hkr hm _ hsus hvalid => ?_⟩,
    fun s g i w a m hp ho hl _ hn hk h1 hr hptr hlt => ?_,
    fun s g i w a m pl hp ho hl _ hpl h2 hm => ⟨_, exec_auditReadEnd_of m hp ho, State.auditReadEnd_isolates h2 ho hpl hm⟩,
    fun s g i w a m pl here sp ride v hp ho _ _ hpl hc h2 hm hk hh hs hw _ _ hli hv hb => ?_,
    fun s g i w a hp ho hl _ => ⟨_, exec_clearWriteEnd_of hp ho, State.clearWriteEnd_walk hp ho hl⟩⟩
  · obtain ⟨hret, hsrm, hevu⟩ := State.readActed_quiet h0
    obtain ⟨x, hend, hxm, hxs, hxt, hxe, -, hi, hother, hx⟩ :=
      State.auditReadEnd_taken (by omega : wrongBits (found s g m).flips ≤ 1) hp hl hk hr hptr hlt
    have htrec : x.endGroup.record = x.record := State.record_of_dgu (by simp)
    have htend := State.endGroup_moved hx
    rw [hxe, hevu] at htend
    exact ⟨x.endGroup, (exec_auditReadEnd_of m hp ho).trans (congrArg _ hend),
      x.endGroup_starts.congr (hxs.trans hsrm) (hxt.trans hret), by rw [htrec, hi]; rfl,
      fun j hj => by rw [htrec, hother j hj], (State.readActed_read (m := m) (by omega) (by omega) (by simpa using hxm)).2, htend⟩
  · exact ⟨_, exec_auditReadEnd_of m hp ho,
      State.auditReadEnd_established (by omega) hp hl hkv hr hptr hlast hvalid⟩
  · obtain ⟨hsame, hdrift⟩ := State.auditReadEnd_repair h0 hp ho hl hkr hr hptr hlast hm hsus hvalid
    have hexec := exec_auditReadEnd_of m hp ho
    refine ⟨fun heq => ?_, fun hne => ⟨_, hexec, hdrift hne⟩⟩
    obtain ⟨hnext, hfails, hdone⟩ := hsame heq
    exact ⟨fun j hj hjv => ⟨_, hexec, hnext j hj hjv⟩, fun j hj hjv => ⟨_, hexec, hfails j hj hjv⟩,
      fun hn => ⟨_, hexec, hdone hn⟩⟩
  · obtain ⟨x, hend, hxm, hxs, hxt, -, haft, hi, -, hx⟩ := State.auditReadEnd_taken (m := m) (by omega) hp hl hk hr hptr hlt
    have hptl : x.endGroup.ptl = { s.ptl with place := some { region := i, word := w + 1 } } := by rw [State.endGroup_moved hx]
    have hevu : x.endGroup.evu = x.evu := by simp
    have htend := State.endGroup_moved hx
    rw [← hptl, ← hevu] at htend
    obtain ⟨hst, hkept⟩ := State.readActed_stored (t := x.endGroup) h1 (by simpa using hxm)
    exact ⟨x.endGroup, (exec_auditReadEnd_of m hp ho).trans (congrArg _ hend), hst, hkept, State.readActed_flag h1 haft.endGroup,
      State.readActed_reported h1 hp hn hxs hxt haft, hptl, by rw [State.record_of_dgu (s := x) (by simp), hi]; rfl, htend⟩
  · obtain ⟨hasked, halone⟩ := State.auditReadEnd_joins hp ho hpl hc h2 hm hk hh hs hw hli hv hb
    have hexec := exec_auditReadEnd_of m hp ho
    exact ⟨fun p hf hroom => ⟨_, hexec, hasked p hf hroom⟩, fun hn => ⟨_, hexec, halone hn⟩⟩

end Sys2Proof.Machine
end

section
/-! The SCRUB pass from one word to the next, and what the end of a scrub read hands to it (O46). -/

namespace Sys2Proof.Machine

variable {r s t x y z : State} {g : Group} {m : CellSample} {i j : Fin 32} {w a b : Nat} {v : Word} {o : ReadOutcome} {pl : WordPlace}

/-! ### The command -/

theorem exec_scrubReadEnd_of (m : CellSample) (hp : s.msq.port = some g) (ho : g.op = .scrubRead i w a) :
    exec (.scrubReadEnd m) s = .next (s.scrubReadEnd g i w m) := by
  simp only [exec, execScrubReadEnd, hp, ho]

/-- The word of a scrub read at its owner. -/
def State.scrubTaken (s : State) (g : Group) (i : Fin 32) (w : Nat) (m : CellSample) : State :=
  if (s.readActed g m).groupLive then (s.readActed g m).scrubEnd i w (readResult (found s g m)).1 (readResult (found s g m)).2
  else (s.readActed g m).strayAudit g i w (readResult (found s g m)).1 (readResult (found s g m)).2

theorem State.scrubReadEnd_eq (s : State) (g : Group) (i : Fin 32) (w : Nat) (m : CellSample) :
    s.scrubReadEnd g i w m = (s.scrubTaken g i w m).endGroup := rfl

/-! ### What the pass's walk leaves as it is -/

/-- The regions of a repair audit asked for, and the event flags. -/
def WalkKept (s t : State) : Prop := t.ptl.asked = s.ptl.asked ∧ t.evu.flags = s.evu.flags

theorem WalkKept.refl (s : State) : WalkKept s s := ⟨rfl, rfl⟩

theorem WalkKept.trans (h : WalkKept r s) (k : WalkKept s t) : WalkKept r t := ⟨k.1.trans h.1, k.2.trans h.2⟩

theorem WalkKept.enterScrub (h : WalkKept r s) (i : Fin 32) : WalkKept r (s.enterScrub i) :=
  h.trans ⟨rfl, congrArg Evu.flags (by simp)⟩

theorem WalkKept.completePass (h : WalkKept r s) : WalkKept r s.completePass := by
  let z : State := (s.count .scrubPasses).setPtl { s.ptl with timer := some 0, lateDue := false }
  have hz : WalkKept s z := ⟨rfl, (s.count_evu .scrubPasses).1⟩
  refine (h.trans hz).trans (t := z.beginPass) ⟨?_, congrArg Evu.flags (by simp)⟩
  rw [State.beginPass_ptl]

theorem WalkKept.scrubTo (h : WalkKept r s) (i : Fin 32) (w : Nat) : WalkKept r (s.scrubTo i w) := by
  unfold State.scrubTo State.nextScrubRegion
  split
  · exact h.trans ⟨rfl, rfl⟩
  · split
    · exact h.enterScrub _
    · exact h.completePass

theorem WalkKept.skipListed (k : Nat) (h : WalkKept r s) : WalkKept r (State.skipListed k s) := by
  induction k generalizing s with
  | zero => exact h
  | succ k ih =>
    unfold State.skipListed
    split
    · split
      · exact ih (h.scrubTo _ _)
      · exact h
    · exact h

theorem WalkKept.scrubOn (h : WalkKept r s) (i : Fin 32) (w : Nat) : WalkKept r (s.scrubOn i w) :=
  (h.scrubTo i (w + 1)).skipListed _

theorem Aftermath.scrubOn (h : Aftermath r s) (i : Fin 32) (w : Nat) : Aftermath r (s.scrubOn i w) :=
  (h.scrubTo i (w + 1)).skip

theorem DigestsStand.scrubOn (h : DigestsStand r s) (i : Fin 32) (w : Nat) : DigestsStand r (s.scrubOn i w) :=
  (h.scrubTo i (w + 1)).skip

theorem State.beginAsked_nil (h : s.ptl.asked = []) : s.beginAsked = s := by
  unfold State.beginAsked
  rw [h]

theorem State.beginAsked_cons {js : List (Fin 32)} (h : s.ptl.asked = j :: js) :
    s.beginAsked = (s.setPtl (s.ptl.auditing (j :: js))).enterRepairAudit j := by
  unfold State.beginAsked
  rw [h]
  exact s.beginRepairAudit_cons j js

theorem Aftermath.beginAsked (h : Aftermath r s) : Aftermath r s.beginAsked := by
  unfold State.beginAsked
  split
  · exact h
  · exact h.beginRepairAudit _

/-! ### The word that the pass comes to -/

/-- The next word of the region, in a block that is not listed. -/
theorem State.scrubOn_next (h : w + 1 < s.regionWords i) (hb : s.wordAddress i (w + 1) / 4096 * 4096 ∉ s.rse.repairList) :
    s.scrubOn i w = s.setPtl { s.ptl with place := some { region := i, word := w + 1 } } := by
  have hto : s.scrubTo i (w + 1) = s.setPtl { s.ptl with place := some { region := i, word := w + 1 } } := if_pos h
  unfold State.scrubOn
  rw [hto]
  exact State.skip_of_free (pl := { region := i, word := w + 1 }) rfl hb

/-- A listed block is passed over (R69). -/
theorem State.scrubOn_past (hk : s.ptl.kind = .scrub) (h : w + 1 < s.regionWords i)
    (hb : s.wordAddress i (w + 1) / 4096 * 4096 ∈ s.rse.repairList) (hn : ((w + 1) / 1024 + 1) * 1024 < s.regionWords i)
    (hf : s.wordAddress i (((w + 1) / 1024 + 1) * 1024) / 4096 * 4096 ∉ s.rse.repairList) :
    s.scrubOn i w = s.setPtl { s.ptl with place := some { region := i, word := ((w + 1) / 1024 + 1) * 1024 } } := by
  let n : Nat := ((w + 1) / 1024 + 1) * 1024
  let z : State := s.setPtl { s.ptl with place := some { region := i, word := w + 1 } }
  have hto : s.scrubTo i (w + 1) = z := if_pos h
  have hskip : State.skipListed (Config.repairSize + 1) z = State.skipListed Config.repairSize (z.scrubTo i n) := by
    conv_lhs => unfold State.skipListed
    rw [show z.ptl.kind = .scrub from hk, show z.ptl.place = some { region := i, word := w + 1 } from rfl]
    exact if_pos hb
  have hnext : z.scrubTo i n = s.setPtl { s.ptl with place := some { region := i, word := n } } := if_pos hn
  unfold State.scrubOn State.skip
  rw [hto, hskip, hnext]
  show State.skipListed (7 + 1) _ = _
  unfold State.skipListed
  dsimp only
  rw [show (s.setPtl { s.ptl with place := some { region := i, word := n } }).ptl.kind = .scrub from hk]
  exact if_neg hf

/-- The region's end, with no block listed. -/
theorem State.scrubOn_last (h : w + 1 = s.regionWords i) (hl : s.rse.repairList = []) : s.scrubOn i w = s.nextScrubRegion i := by
  have hto : s.scrubTo i (w + 1) = s.nextScrubRegion i := if_neg (by omega)
  unfold State.scrubOn
  rw [hto]
  exact State.skip_of_nil (by simpa using hl)

theorem State.nextScrubRegion_some (h : nextRegion s.scrubSet i = some j) : s.nextScrubRegion i = s.enterScrub j := by
  unfold State.nextScrubRegion
  rw [h]

theorem State.nextScrubRegion_none (h : nextRegion s.scrubSet i = none) : s.nextScrubRegion i = s.completePass := by
  unfold State.nextScrubRegion
  rw [h]

/-! ### The riding audit -/

theorem State.scrubWord_resting (h : s.ptl.riding = false) : s.scrubWord i w o v = s := by
  unfold State.scrubWord
  rw [h]
  rfl

theorem State.scrubWord_riding (h : s.ptl.riding = true) (hu : o ≠ .uncorrectable) :
    s.scrubWord i w o v = (s.handAudit i w v).ridingAnswer (s.auditAnswer i w v) := by
  unfold State.scrubWord
  rw [h, if_neg nofun, if_neg hu]

/-- An uncorrectable word stops the riding audit (R73). -/
theorem State.scrubWord_stops (s : State) (i : Fin 32) (w : Nat) (v : Word) :
    (s.scrubWord i w .uncorrectable v).ptl = { s.ptl with riding := false } ∧
    (∀ j, (s.scrubWord i w .uncorrectable v).record j =
      if s.ptl.riding = true ∧ j = i then { s.record i with running := false } else s.record j) ∧
    (s.scrubWord i w .uncorrectable v).msq = s.msq ∧ (s.scrubWord i w .uncorrectable v).ret = s.ret ∧
    (s.scrubWord i w .uncorrectable v).srm = s.srm ∧ (s.scrubWord i w .uncorrectable v).lkc = s.lkc ∧
    (s.scrubWord i w .uncorrectable v).mdc = s.mdc ∧ (s.scrubWord i w .uncorrectable v).rse = s.rse ∧
    (s.scrubWord i w .uncorrectable v).evu = s.evu := by
  cases h : s.ptl.riding with
  | false =>
    rw [State.scrubWord_resting h]
    refine ⟨?_, fun j => (if_neg (by simp)).symm, rfl, rfl, rfl, rfl, rfl, rfl, rfl⟩
    rw [← h]
  | true =>
    have he : s.scrubWord i w .uncorrectable v = s.stopRiding i := by
      unfold State.scrubWord
      rw [h]
      rfl
    rw [he]
    refine ⟨rfl, fun j => (State.updateRecord_record s i j DigestRecord.auditStop).trans ?_, rfl, rfl, rfl, rfl, rfl, rfl, rfl⟩
    simp only [true_and]
    rfl

theorem Aftermath.scrubWord_stops (h : Aftermath r s) (i : Fin 32) (w : Nat) (v : Word) :
    Aftermath r (s.scrubWord i w .uncorrectable v) := by
  unfold State.scrubWord
  split
  · exact h
  · rw [if_pos rfl]
    exact (h.auditStop i).setPtl _

end Sys2Proof.Machine
end

section
/-! A scrub read whose word is uncorrectable (R73, R125, R126): the walk, and each consequence of Table 8.4 (O46). -/

namespace Sys2Proof.Machine

variable {r s t x y z : State} {g : Group} {m : CellSample} {i j : Fin 32} {w a b : Nat} {v : Word} {o : ReadOutcome} {pl : WordPlace}
  {c : Cause} {p : Port}

/-! ### What the walk adds to the consequence -/

theorem State.scrubTaken_lost (h : wrongBits (found s g m).flips = 2) : s.scrubTaken g i w m =
    if (s.readActed g m).groupLive then (s.readActed g m).scrubEnd i w .uncorrectable 0 else s.readActed g m := by
  unfold State.scrubTaken
  rw [readResult_uncorrectable _ h]
  unfold State.strayAudit
  split
  · rfl
  · exact if_neg (by simp)

/-- In whatever mode, and whatever the consequence was. -/
theorem State.scrubTaken_reported (h : wrongBits (found s g m).flips = 2) :
    (s.scrubTaken g i w m).mem = (s.readActed g m).mem ∧ Aftermath (s.readActed g m) (s.scrubTaken g i w m) := by
  rw [State.scrubTaken_lost h]
  split
  · refine ⟨by simp, ?_⟩
    unfold State.scrubEnd
    exact (((Aftermath.refl _).scrubWord_stops i w 0).scrubOn i w).beginAsked
  · exact ⟨rfl, .refl _⟩

/-- The stopped word and the walk, where no repair audit is asked for. -/
theorem State.scrubEnd_lost (ha : s.ptl.asked = []) (i : Fin 32) (w : Nat) (v : Word) :
    s.scrubEnd i w .uncorrectable v = (s.scrubWord i w .uncorrectable v).scrubOn i w := by
  have hptl := (s.scrubWord_stops i w v).1
  refine State.beginAsked_nil ?_
  rw [((WalkKept.refl _).scrubOn i w).1, hptl]
  exact ha

/-- The walk touches the pass, the records and the count of passes only. -/
theorem State.scrubTaken_kept (h : wrongBits (found s g m).flips = 2) (ha : (s.readActed g m).ptl.asked = []) :
    (s.scrubTaken g i w m).ret = (s.readActed g m).ret ∧ (s.scrubTaken g i w m).srm = (s.readActed g m).srm ∧
    (s.scrubTaken g i w m).lkc = (s.readActed g m).lkc ∧ (s.scrubTaken g i w m).mdc = (s.readActed g m).mdc ∧
    (s.scrubTaken g i w m).rse = (s.readActed g m).rse ∧
    (s.scrubTaken g i w m).evu.flags = (s.readActed g m).evu.flags := by
  rw [State.scrubTaken_lost h]
  split
  · obtain ⟨-, -, -, hret, hsrm, hlkc, hmdc, hrse, hevu⟩ := (s.readActed g m).scrubWord_stops i w 0
    rw [State.scrubEnd_lost ha]
    obtain ⟨-, -, -, -, -, h1, h2, -, h3, -, h4, h5, -⟩ := ((s.readActed g m).scrubWord i w .uncorrectable 0).scrubOn_frame i w
    exact ⟨h1.trans hret, h2.trans hsrm, h3.trans hlkc, h4.trans hmdc, h5.trans hrse,
      (((WalkKept.refl _).scrubOn i w).2).trans (congrArg Evu.flags hevu)⟩
  · exact ⟨rfl, rfl, rfl, rfl, rfl, rfl⟩

/-- At the end of the group. -/
theorem State.scrubReadEnd_kept (h : wrongBits (found s g m).flips = 2) (ha : (s.readActed g m).ptl.asked = []) :
    (s.scrubReadEnd g i w m).lkc = (s.readActed g m).lkc ∧ (s.scrubReadEnd g i w m).mdc = (s.readActed g m).mdc ∧
    (s.scrubReadEnd g i w m).rse = (s.readActed g m).rse ∧
    (s.scrubReadEnd g i w m).evu.flags = (s.readActed g m).evu.flags := by
  obtain ⟨-, -, hlkc, hmdc, hrse, hflags⟩ := State.scrubTaken_kept (i := i) (w := w) h ha
  rw [s.scrubReadEnd_eq]
  exact ⟨by simpa using hlkc, by simpa using hmdc, by simpa using hrse, by simpa using hflags⟩

theorem State.readActed_rgt (s : State) (g : Group) (m : CellSample) : (s.readActed g m).rgt = s.rgt := by
  unfold State.readActed State.reportOutcome
  split <;> simp

/-- The pass goes on at the next word. -/
theorem State.scrubReadEnd_next (h : wrongBits (found s g m).flips = 2) (hl : (s.readActed g m).groupLive = true)
    (ha : (s.readActed g m).ptl.asked = []) (hw : w + 1 < s.regionWords i)
    (hb : s.wordAddress i (w + 1) / 4096 * 4096 ∉ (s.readActed g m).rse.repairList) :
    (s.scrubReadEnd g i w m).ptl =
      { (s.readActed g m).ptl with place := some { region := i, word := w + 1 }, riding := false } ∧
    (s.scrubReadEnd g i w m).record i = if (s.readActed g m).ptl.riding = true then
      { (s.readActed g m).record i with running := false } else (s.readActed g m).record i := by
  obtain ⟨hptl, hrec, -, -, -, -, -, hrse, -⟩ := (s.readActed g m).scrubWord_stops i w 0
  let z : State := (s.readActed g m).scrubWord i w .uncorrectable 0
  have hz : z.rgt = s.rgt := by
    rw [← s.readActed_rgt g m]
    simp [z]
  obtain ⟨-, -, -, -, hwords, haddr⟩ := State.sets_of_rgt hz
  have htaken : s.scrubTaken g i w m = z.setPtl { z.ptl with place := some { region := i, word := w + 1 } } := by
    rw [State.scrubTaken_lost h, if_pos hl, State.scrubEnd_lost ha]
    exact State.scrubOn_next (by rw [hwords]; exact hw) (by rw [haddr, hrse]; exact hb)
  have hz' (j : Fin 32) : (s.scrubReadEnd g i w m).record j = z.record j := by
    rw [s.scrubReadEnd_eq, htaken]
    exact congrFun (State.record_of_dgu (by simp)) j
  refine ⟨?_, (hz' i).trans ((hrec i).trans ?_)⟩
  · rw [s.scrubReadEnd_eq, htaken, (State.endGroup_frame _).2.2.2.2.2.1]
    exact congrArg (fun q : Ptl => { q with place := some { region := i, word := w + 1 } }) hptl
  · simp

/-- The pass passes a listed block over. -/
theorem State.scrubReadEnd_past (h : wrongBits (found s g m).flips = 2) (hl : (s.readActed g m).groupLive = true)
    (ha : (s.readActed g m).ptl.asked = []) (hk : (s.readActed g m).ptl.kind = .scrub) (hw : w + 1 < s.regionWords i)
    (hb : s.wordAddress i (w + 1) / 4096 * 4096 ∈ (s.readActed g m).rse.repairList)
    (hn : ((w + 1) / 1024 + 1) * 1024 < s.regionWords i)
    (hf : s.wordAddress i (((w + 1) / 1024 + 1) * 1024) / 4096 * 4096 ∉ (s.readActed g m).rse.repairList) :
    (s.scrubReadEnd g i w m).ptl = { (s.readActed g m).ptl with
      place := some { region := i, word := ((w + 1) / 1024 + 1) * 1024 }, riding := false } := by
  obtain ⟨hptl, -, -, -, -, -, -, hrse, -⟩ := (s.readActed g m).scrubWord_stops i w 0
  let z : State := (s.readActed g m).scrubWord i w .uncorrectable 0
  have hz : z.rgt = s.rgt := by
    rw [← s.readActed_rgt g m]
    simp [z]
  obtain ⟨-, -, -, -, hwords, haddr⟩ := State.sets_of_rgt hz
  have hkind : z.ptl.kind = .scrub := by rw [hptl]; exact hk
  rw [s.scrubReadEnd_eq, State.scrubTaken_lost h, if_pos hl, State.scrubEnd_lost ha,
    State.scrubOn_past hkind (by rw [hwords]; exact hw) (by rw [haddr, hrse]; exact hb) (by rw [hwords]; exact hn)
      (by rw [haddr, hrse]; exact hf), (State.endGroup_frame _).2.2.2.2.2.1]
  exact congrArg (fun q : Ptl => { q with place := some { region := i, word := ((w + 1) / 1024 + 1) * 1024 } }) hptl

/-! ### The group stays in flight for its owner -/

theorem State.groupLive_of (hp : s.msq.port = some g) : s.groupLive = g.live := by
  unfold State.groupLive
  rw [hp]
  rfl

theorem State.forget_other (hp : s.msq.port = some g) (who : WordOp → Bool) (h : who g.op = false) : (s.forget who).msq = s.msq := by
  have hport : s.msq.port.map (fun g => if who g.op then { g with live := false } else g) = s.msq.port := by
    rw [hp, Option.map_some, h]
    rfl
  exact congrArg (fun q : Option Group => { s.msq with port := q }) hport

/-- A group of the SCRUB pass outlives the services, which give up groups of their own. -/
theorem State.endService_held (hp : s.msq.port = some g) (ho : g.op = .scrubRead i w a) (v : Option Word) :
    (s.endService v).msq = s.msq := by
  have hf (x : State) (hx : x.msq = s.msq) : (x.forget WordOp.ofCopy).msq = s.msq := by
    rw [State.forget_other (g := g) (by rw [hx, hp]) _ (by rw [ho]; rfl), hx]
  unfold State.endService
  split
  · rfl
  · refine hf _ ?_
    split
    · exact (State.offerFrame_frame ..).2.2.2.2.1
    · rfl

theorem State.endServices_held (hp : s.msq.port = some g) (ho : g.op = .scrubRead i w a) (v : Word) (k : Bool) :
    (s.endServices v k).msq = s.msq := by
  let x : State := ((s.endService (some v)).endReentry v).endRepair v k
  have hx : x.msq = s.msq := by
    rw [← State.endService_held hp ho (some v)]
    simp [x]
  exact (State.forget_other (s := x) (g := g) (by rw [hx, hp]) _ (by rw [ho]; rfl)).trans hx

/-- An isolation in which the pass goes on (R68). -/
theorem State.isolateFor_held (hp : s.msq.port = some g) (ho : g.op = .scrubRead i w a)
    (hm : s.mdc.mode = .sync ∨ s.mdc.mode = .run ∨ s.mdc.mode = .repair ∨ s.mdc.mode = .ready)
    (hk : s.ptl.kind = .scrub) (c : Cause) : (s.isolateFor c).msq.port = some g := by
  have hiso : s.mdc.mode.isolable = true := by obtain h | h | h | h := hm <;> rw [h] <;> rfl
  let x : State := ({ s.setMode .isolated with mdc := { mode := .isolated, chen := false, cause := c } } : State).voteIsolated
  have hover : (s.isolatedOver c).msq.port = some g := (congrArg Msq.port (State.endServices_held (s := x) hp ho _ true)).trans hp
  have hoptl : (s.isolatedOver c).ptl = s.ptl := by simp
  rw [s.isolateFor_eq c hiso, State.patrolIsolated_goesOn _ _ hm (by rw [hoptl, hk]; exact nofun),
    (State.chooseMove_frame _).2.2.2.2.1]
  exact hover

end Sys2Proof.Machine
end

section
/-! The consequences of Table 8.4 at the end of a scrub read, and the pass after each (O46). -/

namespace Sys2Proof.Machine

variable {r s t x y z : State} {g : Group} {m : CellSample} {i j : Fin 32} {w a b : Nat} {v : Word} {o : ReadOutcome} {pl : WordPlace}
  {c : Cause} {p : Port}

/-! ### An isolation -/

theorem State.scrubReadEnd_isolated (h2 : wrongBits (found s g m).flips = 2) (hp : s.msq.port = some g)
    (ho : g.op = .scrubRead i w a) (hl : g.live = true) (hk : s.ptl.kind = .scrub)
    (hm : s.mdc.mode = .sync ∨ s.mdc.mode = .run ∨ s.mdc.mode = .repair ∨ s.mdc.mode = .ready)
    (hy : s.readActed g m = (s.readNoted g m).isolateFor c) :
    let t := s.scrubReadEnd g i w m
    t.mdc = { mode := .isolated, chen := false, cause := c } ∧ FlagSet t .isolated ∧
      t.rse = { service := none, reentry := none, repair := none, repairList := [] } ∧
      (w + 1 < s.regionWords i → t.ptl.kind = .scrub ∧ t.ptl.riding = false ∧
        t.ptl.place = some { region := i, word := w + 1 } ∧
        (s.ptl.riding = true → t.record i = { s.record i with running := false })) := by
  let n : State := s.readNoted g m
  obtain ⟨hnm, hnp, hnq, hnd⟩ : n.mdc = s.mdc ∧ n.ptl = s.ptl ∧ n.msq = s.msq ∧ n.dgu = s.dgu := by simp [n]
  have hnmode : n.mdc.mode = .sync ∨ n.mdc.mode = .run ∨ n.mdc.mode = .repair ∨ n.mdc.mode = .ready := by rw [hnm]; exact hm
  have hiso : n.mdc.mode.isolable = true := by obtain h | h | h | h := hnmode <;> rw [h] <;> rfl
  obtain ⟨hmdc, -, hflag⟩ := n.isolateFor_mdc c hiso
  have hrse := n.isolateFor_rse c hiso
  obtain ⟨hptl, hrec⟩ := n.isolateFor_goesOn c hnmode (by rw [hnp, hk]; exact nofun)
  have hport : (n.isolateFor c).msq.port = some g :=
    State.isolateFor_held (s := n) (by rw [hnq, hp]) ho hnmode (by rw [hnp, hk]) c
  rw [hnp] at hptl
  rw [State.record_of_dgu hnd] at hrec
  have hasked : (s.readActed g m).ptl.asked = [] := by rw [hy, hptl]
  obtain ⟨-, htm, htr, htf⟩ := State.scrubReadEnd_kept (i := i) (w := w) h2 hasked
  refine ⟨by rw [htm, hy, hmdc], ?_, by rw [htr, hy, hrse], fun hw => ?_⟩
  · unfold FlagSet at hflag ⊢
    rw [htf, hy]
    exact hflag
  · obtain ⟨htp, hti⟩ := State.scrubReadEnd_next h2 (by rw [hy, State.groupLive_of hport, hl]) hasked hw
      (by rw [hy, hrse]; exact List.not_mem_nil)
    rw [hy, hptl] at htp hti
    rw [htp]
    refine ⟨hk, rfl, rfl, fun hr => ?_⟩
    rw [hti, if_pos hr, hrec]

/-- The words whose loss isolates the channel. -/
theorem State.readActed_isolates (h2 : wrongBits (found s g m).flips = 2) (hpl : g.place = some pl)
    (h : pl.cls = .vital ∧ (s.mdc.mode = .sync ∨ s.mdc.mode = .run ∨ s.mdc.mode = .repair ∨ s.mdc.mode = .ready) ∨
      pl.cls = .constant ∧ (s.mdc.mode = .sync ∨ s.mdc.mode = .ready)) :
    s.readActed g m = (s.readNoted g m).isolateFor .vitalDamage := by
  have hnm : (s.readNoted g m).mdc = s.mdc := by simp
  rw [State.readActed_placed h2 hpl]
  obtain ⟨hc, hm⟩ | ⟨hc, hm⟩ := h
  · refine (State.consequence_vital _ pl _ hc ?_).1
    rw [hnm, hc]
    unfold EventOnly
    obtain h | h | h | h := hm <;> simp [h]
  · exact ((State.consequence_constant _ pl _ hc).1 (by rw [hnm]; exact hm.imp_right .inr)).1

/-! ### A block joins the list while the read is in flight -/

theorem State.blockJoined_inFlight (hk : s.ptl.kind = .scrub) (ha : s.ptl.asked = []) (hp : s.msq.port = some g)
    (ho : g.op = .scrubRead i w a) (hl : g.live = true) (j : Fin 32) : s.blockJoined j = s.abandonRiding j := by
  obtain ⟨hkind, hasked⟩ := s.abandonRiding_ptl j
  have hflight : (s.abandonRiding j).scrubInFlight = true := State.scrubInFlight_of_read (by simpa using hp) hl ho
  unfold State.blockJoined
  dsimp only
  rw [hkind, hk, if_neg nofun, hasked, ha, if_neg (by simp), hflight, if_pos rfl]

/-! ### A repair begins -/

/-- The record of the repair is there with the read in flight, and a partner is to be asked. -/
def State.scrubAsks (s : State) (i : Fin 32) (b : Nat) : State :=
  (((s.repairEntered b).chooseMove).abandonRiding i).setRepair (some Repair.new)

/-- It differs from a repair that begins elsewhere in the pass's position only. -/
theorem State.scrubAsks_begun (s : State) (i : Fin 32) (b : Nat) :
    (s.scrubAsks i b).chanId = (s.repairBegun i b).chanId ∧
    (s.scrubAsks i b).dgu.tableDigest = (s.repairBegun i b).dgu.tableDigest ∧ (s.scrubAsks i b).lkc = (s.repairBegun i b).lkc ∧
    (s.scrubAsks i b).mdc = (s.repairBegun i b).mdc ∧ (s.scrubAsks i b).rse = (s.repairBegun i b).rse ∧
    (s.scrubAsks i b).srm = (s.repairBegun i b).srm ∧ (s.scrubAsks i b).ret = (s.repairBegun i b).ret := by
  let x : State := ((s.repairEntered b).chooseMove).abandonRiding i
  have hx : x.skip.rse = x.rse := by simp
  refine ⟨by simp [State.scrubAsks, State.repairBegun], by simp [State.scrubAsks, State.repairBegun],
    by simp [State.scrubAsks, State.repairBegun], by simp [State.scrubAsks, State.repairBegun], ?_,
    by simp [State.scrubAsks, State.repairBegun], by simp [State.scrubAsks, State.repairBegun]⟩
  show { x.rse with repair := some Repair.new } = { x.skip.rse with repair := some Repair.new }
  rw [hx]

theorem State.scrubAsks_pass (hp : s.msq.port = some g) (ho : g.op = .scrubRead i w a) (j : Fin 32) (b : Nat) :
    (s.scrubAsks j b).msq.port = some g ∧ (s.scrubAsks j b).ptl.kind = s.ptl.kind ∧
      (s.scrubAsks j b).ptl.asked = s.ptl.asked := by
  have hptl : (s.repairEntered b).chooseMove.ptl = s.ptl := by simp [State.repairEntered]
  obtain ⟨hkind, hasked⟩ := (s.repairEntered b).chooseMove.abandonRiding_ptl j
  rw [hptl] at hkind hasked
  refine ⟨?_, hkind, hasked⟩
  refine Eq.trans ?_ hp
  rw [← State.endService_held hp ho (some serviceEndedReason)]
  simp [State.scrubAsks, State.repairEntered]

theorem State.enterRepair_inFlight (hm : s.mdc.mode = .run) (hk : s.ptl.kind = .scrub) (ha : s.ptl.asked = [])
    (hp : s.msq.port = some g) (ho : g.op = .scrubRead i w a) (hl : g.live = true) (j : Fin 32) (b : Nat) :
    s.enterRepair j b = State.seekBlock 3 (s.scrubAsks j b) := by
  let x : State := (s.endService (some serviceEndedReason)).listBlock b
  have hmode : x.mdc.mode.leadsTo .repair = true := by
    rw [show x.mdc = s.mdc by simp [x], hm]
    rfl
  have hreq : x.requestMode .repair = (s.repairEntered b).chooseMove := by
    rw [State.requestMode_repair, if_pos hmode]
    rfl
  have hport : (s.repairEntered b).chooseMove.msq.port = some g := by
    refine Eq.trans ?_ hp
    rw [← State.endService_held hp ho (some serviceEndedReason)]
    simp [State.repairEntered]
  have hptl : (s.repairEntered b).chooseMove.ptl = s.ptl := by simp [State.repairEntered]
  unfold State.enterRepair
  rw [hreq]
  dsimp only
  rw [State.blockJoined_inFlight (by rw [hptl, hk]) (by rw [hptl, ha]) hport ho hl]
  rfl

/-- The state in which a partner is asked for the block that the scrub could not read. -/
def State.scrubReadAsks (s : State) (g : Group) (a : Nat) (m : CellSample) (pl : WordPlace) : State :=
  (s.readNoted g m).scrubAsks pl.region (a / 4096 * 4096)

theorem State.readActed_seeks (h2 : wrongBits (found s g m).flips = 2) (hpl : g.place = some pl) (hp : s.msq.port = some g)
    (ho : g.op = .scrubRead i w a) (hl : g.live = true) (hk : s.ptl.kind = .scrub) (ha : s.ptl.asked = [])
    (hc : pl.cls = .constant) (hm : s.mdc.mode = .run) :
    s.readActed g m = State.seekBlock 3 (s.scrubReadAsks g a m pl) := by
  rw [State.readActed_placed h2 hpl, ho]
  exact ((State.consequence_constant _ pl a hc).2.1 (by simpa using hm)).trans
    (State.enterRepair_inFlight (by simpa using hm) (by simpa using hk) (by simpa using ha) (by simpa using hp) ho hl _ _)

theorem State.scrubReadAsks_like (s : State) (g : Group) (a : Nat) (m : CellSample) (pl : WordPlace) :
    (s.scrubReadAsks g a m pl).chanId = s.chanId ∧
    (s.scrubReadAsks g a m pl).dgu.tableDigest = s.dgu.tableDigest ∧
    (s.scrubReadAsks g a m pl).lkc = (s.readAsks g a m pl).lkc ∧
    (s.scrubReadAsks g a m pl).mdc = { s.mdc with mode := .repair, chen := false } ∧
    (s.scrubReadAsks g a m pl).rse = { s.rse with
      service := none, repairList := s.rse.repairList ++ [a / 4096 * 4096], repair := some Repair.new } := by
  obtain ⟨h1, h2, h3, h4, h5, -⟩ := (s.readNoted g m).scrubAsks_begun pl.region (a / 4096 * 4096)
  obtain ⟨htable, hmdc, hrse⟩ := s.readAsks_state g a m pl
  refine ⟨h1.trans ?_, h2.trans htable, h3, h4.trans hmdc, h5.trans hrse⟩
  rw [((s.readNoted g m).repairBegun_state pl.region (a / 4096 * 4096)).1]
  simp

theorem State.scrubReadAsks_voter (s : State) (g : Group) (a : Nat) (m : CellSample) (pl : WordPlace) (hm : s.mdc.mode = .run)
    (p : Port) : (s.scrubReadAsks g a m pl).expectedVoter p = s.expectedVoter p := by
  obtain ⟨-, -, hlkc, hmdc, -⟩ := s.scrubReadAsks_like g a m pl
  rw [← s.readAsks_voter g a m pl p hm]
  exact State.expectedVoter_congr (by unfold State.link; rw [hlkc]) (hmdc.trans (s.readAsks_state g a m pl).2.1.symm)

/-- The voter of the lower identity is asked. -/
theorem State.readActed_asks (h2 : wrongBits (found s g m).flips = 2) (hpl : g.place = some pl) (hp : s.msq.port = some g)
    (ho : g.op = .scrubRead i w a) (hl : g.live = true) (hk : s.ptl.kind = .scrub) (ha : s.ptl.asked = [])
    (hc : pl.cls = .constant) (hm : s.mdc.mode = .run) (hf : FirstVoter s p) (hroom : (s.link p).tx.length < 15) :
    s.readActed g m = (s.scrubReadAsks g a m pl).askBlock Repair.new p ∧
      ((s.scrubReadAsks g a m pl).link p).tx.length < 16 := by
  obtain ⟨hchan, -, hlkc, hmdc, hrse⟩ := s.scrubReadAsks_like g a m pl
  have hlink : (s.scrubReadAsks g a m pl).link p = (s.readAsks g a m pl).link p := by unfold State.link; rw [hlkc]
  have hlen : ((s.scrubReadAsks g a m pl).link p).tx.length < 16 := by
    rw [hlink]
    have := s.readAsks_tx g a m pl p
    omega
  have hfirst : FirstVoter (s.scrubReadAsks g a m pl) p := by
    have hid (q : Port) : (s.scrubReadAsks g a m pl).partnerId q = s.partnerId q := by
      cases q <;> (unfold State.partnerId; rw [hchan])
    unfold FirstVoter at hf ⊢
    simp only [s.scrubReadAsks_voter g a m pl hm, hid]
    exact hf
  refine ⟨?_, hlen⟩
  rw [State.readActed_seeks h2 hpl hp ho hl hk ha hc hm]
  exact State.seekBlock_first _ Repair.new p (by rw [hrse]) (fun q => by cases q <;> rfl) hfirst hlen

/-- The part after the request, as the walk finds it. -/
theorem State.readActed_asked (h2 : wrongBits (found s g m).flips = 2) (hpl : g.place = some pl) (hp : s.msq.port = some g)
    (ho : g.op = .scrubRead i w a) (hl : g.live = true) (hk : s.ptl.kind = .scrub) (ha : s.ptl.asked = [])
    (hc : pl.cls = .constant) (hm : s.mdc.mode = .run) (hli : s.rse.repairList = []) (hf : FirstVoter s p)
    (hroom : (s.link p).tx.length < 15) :
    let y := s.readActed g m
    y.groupLive = true ∧ y.ptl.kind = .scrub ∧ y.ptl.asked = [] ∧ y.mdc = { s.mdc with mode := .repair, chen := false } ∧
      y.rse = { s.rse with
        service := none, repairList := [a / 4096 * 4096]
        repair := some
          { phase := .asking, asked := p, triedA := p == .a, triedB := p == .b, time := 0, written := [],
            repaired := [] } } ∧
      (y.link p).tx = (if s.rse.service.map (·.port) = some p then queued (s.link p) (.abandon 19) else (s.link p).tx) ++
        [.repairRequest s.dgu.tableDigest (a / 4096 * 4096)] := by
  obtain ⟨hy, hlen⟩ := State.readActed_asks h2 hpl hp ho hl hk ha hc hm hf hroom
  obtain ⟨-, htable, hlkc, hmdc, hrse⟩ := s.scrubReadAsks_like g a m pl
  obtain ⟨hport, hkind, hasked⟩ := State.scrubAsks_pass (s := s.readNoted g m) (by simpa using hp) ho pl.region (a / 4096 * 4096)
  have hup : ((s.scrubReadAsks g a m pl).link p).up = true := by
    refine State.expectedVoter_up _ p ?_
    rw [s.scrubReadAsks_voter g a m pl hm]
    exact hf.1
  dsimp only
  rw [hy]
  obtain ⟨-, -, -, -, hq, -, -, -, hptl, -, hmdc', -⟩ := (s.scrubReadAsks g a m pl).askBlock_frame Repair.new p
  refine ⟨?_, ?_, ?_, hmdc'.trans hmdc, ?_, ?_⟩
  · rw [State.groupLive_of (g := g) (by rw [hq]; exact hport), hl]
  · rw [hptl]
    exact hkind.trans (by simpa using hk)
  · rw [hptl]
    exact hasked.trans (by simpa using ha)
  · rw [State.askBlock_rse, hrse, hli]
    rfl
  · rw [← s.readAsks_request g a m pl p hli hf.1 hroom, State.askBlock_link, if_pos rfl, State.askBlock_link, if_pos rfl]
    have hlink : (s.scrubReadAsks g a m pl).link p = (s.readAsks g a m pl).link p := by unfold State.link; rw [hlkc]
    have hframe : (s.scrubReadAsks g a m pl).repairRequestFrame = (s.readAsks g a m pl).repairRequestFrame := by
      unfold State.repairRequestFrame State.headBlock
      rw [htable, hrse, (s.readAsks_state g a m pl).1, (s.readAsks_state g a m pl).2.2]
    rw [hlink, hframe]

end Sys2Proof.Machine
end

section
/-! The repair that an uncorrectable scrub read begins or extends, and the words whose loss has no consequence (O46). -/

namespace Sys2Proof.Machine

variable {r s t x y z : State} {g : Group} {m : CellSample} {i j : Fin 32} {w a b : Nat} {v : Word} {o : ReadOutcome} {pl : WordPlace}
  {c : Cause} {p : Port}

theorem State.scrubReadEnd_link (h2 : wrongBits (found s g m).flips = 2) (ha : (s.readActed g m).ptl.asked = []) (q : Port) :
    (s.scrubReadEnd g i w m).link q = (s.readActed g m).link q := by
  unfold State.link
  rw [(State.scrubReadEnd_kept h2 ha).1]

/-! ### RUN -/

/-- The change into REPAIR is an occasion to choose a move (R45). -/
theorem State.scrubReadEnd_moves (h2 : wrongBits (found s g m).flips = 2) (hp : s.msq.port = some g)
    (ho : g.op = .scrubRead i w a) (hn : RowTableLaw s) (hw : ¬ MoveWaits s)
    (hy : s.readActed g m = (s.scrubReadAsks g a m pl).askBlock Repair.new p) (hasked : (s.readActed g m).ptl.asked = []) :
    MoveChosen s.srm s.ret.entries (MovePermitted s .repair) False (s.scrubReadEnd g i w m) := by
  let n : State := s.readNoted g m
  let z : State := n.repairEntered (a / 4096 * 4096)
  have hnp : n.msq.port = some g := by simpa [n] using hp
  have hzq : z.msq = s.msq := by
    have hn' : n.msq = s.msq := by simp [n]
    rw [← hn', ← State.endService_held hnp ho (some serviceEndedReason)]
    simp [z, State.repairEntered]
  have hzr : z.ret = s.ret := by simp [z, n, State.repairEntered]
  have hzs : z.srm = s.srm := by simp [z, n, State.repairEntered]
  obtain ⟨-, -, -, -, -, hus, hur⟩ := n.scrubAsks_begun pl.region (a / 4096 * 4096)
  obtain ⟨-, -, -, -, -, hbs, hbr⟩ := n.repairBegun_state pl.region (a / 4096 * 4096)
  obtain ⟨-, -, -, -, -, hyr, hys, -⟩ := (s.scrubReadAsks g a m pl).askBlock_frame Repair.new p
  obtain ⟨hxr, hxs, -⟩ := State.scrubTaken_kept (i := i) (w := w) h2 hasked
  have haft := (State.scrubTaken_reported (i := i) (w := w) h2).2
  rw [hy] at hxr hxs haft
  have hasks : Aftermath z.chooseMove (s.scrubReadAsks g a m pl) := ((Aftermath.refl _).abandonRiding _).setRse _
  rw [s.scrubReadEnd_eq]
  exact moveChosen_atEnd (z := z) (x := s.scrubTaken g i w m) (.of_msq hzq) hzr hzs hn hw (by rw [hzq, hp])
    (by rw [ho]; exact fun _ => nofun) (hxs.trans (hys.trans (hus.trans hbs))) (hxr.trans (hyr.trans (hur.trans hbr)))
    ((hasks.askBlock _ _).trans haft)

theorem State.scrubReadEnd_repairs (h2 : wrongBits (found s g m).flips = 2) (hpl : g.place = some pl) (hp : s.msq.port = some g)
    (ho : g.op = .scrubRead i w a) (hl : g.live = true) (hk : s.ptl.kind = .scrub) (ha : s.ptl.asked = [])
    (hn : RowTableLaw s) (hc : pl.cls = .constant) (hm : s.mdc.mode = .run) (hli : s.rse.repairList = [])
    (hf : FirstVoter s p) (hroom : (s.link p).tx.length < 15) :
    let t := s.scrubReadEnd g i w m
    t.mdc = { s.mdc with mode := .repair, chen := false } ∧
      t.rse = { s.rse with
        service := none, repairList := [a / 4096 * 4096]
        repair := some
          { phase := .asking, asked := p, triedA := p == .a, triedB := p == .b, time := 0, written := [],
            repaired := [] } } ∧
      (t.link p).tx = (if s.rse.service.map (·.port) = some p then queued (s.link p) (.abandon 19) else (s.link p).tx) ++
        [.repairRequest s.dgu.tableDigest (a / 4096 * 4096)] ∧
      (w + 1 < s.regionWords i → s.wordAddress i (w + 1) / 4096 * 4096 ≠ a / 4096 * 4096 →
        t.ptl.place = some { region := i, word := w + 1 } ∧ t.ptl.riding = false) ∧
      (w + 1 < s.regionWords i → s.wordAddress i (w + 1) / 4096 * 4096 = a / 4096 * 4096 →
        ((w + 1) / 1024 + 1) * 1024 < s.regionWords i →
        s.wordAddress i (((w + 1) / 1024 + 1) * 1024) / 4096 * 4096 ≠ a / 4096 * 4096 →
        t.ptl.place = some { region := i, word := ((w + 1) / 1024 + 1) * 1024 } ∧ t.ptl.riding = false) ∧
      (¬ MoveWaits s → MoveChosen s.srm s.ret.entries (MovePermitted s .repair) False t) := by
  obtain ⟨hy, -⟩ := State.readActed_asks h2 hpl hp ho hl hk ha hc hm hf hroom
  obtain ⟨hlive, hkind, hasked, hmdc, hrse, htx⟩ := State.readActed_asked h2 hpl hp ho hl hk ha hc hm hli hf hroom
  obtain ⟨-, htm, htr, -⟩ := State.scrubReadEnd_kept (i := i) (w := w) h2 hasked
  have hlist : (s.readActed g m).rse.repairList = [a / 4096 * 4096] := by rw [hrse]
  refine ⟨htm.trans hmdc, htr.trans hrse, by rw [State.scrubReadEnd_link h2 hasked]; exact htx, fun hw hb => ?_,
    fun hw hb hnext hfree => ?_, fun hwait => State.scrubReadEnd_moves h2 hp ho hn hwait hy hasked⟩
  · rw [(State.scrubReadEnd_next h2 hlive hasked hw (by rw [hlist]; simpa using hb)).1]
    exact ⟨rfl, rfl⟩
  · rw [State.scrubReadEnd_past h2 hlive hasked hkind hw (by rw [hlist]; simpa using hb) hnext (by rw [hlist]; simpa using hfree)]
    exact ⟨rfl, rfl⟩

/-- Without an expected voter the channel is isolated (R151). -/
theorem State.scrubReadEnd_alone (h2 : wrongBits (found s g m).flips = 2) (hpl : g.place = some pl) (hp : s.msq.port = some g)
    (ho : g.op = .scrubRead i w a) (hl : g.live = true) (hk : s.ptl.kind = .scrub) (ha : s.ptl.asked = [])
    (hc : pl.cls = .constant) (hm : s.mdc.mode = .run) (hn : ∀ p, s.expectedVoter p = false) :
    NoSourceLeft (s.scrubReadEnd g i w m) := by
  let u : State := s.scrubReadAsks g a m pl
  obtain ⟨-, -, -, hum, hur⟩ := s.scrubReadAsks_like g a m pl
  have hukind : u.ptl.kind = .scrub :=
    (State.scrubAsks_pass (s := s.readNoted g m) (by simpa using hp) ho pl.region _).2.1.trans (by simpa using hk)
  have humode : u.mdc.mode = .repair := by rw [hum]
  have hiso : u.mdc.mode.isolable = true := by rw [humode]; rfl
  have hy : s.readActed g m = u.isolateFor .noSource :=
    (State.readActed_seeks h2 hpl hp ho hl hk ha hc hm).trans
      (State.seekBlock_none 2 (v := Repair.new) (by rw [hur]) fun q => (s.scrubReadAsks_voter g a m pl hm q).trans (hn q))
  have hptl := (u.isolateFor_goesOn .noSource (.inr (.inr (.inl humode))) (by rw [hukind]; exact nofun)).1
  obtain ⟨-, htm, htr, -⟩ := State.scrubReadEnd_kept (i := i) (w := w) h2 (by rw [hy, hptl])
  rw [hy] at htm htr
  have hrse := u.isolateFor_rse .noSource hiso
  unfold NoSourceLeft
  rw [htm, htr, hrse]
  exact ⟨(u.isolateFor_mdc .noSource hiso).1, rfl, rfl⟩

/-! ### REPAIR -/

theorem State.readActed_joins (h2 : wrongBits (found s g m).flips = 2) (hpl : g.place = some pl) (ho : g.op = .scrubRead i w a)
    (hc : pl.cls = .constant) (hm : s.mdc.mode = .repair) :
    s.readActed g m = (s.readNoted g m).joinRepair pl.region (a / 4096 * 4096) := by
  rw [State.readActed_placed h2 hpl, ho]
  exact (State.consequence_constant _ pl a hc).2.2 (by simpa using hm)

/-- A further block joins the list (R149). -/
theorem State.scrubReadEnd_joins (h2 : wrongBits (found s g m).flips = 2) (hpl : g.place = some pl) (hp : s.msq.port = some g)
    (ho : g.op = .scrubRead i w a) (hl : g.live = true) (hk : s.ptl.kind = .scrub) (ha : s.ptl.asked = [])
    (hc : pl.cls = .constant) (hm : s.mdc.mode = .repair) (hlen : s.rse.repairList.length < 8)
    (hb : a / 4096 * 4096 ∉ s.rse.repairList) :
    let t := s.scrubReadEnd g i w m
    t.rse = { s.rse with repairList := s.rse.repairList ++ [a / 4096 * 4096] } ∧ t.mdc = s.mdc ∧ t.lkc = s.lkc := by
  let z : State := (s.readNoted g m).listBlock (a / 4096 * 4096)
  obtain ⟨hzp, hzq, hzm, hzl⟩ : z.ptl = s.ptl ∧ z.msq = s.msq ∧ z.mdc = s.mdc ∧ z.lkc = s.lkc := by simp [z]
  have hnr : (s.readNoted g m).rse = s.rse := by simp
  have hzr : z.rse = { s.rse with repairList := s.rse.repairList ++ [a / 4096 * 4096] } := by
    rw [← hnr]
    rfl
  have hjoin : (s.readNoted g m).joinRepair pl.region (a / 4096 * 4096) = z.blockJoined pl.region := by
    unfold State.joinRepair Config.repairSize
    rw [hnr, if_neg hb, if_pos hlen]
  have hjoined : z.blockJoined pl.region = z.abandonRiding pl.region :=
    State.blockJoined_inFlight (by rw [hzp, hk]) (by rw [hzp, ha]) (by rw [hzq, hp]) ho hl _
  have hy : s.readActed g m = z.abandonRiding pl.region :=
    (State.readActed_joins h2 hpl ho hc hm).trans (hjoin.trans hjoined)
  obtain ⟨htl, htm, htr, -⟩ := State.scrubReadEnd_kept (i := i) (w := w) h2
    (by rw [hy, (z.abandonRiding_ptl pl.region).2, hzp, ha])
  rw [hy] at htl htm htr
  exact ⟨htr.trans (by simpa using hzr), htm.trans (by simpa using hzm), htl.trans (by simpa using hzl)⟩

/-- A block too many (R149). -/
theorem State.scrubReadEnd_overflows (h2 : wrongBits (found s g m).flips = 2) (hpl : g.place = some pl) (hp : s.msq.port = some g)
    (ho : g.op = .scrubRead i w a) (hl : g.live = true) (hk : s.ptl.kind = .scrub)
    (hc : pl.cls = .constant) (hm : s.mdc.mode = .repair) (hlen : s.rse.repairList.length = 8)
    (hb : a / 4096 * 4096 ∉ s.rse.repairList) :
    let t := s.scrubReadEnd g i w m
    t.mdc = { mode := .isolated, chen := false, cause := .repairOverflow } ∧ t.rse.repairList = [] := by
  have hnr : (s.readNoted g m).rse = s.rse := by simp
  have hy : s.readActed g m = (s.readNoted g m).isolateFor .repairOverflow := by
    rw [State.readActed_joins h2 hpl ho hc hm]
    unfold State.joinRepair Config.repairSize
    rw [hnr, if_neg hb, if_neg (by omega)]
  obtain ⟨htm, -, htr, -⟩ := State.scrubReadEnd_isolated h2 hp ho hl hk (.inr (.inr (.inl hm))) hy
  exact ⟨htm, by rw [htr]⟩

/-! ### No consequence -/

theorem State.readActed_eventOnly (h2 : wrongBits (found s g m).flips = 2) (hev : ∀ pl, g.place = some pl → EventOnly s.mdc.mode pl.cls) :
    s.readActed g m = s.readNoted g m := by
  have hnm : (s.readNoted g m).mdc = s.mdc := by simp
  cases hpl : g.place with
  | none =>
    rw [State.readActed_uncorrectable h2, State.reportUncorrectable_eq, hpl]
    rfl
  | some pl =>
    rw [State.readActed_placed h2 hpl]
    exact State.consequence_eventOnly _ pl _ (by rw [hnm]; exact hev pl hpl)

/-- The event, and nothing of the services or the mode. -/
theorem State.scrubReadEnd_quiet (h2 : wrongBits (found s g m).flips = 2) (ha : s.ptl.asked = [])
    (hy : s.readActed g m = s.readNoted g m) :
    let t := s.scrubReadEnd g i w m
    t.rse = s.rse ∧ t.mdc = s.mdc ∧ t.lkc = s.lkc ∧ Fired s t [.memUncorrectable] := by
  obtain ⟨htl, htm, htr, htf⟩ := State.scrubReadEnd_kept (i := i) (w := w) h2 (by rw [hy]; simpa using ha)
  rw [hy] at htl htm htr htf
  refine ⟨htr.trans (by simp), htm.trans (by simp), htl.trans (by simp), fun ev => ?_⟩
  have hf := s.readNoted_fired g m ev
  unfold FlagSet at hf ⊢
  rw [htf]
  exact hf

/-- A word of a listed block, or of a NONVITAL region. -/
theorem State.readActed_harmless (h2 : wrongBits (found s g m).flips = 2) (hpl : g.place = some pl) (ho : g.op = .scrubRead i w a)
    (h : pl.cls = .nonvital ∨ pl.cls = .constant ∧ s.mdc.mode = .repair ∧ a / 4096 * 4096 ∈ s.rse.repairList) :
    s.readActed g m = s.readNoted g m := by
  obtain hc | ⟨hc, hm, hb⟩ := h
  · refine State.readActed_eventOnly h2 fun q hq => ?_
    rw [hpl] at hq
    cases hq
    exact .inl hc
  · rw [State.readActed_joins h2 hpl ho hc hm]
    exact if_pos (by simpa using hb)

end Sys2Proof.Machine
end

section
/-! A scrub read whose word is clean or corrected and no audit rides, and a repair audit asked for (R70 to R72, R81; O46). -/

namespace Sys2Proof.Machine

variable {r s t x y z : State} {g : Group} {m : CellSample} {i j : Fin 32} {w a b : Nat} {v : Word} {o : ReadOutcome} {pl : WordPlace}
  {c : Cause} {p : Port}

/-! ### Without the riding audit -/

/-- A word that PTL waits for. -/
theorem State.scrubTaken_word (h : wrongBits (found s g m).flips ≤ 1) (hp : s.msq.port = some g) (hl : g.live = true) :
    ∃ o, o ≠ ReadOutcome.uncorrectable ∧
      s.scrubTaken g i w m = (s.readActed g m).scrubEnd i w o (found s g m).data := by
  obtain ⟨ho, hd⟩ := readResult_of_le _ h
  refine ⟨_, ho, ?_⟩
  unfold State.scrubTaken
  rw [State.readActed_live h hp, if_pos hl, hd]

theorem State.scrubTaken_resting (h : wrongBits (found s g m).flips ≤ 1) (hp : s.msq.port = some g) (hl : g.live = true)
    (hr : s.ptl.riding = false) : s.scrubTaken g i w m = ((s.readActed g m).scrubOn i w).beginAsked := by
  obtain ⟨o, -, ht⟩ := State.scrubTaken_word (i := i) (w := w) h hp hl
  have hptl : (s.readActed g m).ptl = s.ptl := (State.readActed_keeps h).2.2.2.2.2.2.1
  rw [ht]
  unfold State.scrubEnd
  rw [State.scrubWord_resting (by rw [hptl, hr])]

/-- A clean word changes memory only, before the walk. -/
theorem State.readActed_whole (h : wrongBits (found s g m).flips = 0) :
    s.readActed g m = { s with mem := (s.readActed g m).mem } := by
  rw [State.readActed_clean h]
  exact State.eq_of_blocks (by simp)

/-- The walk that follows a clean word, at the end of the group. -/
theorem State.scrubReadEnd_moved {q : Ptl} (h : wrongBits (found s g m).flips = 0)
    (ht : s.scrubTaken g i w m = { s with
      mem := (s.readActed g m).mem, ptl := q, dgu := { s.dgu with records := (s.scrubTaken g i w m).dgu.records } }) :
    let t := s.scrubReadEnd g i w m
    t.ptl = q ∧ t.record = (s.scrubTaken g i w m).record ∧ WaitingStarts s t ∧
      memLookup t.mem (groupKey g) = some (found s g m) ∧ CellsKept s t [groupKey g] ∧
      t = { s with
        mem := t.mem, msq := { s.msq with port := none }, ptl := q, srm := t.srm, ret := t.ret
        dgu := { s.dgu with records := t.dgu.records } } := by
  let x : State := s.scrubTaken g i w m
  obtain ⟨hmem, hptl, hsrm, hret, hevu⟩ : x.mem = (s.readActed g m).mem ∧ x.ptl = q ∧ x.srm = s.srm ∧ x.ret = s.ret ∧
      x.evu = s.evu := by
    rw [show x = _ from ht]
    exact ⟨rfl, rfl, rfl, rfl, rfl⟩
  have hmoved := State.endGroup_moved (s := s) (x := x) (p := q) (by
    rw [hsrm, hret, hevu, hmem]
    exact ht)
  rw [hevu] at hmoved
  obtain ⟨hlook, hkept⟩ := State.readActed_read (s := s) (g := g) (t := x.endGroup) (m := m) (by rw [h]; exact nofun)
    (by rw [h]; exact Nat.zero_le 2) ((State.endGroup_frame x).2.2.2.2.2.2.2.2.2.2.2.2.1.trans hmem)
  dsimp only
  rw [s.scrubReadEnd_eq]
  exact ⟨by rw [(State.endGroup_frame _).2.2.2.2.2.1]; exact hptl, State.record_of_dgu (by simp),
    x.endGroup_starts.congr hsrm hret, hlook, hkept, hmoved⟩

/-- The pass's position after a clean word with no riding audit: the part before a repair audit asked for. -/
theorem State.scrubTaken_clean (h : wrongBits (found s g m).flips = 0) (hp : s.msq.port = some g) (hl : g.live = true)
    (hr : s.ptl.riding = false) (ha : s.ptl.asked = []) :
    s.scrubTaken g i w m = { s with mem := (s.readActed g m).mem }.scrubOn i w := by
  rw [State.scrubTaken_resting (by omega) hp hl hr, State.readActed_whole h]
  exact State.beginAsked_nil ((((WalkKept.refl _).scrubOn i w).1).trans ha)

theorem State.scrubReadEnd_resting_next (h : wrongBits (found s g m).flips = 0) (hp : s.msq.port = some g) (hl : g.live = true)
    (hr : s.ptl.riding = false) (ha : s.ptl.asked = []) (hw : w + 1 < s.regionWords i)
    (hb : s.wordAddress i (w + 1) / 4096 * 4096 ∉ s.rse.repairList) :
    let t := s.scrubReadEnd g i w m
    t.ptl = { s.ptl with place := some { region := i, word := w + 1 } } ∧
        memLookup t.mem (groupKey g) = some (found s g m) ∧ CellsKept s t [groupKey g] ∧ WaitingStarts s t ∧
        t = { s with mem := t.mem, msq := { s.msq with port := none }, ptl := t.ptl, srm := t.srm, ret := t.ret } := by
  have ht : s.scrubTaken g i w m = { s with
      mem := (s.readActed g m).mem, ptl := { s.ptl with place := some { region := i, word := w + 1 } } } :=
    (State.scrubTaken_clean h hp hl hr ha).trans (State.scrubOn_next (s := { s with mem := (s.readActed g m).mem }) hw hb)
  have hdgu : (s.scrubReadEnd g i w m).dgu = s.dgu := by
    rw [s.scrubReadEnd_eq, ht]
    simp
  obtain ⟨hptl, -, hstart, hlook, hkept, hwhole⟩ := State.scrubReadEnd_moved (i := i) (w := w) h (by
    rw [ht])
  rw [← hptl, hdgu] at hwhole
  exact ⟨hptl, hlook, hkept, hstart, hwhole⟩

theorem State.scrubReadEnd_resting_past (h : wrongBits (found s g m).flips = 0) (hp : s.msq.port = some g) (hl : g.live = true)
    (hk : s.ptl.kind = .scrub) (hr : s.ptl.riding = false) (ha : s.ptl.asked = []) (hw : w + 1 < s.regionWords i)
    (hb : s.wordAddress i (w + 1) / 4096 * 4096 ∈ s.rse.repairList) (hn : ((w + 1) / 1024 + 1) * 1024 < s.regionWords i)
    (hf : s.wordAddress i (((w + 1) / 1024 + 1) * 1024) / 4096 * 4096 ∉ s.rse.repairList) :
    (s.scrubReadEnd g i w m).ptl = { s.ptl with place := some { region := i, word := ((w + 1) / 1024 + 1) * 1024 } } := by
  rw [s.scrubReadEnd_eq, State.scrubTaken_clean h hp hl hr ha,
    State.scrubOn_past (s := { s with mem := (s.readActed g m).mem }) hk hw hb hn hf, (State.endGroup_frame _).2.2.2.2.2.1]
  rfl

theorem State.enterScrub_whole (s : State) (i : Fin 32) : s.enterScrub i = { s with
    ptl := { s.ptl with place := some { region := i, word := 0 }, riding := s.rides i }
    dgu := { s.dgu with records := (s.enterScrub i).dgu.records } } := by
  unfold State.enterScrub
  split <;> rfl

/-- The pass enters the next region (R71, R72). -/
theorem State.scrubReadEnd_resting_enters (h : wrongBits (found s g m).flips = 0) (hp : s.msq.port = some g) (hl : g.live = true)
    (hr : s.ptl.riding = false) (ha : s.ptl.asked = []) (hw : w + 1 = s.regionWords i) (hli : s.rse.repairList = [])
    (hj : nextRegion s.scrubSet i = some j) :
    let t := s.scrubReadEnd g i w m
    t.ptl = { s.ptl with
        place := some { region := j, word := 0 }, riding := s.isDigestRegion j && (s.record j).valid } ∧
      (t.ptl.riding = true → t.record j = { s.record j with running := true, acc := 0, pointer := 0 }) ∧
      (∀ k, k ≠ j ∨ t.ptl.riding = false → t.record k = s.record k) ∧ WaitingStarts s t ∧
      t = { s with
        mem := t.mem, msq := { s.msq with port := none }, ptl := t.ptl, srm := t.srm, ret := t.ret
        dgu := { s.dgu with records := t.dgu.records } } := by
  let z : State := { s with mem := (s.readActed g m).mem }
  have ht : s.scrubTaken g i w m = z.enterScrub j :=
    (State.scrubTaken_clean h hp hl hr ha).trans ((State.scrubOn_last (s := z) hw hli).trans (State.nextScrubRegion_some hj))
  have hrides : z.rides j = (s.isDigestRegion j && (s.record j).valid) := State.rides_of_nil (s := z) hli j
  obtain ⟨hptl, hrec, hstart, -, -, hwhole⟩ := State.scrubReadEnd_moved (i := i) (w := w)
    (q := { s.ptl with place := some { region := j, word := 0 }, riding := z.rides j }) h (by
      rw [ht]
      exact z.enterScrub_whole j)
  rw [← hptl] at hwhole
  have hrecord (k : Fin 32) : (s.scrubReadEnd g i w m).record k =
      if k = j ∧ z.rides j = true then { s.record j with running := true, acc := 0, pointer := 0 } else s.record k := by
    rw [hrec, ht]
    exact z.enterScrub_record j k
  have hride : (s.scrubReadEnd g i w m).ptl.riding = z.rides j := by rw [hptl]
  refine ⟨by rw [hptl, hrides], fun hr' => ?_, fun k hk => ?_, hstart, hwhole⟩
  · rw [hrecord, if_pos ⟨rfl, hride ▸ hr'⟩]
  · rw [hrecord, if_neg]
    rintro ⟨hkj, hr'⟩
    obtain hne | hne := hk
    · exact hne hkj
    · rw [hride, hr'] at hne
      cases hne

/-- The last region of the scrub set ends the pass, and a new one starts (R71). -/
theorem State.completePass_walk (hli : s.rse.repairList = []) (hj : s.scrubSet.head? = some j) :
    s.completePass.ptl.place = some { region := j, word := 0 } ∧ s.completePass.ptl.kind = s.ptl.kind ∧
      s.completePass.ptl.timer = some 0 ∧ s.completePass.ptl.riding = (s.isDigestRegion j && (s.record j).valid) ∧
      s.completePass.evu = (s.count .scrubPasses).evu := by
  let z : State := (s.count .scrubPasses).setPtl { s.ptl with timer := some 0, lateDue := false }
  have hz : z.rgt = s.rgt := by simp [z]
  obtain ⟨hset, -, -, hdig, -⟩ := State.sets_of_rgt hz
  have he : s.completePass = z.enterScrub j := State.beginPass_head (s := z) (by rw [hset, hj])
  have hrides := State.rides_of_nil (s := z) (by simpa [z] using hli) j
  rw [hdig, State.record_of_dgu (s := s) (t := z) (by simp [z])] at hrides
  rw [he]
  exact ⟨rfl, rfl, rfl, hrides, by rw [(State.enterScrub_frame ..).2.2.2.2.2.2.2.2.2.2.2.2.1]; rfl⟩

theorem State.scrubReadEnd_resting_completes (h : wrongBits (found s g m).flips = 0) (hp : s.msq.port = some g) (hl : g.live = true)
    (hk : s.ptl.kind = .scrub) (hr : s.ptl.riding = false) (ha : s.ptl.asked = []) (hw : w + 1 = s.regionWords i)
    (hli : s.rse.repairList = []) (hn : nextRegion s.scrubSet i = none) (hj : s.scrubSet.head? = some j) :
    let t := s.scrubReadEnd g i w m
    t.ptl.place = some { region := j, word := 0 } ∧
      t.ptl.kind = .scrub ∧ t.ptl.timer = some 0 ∧ Counted s t [.scrubPasses] ∧ Fired s t [] ∧
      t.ptl.riding = (s.isDigestRegion j && (s.record j).valid) := by
  let z : State := { s with mem := (s.readActed g m).mem }
  have ht : s.scrubTaken g i w m = z.completePass :=
    (State.scrubTaken_clean h hp hl hr ha).trans ((State.scrubOn_last (s := z) hw hli).trans (State.nextScrubRegion_none hn))
  obtain ⟨h1, h2, h3, h4, h5⟩ := State.completePass_walk (s := z) hli hj
  have hptl : (s.scrubReadEnd g i w m).ptl = z.completePass.ptl := by
    rw [s.scrubReadEnd_eq, ht]
    simp
  have hevu : (s.scrubReadEnd g i w m).evu = (s.count .scrubPasses).evu := by
    rw [s.scrubReadEnd_eq, ht, (State.endGroup_frame _).2.2.2.2.2.2.2.2.2.2.1, h5]
    rfl
  dsimp only
  rw [hptl]
  refine ⟨h1, h2.trans hk, h3, fun c => ?_, fun ev => ?_, h4⟩
  · rw [hevu, State.count_counter]
    simp
  · unfold FlagSet
    rw [hevu, (s.count_evu .scrubPasses).1]
    simp

/-! ### A repair audit asked for begins (R81) -/

theorem State.scrubReadEnd_audits {js : List (Fin 32)} (h : wrongBits (found s g m).flips = 0) (hp : s.msq.port = some g)
    (hl : g.live = true) (ha : s.ptl.asked = j :: js) (hr : s.ptl.riding = false) (hli : s.rse.repairList = [])
    (hw : w + 1 < s.regionWords i) (hv : (s.record j).valid = true) :
    let t := s.scrubReadEnd g i w m
    WaitingStarts s t ∧ CellsKept s t [groupKey g] ∧
      t.ptl = { s.ptl with
        kind := .repairAudit, place := some { region := j, word := 0 }
        suspended := some (some { region := i, word := w + 1 }, false), auditList := j :: js, asked := [] } ∧
      t.record j = { s.record j with running := true, acc := 0, pointer := 0 } ∧
      (∀ k, k ≠ j → t.record k = s.record k) ∧
      t = { s with
        mem := t.mem, msq := { s.msq with port := none }, ptl := t.ptl, srm := t.srm, ret := t.ret
        dgu := { s.dgu with records := t.dgu.records } } := by
  let z : State := { s with mem := (s.readActed g m).mem }
  let u : State := z.setPtl { s.ptl with place := some { region := i, word := w + 1 } }
  let e : State := u.setPtl (u.ptl.auditing (j :: js))
  have hon : z.scrubOn i w = u := State.scrubOn_next (s := z) hw (by rw [show z.rse.repairList = [] from hli]; exact List.not_mem_nil)
  have ht : s.scrubTaken g i w m = e.enterAudit j := by
    rw [State.scrubTaken_resting (by omega) hp hl hr, State.readActed_whole h]
    show (z.scrubOn i w).beginAsked = _
    rw [hon, State.beginAsked_cons (s := u) ha]
    exact State.enterRepairAudit_valid (s := e) hv
  obtain ⟨hptl, hrec, hstart, -, hkept, hwhole⟩ := State.scrubReadEnd_moved (i := i) (w := w) (q := (e.enterAudit j).ptl) h (by
    rw [ht]
    rfl)
  have hrecord (k : Fin 32) : (s.scrubReadEnd g i w m).record k =
      if k = j then { s.record j with running := true, acc := 0, pointer := 0 } else s.record k := by
    rw [hrec, ht]
    exact e.enterAudit_record j k
  rw [← hptl] at hwhole
  refine ⟨hstart, hkept, ?_, by rw [hrecord, if_pos rfl], fun k hk => by rw [hrecord, if_neg hk], hwhole⟩
  have hregs : (e.enterAudit j).ptl = { s.ptl with
      kind := .repairAudit, place := some { region := j, word := 0 }, riding := false
      suspended := some (some { region := i, word := w + 1 }, s.ptl.riding), auditList := j :: js, asked := [] } := rfl
  rw [hptl, hregs]
  simp only [hr]

end Sys2Proof.Machine
end

section
/-! A scrub read with the riding audit on (R60, R70, R74), and the statement assembled (O46). -/

namespace Sys2Proof.Machine

variable {r s t x y z : State} {g : Group} {m : CellSample} {i j : Fin 32} {w a b : Nat} {v : Word} {o : ReadOutcome} {pl : WordPlace}
  {c : Cause} {p : Port}

/-! ### The row table through several occasions to choose a move -/

theorem EntriesMoved.trans {es fs ks : List RowEntry} (h : EntriesMoved es fs) (k : EntriesMoved fs ks) : EntriesMoved es ks := by
  induction h generalizing ks with
  | nil => exact k
  | cons hab _ ih =>
    obtain _ | ⟨hbc, hrest⟩ := k
    refine .cons ?_ (ih hrest)
    obtain rfl | ⟨hw, rfl⟩ := hab
    · exact hbc
    · obtain rfl | ⟨-, rfl⟩ := hbc
      · exact .inr ⟨hw, rfl⟩
      · exact .inr ⟨hw, rfl⟩

theorem EntriesMoved.rows {es fs : List RowEntry} (h : EntriesMoved es fs) : fs.map (·.row) = es.map (·.row) := by
  induction h with
  | nil => rfl
  | cons hab _ ih =>
    rw [List.map_cons, List.map_cons, ih]
    obtain rfl | ⟨-, rfl⟩ := hab <;> rfl

theorem State.isolateFor_entries (c : Cause) (hn : (s.ret.entries.map (·.row)).Nodup) :
    EntriesMoved s.ret.entries (s.isolateFor c).ret.entries := by
  by_cases h : s.mdc.mode.isolable = true
  · have hret : ((s.isolatedOver c).patrolIsolated s.mdc.mode).ret = s.ret := by simp
    rw [s.isolateFor_eq c h, ← hret]
    exact State.chooseMove_entries _ (by rw [hret]; exact hn)
  · unfold State.isolateFor
    rw [if_neg h]
    exact .refl _

/-- The corrected error's report stands where moves are chosen after it. -/
theorem State.readActed_reported_moved (h : wrongBits (found s g m).flips = 1) (hp : s.msq.port = some g) (hn : RowTableLaw s)
    (he : EntriesMoved (s.readActed g m).ret.entries x.ret.entries) (ha : Aftermath (s.readActed g m) x) :
    RowReported s x.endGroup g.row g.word := by
  let n : State := (s.readBack g m (found s g m).data).noteCorrected
  have hnp : n.msq.port = some g := by simpa [n, State.noteCorrected] using hp
  have hnr : n.ret = s.ret := by simp [n, State.noteCorrected]
  have hacted : s.readActed g m = n.reportRow g.row g.word := State.readActed_corrected h
  rw [hacted] at he ha
  have hrows := n.reportRow_nodup g g.row g.word hnp (by rw [hnr]; exact hn.2)
  refine rowReported_of_report (g := g) (x := n) hnp hnr (by simp [n, State.noteCorrected]) (by simp [n, State.noteCorrected])
    (he.trans (State.endGroup_entries _ ?_)) fun hf => ha.endGroup.flags _ hf
  rw [he.rows]
  exact hrows

theorem State.readActed_nodup (h : wrongBits (found s g m).flips ≤ 1) (hp : s.msq.port = some g) (hn : RowTableLaw s) :
    ((s.readActed g m).ret.entries.map (·.row)).Nodup := by
  obtain h0 | h1 := Nat.le_one_iff_eq_zero_or_eq_one.1 h
  · rw [(State.readActed_quiet h0).1]
    exact hn.2
  · let n : State := (s.readBack g m (found s g m).data).noteCorrected
    have hnr : n.ret = s.ret := by simp [n, State.noteCorrected]
    rw [State.readActed_corrected h1]
    exact n.reportRow_nodup g g.row g.word (by simpa [n, State.noteCorrected] using hp) (by rw [hnr]; exact hn.2)

/-! ### What PTL makes of DGU's answer -/

theorem Mode.driftIsolates_iff (k : Mode) :
    k.driftIsolates = true ↔ k = .sync ∨ k = .run ∨ k = .repair ∨ k = .ready := by
  cases k <;> simp [Mode.driftIsolates]

/-- A DRIFT isolates the channel, in the modes that it does (R74). -/
theorem State.ridingDrift_cases (s : State) :
    s.mdc.mode.driftIsolates = true ∧ s.ridingDrift = (s.fire .digestDrift).isolateFor .digestDrift ∨
      s.mdc.mode.driftIsolates = false ∧ s.ridingDrift = s.fire .digestDrift := by
  have hm : (s.fire .digestDrift).mdc = s.mdc := by simp
  unfold State.ridingDrift
  dsimp only
  rw [hm]
  cases h : s.mdc.mode.driftIsolates
  · exact .inr ⟨rfl, rfl⟩
  · exact .inl ⟨rfl, rfl⟩

theorem Aftermath.ridingDrift (h : Aftermath r s) : Aftermath r s.ridingDrift := by
  obtain ⟨-, hs⟩ | ⟨-, hs⟩ := s.ridingDrift_cases <;> rw [hs]
  · exact (h.fire _).isolateFor _
  · exact h.fire _

theorem DigestsStand.ridingDrift (h : DigestsStand r s) : DigestsStand r s.ridingDrift := by
  have hf : DigestsStand r (s.fire .digestDrift) := h.of_dgu (by simp)
  obtain ⟨-, hs⟩ | ⟨-, hs⟩ := s.ridingDrift_cases <;> rw [hs]
  · have hi := (s.fire .digestDrift).isolateFor_digests .digestDrift
    exact fun j => ⟨(hi j).1.trans (hf j).1, (hi j).2.trans (hf j).2⟩
  · exact hf

/-- The requests of repair audits and the list stay empty, and entries of the row table may begin to move. -/
theorem State.ridingDrift_rest (hk : s.ptl.kind = .scrub) (ha : s.ptl.asked = []) (hl : s.rse.repairList = [])
    (hn : (s.ret.entries.map (·.row)).Nodup) : s.ridingDrift.ptl.asked = [] ∧ s.ridingDrift.rse.repairList = [] ∧
      EntriesMoved s.ret.entries s.ridingDrift.ret.entries := by
  obtain ⟨hd, hs⟩ | ⟨-, hs⟩ := s.ridingDrift_cases <;> rw [hs]
  · let f : State := s.fire .digestDrift
    have hfm : f.mdc = s.mdc := by simp [f]
    have hfr : f.ret = s.ret := by simp [f]
    have hmode := (Mode.driftIsolates_iff _).1 hd
    have hfmode : f.mdc.mode = .sync ∨ f.mdc.mode = .run ∨ f.mdc.mode = .repair ∨ f.mdc.mode = .ready := by rw [hfm]; exact hmode
    have hiso : f.mdc.mode.isolable = true := by obtain h | h | h | h := hfmode <;> rw [h] <;> rfl
    refine ⟨?_, (f.isolateFor_mdc _ hiso).2.1, ?_⟩
    · rw [(f.isolateFor_goesOn .digestDrift hfmode (by simp [f, hk])).1]
    · rw [← hfr]
      exact State.isolateFor_entries _ (by rw [hfr]; exact hn)
  · exact ⟨by simpa using ha, by simpa using hl, by simpa using EntriesMoved.refl s.ret.entries⟩

/-- The same of every answer. -/
theorem State.ridingAnswer_rest (e : AuditAnswer) (hk : s.ptl.kind = .scrub) (ha : s.ptl.asked = []) (hl : s.rse.repairList = [])
    (hn : (s.ret.entries.map (·.row)).Nodup) : (s.ridingAnswer e).ptl.asked = [] ∧ (s.ridingAnswer e).rse.repairList = [] ∧
      EntriesMoved s.ret.entries (s.ridingAnswer e).ret.entries := by
  unfold State.ridingAnswer
  split
  · exact ⟨ha, hl, .refl _⟩
  · exact State.ridingDrift_rest hk ha hl hn
  · exact ⟨ha, hl, .refl _⟩

theorem Aftermath.ridingAnswer (h : Aftermath r s) (e : AuditAnswer) : Aftermath r (s.ridingAnswer e) := by
  unfold State.ridingAnswer
  split
  · exact h.setPtl _
  · exact h.ridingDrift
  · exact h

/-! ### A word with the riding audit on -/

/-- The word is added, PTL acts on the answer, and the pass moves on. -/
theorem State.scrubTaken_riding (h : wrongBits (found s g m).flips ≤ 1) (hp : s.msq.port = some g) (hl : g.live = true)
    (hk : s.ptl.kind = .scrub) (ha : s.ptl.asked = []) (hr : s.ptl.riding = true) (hli : s.rse.repairList = [])
    (hn : RowTableLaw s) : let y := s.readActed g m
    let z := (y.handAudit i w (found s g m).data).ridingAnswer (y.auditAnswer i w (found s g m).data)
    s.scrubTaken g i w m = z.scrubOn i w ∧ z.rse.repairList = [] ∧ EntriesMoved y.ret.entries z.ret.entries := by
  let y : State := s.readActed g m
  obtain ⟨-, -, -, -, -, -, hptl, -, -, -, hrse, -⟩ := State.readActed_keeps h
  obtain ⟨o, hu, ht⟩ := State.scrubTaken_word (i := i) (w := w) h hp hl
  obtain ⟨hasked, hlist, hmoved⟩ := State.ridingAnswer_rest (s := y.handAudit i w (found s g m).data)
    (y.auditAnswer i w (found s g m).data) (hptl ▸ hk) (hptl ▸ ha) (hrse ▸ hli) (State.readActed_nodup h hp hn)
  refine ⟨?_, hlist, hmoved⟩
  rw [ht]
  unfold State.scrubEnd
  rw [State.scrubWord_riding (hptl ▸ hr) hu]
  exact State.beginAsked_nil ((((WalkKept.refl _).scrubOn i w).1).trans hasked)

theorem Aftermath.handAudit (hr : (s.record i).running = true) (w : Nat) (v : Word) : Aftermath s (s.handAudit i w v) :=
  (Aftermath.refl s).updateRecord i _ fun ⟨_, _, hn⟩ => by
    rw [hr] at hn
    cases hn

/-- A corrected word is written back and reported, whatever the audit's answer. -/
theorem State.scrubReadEnd_riding_corrected (h1 : wrongBits (found s g m).flips = 1) (hp : s.msq.port = some g) (hl : g.live = true)
    (hk : s.ptl.kind = .scrub) (ha : s.ptl.asked = []) (hr : s.ptl.riding = true) (hrun : (s.record i).running = true)
    (hli : s.rse.repairList = []) (hn : RowTableLaw s) : let t := s.scrubReadEnd g i w m
    Stores t g (found s g m).data ∧ FlagSet t .memCorrected ∧ RowReported s t g.row g.word := by
  let y : State := s.readActed g m
  have h : wrongBits (found s g m).flips ≤ 1 := h1.le
  obtain ⟨ht, -, hmoved⟩ := State.scrubTaken_riding (i := i) (w := w) h hp hl hk ha hr hli hn
  have hyr : (y.record i).running = true := by
    rw [State.record_of_dgu (State.readActed_keeps h).2.2.2.2.2.1]
    exact hrun
  have haft : Aftermath y (s.scrubTaken g i w m) := by
    rw [ht]
    exact ((Aftermath.handAudit hyr w _).ridingAnswer _).scrubOn i w
  have hmem : (s.scrubReadEnd g i w m).mem = y.mem := by
    rw [s.scrubReadEnd_eq, ht]
    simp [y]
  refine ⟨(State.readActed_stored h1 hmem).1, State.readActed_flag h1 haft.endGroup,
    State.readActed_reported_moved (x := s.scrubTaken g i w m) h1 hp hn ?_ haft⟩
  rw [ht, ((State.scrubOn_frame _ i w).2.2.2.2.2.1)]
  exact hmoved

/-- A word within the region (R60, R70). -/
theorem State.scrubReadEnd_riding_taken (h : wrongBits (found s g m).flips ≤ 1) (hp : s.msq.port = some g) (hl : g.live = true)
    (hk : s.ptl.kind = .scrub) (ha : s.ptl.asked = []) (hr : s.ptl.riding = true) (hrun : (s.record i).running = true)
    (hptr : (s.record i).pointer = w) (hli : s.rse.repairList = []) (hn : RowTableLaw s) (hw : w + 1 < s.regionWords i) :
    let t := s.scrubReadEnd g i w m
    t.ptl.place = some { region := i, word := w + 1 } ∧ t.ptl.riding = true ∧
      t.record i = { s.record i with
        acc := ((s.record i).acc + (found s g m).data.toNat * (w + 1)) % (2 ^ 61 - 1), pointer := w + 1 } := by
  let y : State := s.readActed g m
  obtain ⟨-, -, -, hrgt, -, hdgu, hptl, -, -, -, hrse, -⟩ := State.readActed_keeps h
  obtain ⟨ht, -, -⟩ := State.scrubTaken_riding (i := i) (w := w) h hp hl hk ha hr hli hn
  have hrec : y.record = s.record := State.record_of_dgu hdgu
  have hwords : y.regionWords = s.regionWords := (State.sets_of_rgt hrgt).2.2.2.2.1
  obtain ⟨hword, hans⟩ := DigestRecord.auditWord_mid (v := (found s g m).data) hrun hptr hw
  have htaken : y.auditAnswer i w (found s g m).data = .taken := by
    unfold State.auditAnswer
    rw [hrec, hwords]
    exact hans
  let z : State := y.handAudit i w (found s g m).data
  have hzw : w + 1 < z.regionWords i := by
    rw [(State.sets_of_rgt (s := y) (t := z) (by simp [z])).2.2.2.2.1, hwords]
    exact hw
  have hx : s.scrubTaken g i w m = z.setPtl { z.ptl with place := some { region := i, word := w + 1 } } := by
    rw [ht, htaken]
    refine State.scrubOn_next (s := z) hzw ?_
    rw [show z.rse = s.rse from hrse, hli]
    exact List.not_mem_nil
  have htp : (s.scrubReadEnd g i w m).ptl = { z.ptl with place := some { region := i, word := w + 1 } } := by
    rw [s.scrubReadEnd_eq, hx, (State.endGroup_frame _).2.2.2.2.2.1]
    rfl
  have htrec : (s.scrubReadEnd g i w m).record i = z.record i := by
    rw [s.scrubReadEnd_eq, hx]
    exact congrFun (State.record_of_dgu (by simp)) i
  dsimp only
  rw [htp]
  refine ⟨rfl, (show y.ptl.riding = true by rw [hptl]; exact hr), htrec.trans ?_⟩
  rw [State.handAudit_record, if_pos rfl, hrec, hwords, hword]
  rfl

/-- The region's last word: what DGU has answered when the pass moves on (R60, R74). -/
theorem State.scrubTaken_riding_ends (h : wrongBits (found s g m).flips ≤ 1) (hp : s.msq.port = some g) (hl : g.live = true)
    (hk : s.ptl.kind = .scrub) (ha : s.ptl.asked = []) (hr : s.ptl.riding = true) (hrun : (s.record i).running = true)
    (hptr : (s.record i).pointer = w) (hli : s.rse.repairList = []) (hn : RowTableLaw s) (hw : w + 1 = s.regionWords i)
    (hv : (s.record i).valid = true) : ∃ z : State, z.mdc = s.mdc ∧ DigestsStand s z ∧ s.scrubTaken g i w m =
      (if ((s.record i).acc + (found s g m).data.toNat * (w + 1)) % (2 ^ 61 - 1) = (s.record i).digest then z
      else z.ridingDrift).scrubOn i w := by
  let y : State := s.readActed g m
  obtain ⟨-, -, -, hrgt, -, hdgu, -, -, -, hmdc, -⟩ := State.readActed_keeps h
  obtain ⟨ht, -, -⟩ := State.scrubTaken_riding (i := i) (w := w) h hp hl hk ha hr hli hn
  have hrec : y.record = s.record := State.record_of_dgu hdgu
  have hwords : y.regionWords = s.regionWords := (State.sets_of_rgt hrgt).2.2.2.2.1
  have hans := (DigestRecord.auditWord_last (v := (found s g m).data) hrun hptr hw).2
  rw [hv, if_pos rfl] at hans
  have hanswer : y.auditAnswer i w (found s g m).data =
      if ((s.record i).added w (found s g m).data).acc = (s.record i).digest then .matched else .drift := by
    unfold State.auditAnswer
    rw [hrec, hwords]
    exact hans
  have hdig := DigestsStand.handAudit_last (s := y) (i := i) (w := w) (v := (found s g m).data) (by rw [hrec, hrun])
    (by rw [hrec, hptr]) (by rw [hwords, hw]) (by rw [hrec, hv])
  refine ⟨y.handAudit i w (found s g m).data, hmdc, fun j => by rw [← hrec]; exact hdig j, ?_⟩
  rw [ht, hanswer]
  refine congrArg (fun q : State => q.scrubOn i w) ?_
  show (State.ridingAnswer _ (if ((s.record i).acc + (found s g m).data.toNat * (w + 1)) % (2 ^ 61 - 1) = (s.record i).digest
    then AuditAnswer.matched else AuditAnswer.drift)) = _
  split <;> rfl

/-- The digests after the walk to the next region. -/
theorem State.scrubReadEnd_digests (hx : s.scrubTaken g i w m = y.scrubOn i w) (h : DigestsStand s y) :
    DigestsStand s (s.scrubReadEnd g i w m) := by
  rw [s.scrubReadEnd_eq, hx]
  exact (h.scrubOn i w).of_dgu (by simp)

/-- A region that ends DRIFT. -/
theorem State.scrubReadEnd_riding_drifts (h : wrongBits (found s g m).flips ≤ 1) (hp : s.msq.port = some g) (hl : g.live = true)
    (hk : s.ptl.kind = .scrub) (ha : s.ptl.asked = []) (hr : s.ptl.riding = true) (hrun : (s.record i).running = true)
    (hptr : (s.record i).pointer = w) (hli : s.rse.repairList = []) (hn : RowTableLaw s) (hw : w + 1 = s.regionWords i)
    (hv : (s.record i).valid = true)
    (hne : ((s.record i).acc + (found s g m).data.toNat * (w + 1)) % (2 ^ 61 - 1) ≠ (s.record i).digest) :
    let t := s.scrubReadEnd g i w m
    FlagSet t .digestDrift ∧ (t.record i).valid = true ∧ (t.record i).digest = (s.record i).digest ∧
      ((s.mdc.mode = .sync ∨ s.mdc.mode = .run ∨ s.mdc.mode = .repair ∨ s.mdc.mode = .ready) →
        t.mdc = { mode := .isolated, chen := false, cause := .digestDrift } ∧ t.rse.service = none ∧
        t.rse.reentry = none ∧ t.rse.repair = none) ∧
      (s.mdc.mode = .isolated → t.mdc = s.mdc) := by
  obtain ⟨z, hzm, hdig, hx⟩ := State.scrubTaken_riding_ends h hp hl hk ha hr hrun hptr hli hn hw hv
  rw [if_neg hne] at hx
  obtain ⟨htv, htd⟩ := State.scrubReadEnd_digests hx hdig.ridingDrift i
  have htm : (s.scrubReadEnd g i w m).mdc = z.ridingDrift.mdc := by
    rw [s.scrubReadEnd_eq, hx]
    simp
  have htr : (s.scrubReadEnd g i w m).rse = z.ridingDrift.rse := by
    rw [s.scrubReadEnd_eq, hx]
    simp
  have hflag : FlagSet (z.fire .digestDrift) .digestDrift := by
    unfold FlagSet
    rw [State.fire_flag]
    simp
  have hfm : (z.fire .digestDrift).mdc = s.mdc := by simpa using hzm
  have haft : Aftermath (z.fire .digestDrift) z.ridingDrift := by
    obtain ⟨-, hs⟩ | ⟨-, hs⟩ := z.ridingDrift_cases <;> rw [hs]
    · exact (Aftermath.refl _).isolateFor _
    · exact .refl _
  refine ⟨?_, htv.trans hv, htd, fun hm => ?_, fun hm => ?_⟩
  · rw [s.scrubReadEnd_eq, hx]
    exact (haft.scrubOn i w).endGroup.flags _ hflag
  · have hiso : (z.fire .digestDrift).mdc.mode.isolable = true := by
      rw [hfm]
      obtain h | h | h | h := hm <;> rw [h] <;> rfl
    obtain ⟨-, hs⟩ | ⟨hd, -⟩ := z.ridingDrift_cases
    · rw [htm, htr, hs, State.isolateFor_rse _ _ hiso]
      exact ⟨(State.isolateFor_mdc _ _ hiso).1, rfl, rfl, rfl⟩
    · rw [hzm, (Mode.driftIsolates_iff _).2 hm] at hd
      cases hd
  · obtain ⟨hd, -⟩ | ⟨-, hs⟩ := z.ridingDrift_cases
    · rw [hzm, hm] at hd
      cases hd
    · rw [htm, hs, hfm]

/-- A region that matches. -/
theorem State.scrubReadEnd_riding_matches (h : wrongBits (found s g m).flips ≤ 1) (hp : s.msq.port = some g) (hl : g.live = true)
    (hk : s.ptl.kind = .scrub) (ha : s.ptl.asked = []) (hr : s.ptl.riding = true) (hrun : (s.record i).running = true)
    (hptr : (s.record i).pointer = w) (hli : s.rse.repairList = []) (hn : RowTableLaw s) (hw : w + 1 = s.regionWords i)
    (hv : (s.record i).valid = true)
    (heq : ((s.record i).acc + (found s g m).data.toNat * (w + 1)) % (2 ^ 61 - 1) = (s.record i).digest) :
    let t := s.scrubReadEnd g i w m
    t.mdc = s.mdc ∧ (t.record i).valid = true ∧ (t.record i).digest = (s.record i).digest := by
  obtain ⟨z, hzm, hdig, hx⟩ := State.scrubTaken_riding_ends h hp hl hk ha hr hrun hptr hli hn hw hv
  rw [if_pos heq] at hx
  obtain ⟨htv, htd⟩ := State.scrubReadEnd_digests hx hdig i
  refine ⟨?_, htv.trans hv, htd⟩
  rw [s.scrubReadEnd_eq, hx, ← hzm]
  simp

/-! ### An uncorrectable word in ISOLATED -/

theorem State.scrubReadEnd_isolatedMode (h2 : wrongBits (found s g m).flips = 2) (hp : s.msq.port = some g) (hl : g.live = true)
    (ha : s.ptl.asked = []) (hm : s.mdc.mode = .isolated) (hw : w + 1 < s.regionWords i) (hli : s.rse.repairList = []) :
    let t := s.scrubReadEnd g i w m
    t.mdc = s.mdc ∧ t.ptl.riding = false ∧ t.ptl.place = some { region := i, word := w + 1 } ∧
      (s.ptl.riding = true → t.record i = { s.record i with running := false }) := by
  have hy := State.readActed_eventOnly h2 fun _ _ => .inr (by rw [hm]; exact ⟨nofun, nofun, nofun, nofun, nofun⟩)
  obtain ⟨hnm, hnp, hnq, hnd, hnr⟩ : (s.readNoted g m).mdc = s.mdc ∧ (s.readNoted g m).ptl = s.ptl ∧
      (s.readNoted g m).msq = s.msq ∧ (s.readNoted g m).dgu = s.dgu ∧ (s.readNoted g m).rse = s.rse := by simp
  have hasked : (s.readActed g m).ptl.asked = [] := by rw [hy, hnp, ha]
  obtain ⟨-, htm, -⟩ := State.scrubReadEnd_kept (i := i) (w := w) h2 hasked
  obtain ⟨htp, hti⟩ := State.scrubReadEnd_next h2 (by rw [hy, State.groupLive_of (g := g) (by rw [hnq, hp]), hl]) hasked hw
    (by rw [hy, hnr, hli]; exact List.not_mem_nil)
  rw [hy, hnp, State.record_of_dgu hnd] at hti
  rw [hy] at htm
  dsimp only
  rw [htp]
  exact ⟨htm.trans hnm, rfl, rfl, fun hr => hti.trans (if_pos hr)⟩

/-! ### What every uncorrectable word brings -/

theorem State.scrubReadEnd_noted (h2 : wrongBits (found s g m).flips = 2) (ho : g.op = .scrubRead i w a) :
    let t := s.scrubReadEnd g i w m
    FlagSet t .memUncorrectable ∧ Captured s t .memory .s (some a) (.memory .read) ∧
      memLookup t.mem (groupKey g) = some (found s g m) ∧ CellsKept s t [groupKey g] ∧ t.msq.port = none := by
  obtain ⟨hmem, haft⟩ := State.scrubTaken_reported (i := i) (w := w) h2
  obtain ⟨hflag, hcap⟩ := State.readActed_noted h2 haft.endGroup
  obtain ⟨hlook, hkept⟩ := State.readActed_read (s := s) (g := g) (m := m) (t := s.scrubReadEnd g i w m) (by rw [h2]; exact nofun)
    h2.le ((State.endGroup_frame _).2.2.2.2.2.2.2.2.2.2.2.2.1.trans hmem)
  rw [ho] at hcap
  exact ⟨hflag, hcap, hlook, hkept, by rw [s.scrubReadEnd_eq, State.endGroup_msq]⟩

/-! ### The statement -/

/-- Settles O46, by the outcome of the read, the riding audit and the word the pass comes to. -/
theorem scrubReadEndAdvancesPass : Obligations.ScrubReadEndAdvancesPass := by
  refine ⟨fun s g i w a m j js hp ho hl _ ha _ hr hli h0 hw hv => ⟨_, exec_scrubReadEnd_of m hp ho,
      State.scrubReadEnd_audits h0 hp hl ha hr hli hw hv⟩,
    fun s g i w a m pl hp ho hl hk ha _ hn hpl h2 => ?_,
    fun s g i w a m hp ho hl hk ha _ => ⟨fun hr h0 hw hb => ⟨_, exec_scrubReadEnd_of m hp ho,
        State.scrubReadEnd_resting_next h0 hp hl hr ha hw hb⟩,
      fun hr h0 hw hb hnext hf => ⟨_, exec_scrubReadEnd_of m hp ho,
        State.scrubReadEnd_resting_past h0 hp hl hk hr ha hw hb hnext hf⟩,
      fun hr h0 hw hli => ⟨fun j hj => ⟨_, exec_scrubReadEnd_of m hp ho,
          State.scrubReadEnd_resting_enters h0 hp hl hr ha hw hli hj⟩,
        fun j hend hj => ⟨_, exec_scrubReadEnd_of m hp ho,
          State.scrubReadEnd_resting_completes h0 hp hl hk hr ha hw hli hend hj⟩⟩,
      fun hr hrun hptr h hli hn => ⟨_, exec_scrubReadEnd_of m hp ho,
        fun h1 => State.scrubReadEnd_riding_corrected h1 hp hl hk ha hr hrun hli hn,
        fun hw => State.scrubReadEnd_riding_taken h hp hl hk ha hr hrun hptr hli hn hw,
        fun hw hv hne => State.scrubReadEnd_riding_drifts h hp hl hk ha hr hrun hptr hli hn hw hv hne,
        fun hw hv heq => State.scrubReadEnd_riding_matches h hp hl hk ha hr hrun hptr hli hn hw hv heq⟩,
      fun h2 hm hw hli => ?_⟩⟩
  · obtain ⟨hflag, hcap, hlook, hkept, hport⟩ := State.scrubReadEnd_noted (s := s) (m := m) h2 ho
    refine ⟨_, exec_scrubReadEnd_of m hp ho, hflag, hcap, hlook, hkept, hport, fun h => ?_, fun hc hm hli => ⟨fun p hf hroom => ?_,
      fun hv => State.scrubReadEnd_alone h2 hpl hp ho hl hk ha hc hm hv⟩, fun hc hm => ⟨fun hlen hb => ?_, fun hlen hb => ?_⟩,
      fun h => State.scrubReadEnd_quiet h2 ha (State.readActed_harmless h2 hpl ho h)⟩
    · exact State.scrubReadEnd_isolated h2 hp ho hl hk (by
        obtain ⟨-, h⟩ | ⟨-, h | h⟩ := h
        · exact h
        · exact .inl h
        · exact .inr (.inr (.inr h))) (State.readActed_isolates h2 hpl h)
    · exact State.scrubReadEnd_repairs h2 hpl hp ho hl hk ha hn hc hm hli hf hroom
    · exact State.scrubReadEnd_joins h2 hpl hp ho hl hk ha hc hm hlen hb
    · exact State.scrubReadEnd_overflows h2 hpl hp ho hl hk hc hm hlen hb
  · obtain ⟨hflag, hcap, hlook, -, -⟩ := State.scrubReadEnd_noted (s := s) (m := m) h2 ho
    obtain ⟨hmdc, hride, hplace, hrec⟩ := State.scrubReadEnd_isolatedMode h2 hp hl ha hm hw hli
    exact ⟨_, exec_scrubReadEnd_of m hp ho, hmdc, hflag, hcap, hlook, hride, hplace, hrec⟩

end Sys2Proof.Machine
end

section
/-! The digest records and the table digest through every operation (R54 to R61). O8 speaks of the digest unit alone: an
operation that leaves the unit, as its frame lemma says, keeps the law, and those that touch a record are walked through. -/

namespace Sys2Proof.Machine

variable {s : State} {x : DigestRecord}

/-! ### A record -/

/-- R55, R56: D and A lie below M; R54, R58: an INVALID record has D 0. -/
def DigestRecord.InRange (x : DigestRecord) : Prop :=
  x.digest < Config.digestModulus ∧ x.acc < Config.digestModulus ∧ (x.valid = false → x.digest = 0)

theorem digestModulus_pos : 0 < Config.digestModulus := by decide

theorem addDigest_lt (a b : Nat) : addDigest a b < Config.digestModulus := Nat.mod_lt _ digestModulus_pos

theorem DigestRecord.InRange.initial : DigestRecord.initial.InRange := ⟨digestModulus_pos, digestModulus_pos, fun _ => rfl⟩

/-- A write follows a VALID record's D and leaves the 0 of an INVALID one (R57). -/
theorem DigestRecord.InRange.write (h : x.InRange) (i : Nat) (old new : Word) : (x.write i old new).InRange := by
  obtain ⟨hd, ha, hv⟩ := h
  refine ⟨?_, ?_, fun hx => ?_⟩
  · show (if x.valid then addDigest x.digest (writeDelta i old new) else x.digest) < _
    split
    · exact addDigest_lt _ _
    · exact hd
  · show (if x.running && i < x.pointer then addDigest x.acc (writeDelta i old new) else x.acc) < _
    split
    · exact addDigest_lt _ _
    · exact ha
  · exact (if_neg (by rw [show x.valid = false from hx]; exact nofun)).trans (hv hx)

theorem DigestRecord.InRange.lose (h : x.InRange) : x.lose.InRange := ⟨digestModulus_pos, h.2.1, fun _ => rfl⟩

theorem DigestRecord.InRange.auditStart (h : x.InRange) : x.auditStart.InRange := ⟨h.1, digestModulus_pos, h.2.2⟩

/-- An audit word adds a term below M; the last one makes the record VALID (R60, R61). -/
theorem DigestRecord.InRange.auditWord (h : x.InRange) (n i : Nat) (v : Word) : (x.auditWord n i v).InRange := by
  have ha : x.accAfter v < Config.digestModulus := addDigest_lt _ _
  unfold DigestRecord.auditWord
  split
  · split
    · refine ⟨?_, ha, nofun⟩
      show (if x.valid then x.digest else x.accAfter v) < _
      split
      · exact h.1
      · exact ha
    · exact ⟨h.1, ha, h.2.2⟩
  · exact h

/-! ### The unit -/

/-- Every record and the table digest are in range. -/
structure Dgu.InRange (d : Dgu) : Prop where
  records : ∀ i : Fin 32, d.records[i].InRange
  table : d.tableDigest < Config.digestModulus

/-- DigestLaw is a law of the digest unit. -/
theorem digestLaw_iff (s : State) : DigestLaw s ↔ s.dgu.InRange := ⟨fun h => ⟨h.1, h.2⟩, fun h => ⟨h.1, h.2⟩⟩

theorem Dgu.InRange.initial : Dgu.initial.InRange where
  records i := by
    show (Vector.replicate 32 DigestRecord.initial)[i].InRange
    simpa using DigestRecord.InRange.initial
  table := digestModulus_pos

theorem Dgu.InRange.updateRecord (h : s.dgu.InRange) (i : Fin 32) {f : DigestRecord → DigestRecord}
    (hf : ∀ x, x.InRange → (f x).InRange) : (s.updateRecord i f).dgu.InRange where
  records j := by
    show ((s.updateRecord i f).record j).InRange
    rw [State.updateRecord_record]
    split
    · exact hf _ (h.records i)
    · exact h.records j
  table := h.table

@[simp] theorem Dgu.InRange.auditStart (h : s.dgu.InRange) (i : Fin 32) :
    (s.updateRecord i DigestRecord.auditStart).dgu.InRange := h.updateRecord i fun _ hx => hx.auditStart

@[simp] theorem Dgu.InRange.auditStop (h : s.dgu.InRange) (i : Fin 32) :
    (s.updateRecord i DigestRecord.auditStop).dgu.InRange := h.updateRecord i fun _ => id

@[simp] theorem Dgu.InRange.handAudit (h : s.dgu.InRange) (i : Fin 32) (w : Nat) (v : Word) :
    (s.handAudit i w v).dgu.InRange := h.updateRecord i fun _ hx => hx.auditWord _ _ _

@[simp] theorem Dgu.InRange.reportDigest (h : s.dgu.InRange) (g : Group) (o : ReadOutcome) (old new : Word) :
    (s.reportDigest g o old new).dgu.InRange := by
  unfold State.reportDigest
  split
  · split
    · refine h.updateRecord _ fun x hx => ?_
      split
      · exact hx.write _ _ _
      · exact hx.lose
    · exact h
  · exact h

@[simp] theorem Dgu.InRange.invalidateAll (h : s.dgu.InRange) : s.invalidateAll.dgu.InRange where
  records := Dgu.InRange.initial.records
  table := h.table

/-- The CLEAR pass leaves D = 0 in the records that it makes VALID (R62). -/
@[simp] theorem Dgu.InRange.validateCleared (h : s.dgu.InRange) : s.validateCleared.dgu.InRange where
  records i := by
    show (s.validateCleared.record i).InRange
    rw [State.validateCleared_record]
    split
    · exact ⟨digestModulus_pos, (h.records i).2.1, nofun⟩
    · exact h.records i
  table := by simpa using h.table

/-! ### The patrol -/

@[simp] theorem Dgu.InRange.enterScrub (h : s.dgu.InRange) (i : Fin 32) : (s.enterScrub i).dgu.InRange := by
  unfold State.enterScrub
  split <;> simp [h]

@[simp] theorem Dgu.InRange.beginPass (h : s.dgu.InRange) : s.beginPass.dgu.InRange := by
  unfold State.beginPass
  split <;> simp [h]

@[simp] theorem Dgu.InRange.scrubTo (h : s.dgu.InRange) (i : Fin 32) (w : Nat) : (s.scrubTo i w).dgu.InRange := by
  unfold State.scrubTo State.nextScrubRegion State.completePass
  split
  · simpa using h
  · split <;> simp [h]

@[simp] theorem Dgu.InRange.skip (h : s.dgu.InRange) : s.skip.dgu.InRange := by
  unfold State.skip
  generalize Config.repairSize + 1 = k
  induction k generalizing s with
  | zero => exact h
  | succ k ih =>
    unfold State.skipListed
    split
    · split
      · exact ih (h.scrubTo _ _)
      · exact h
    · exact h

@[simp] theorem Dgu.InRange.startScrub (h : s.dgu.InRange) : s.startScrub.dgu.InRange := by
  unfold State.startScrub
  simp [h]

@[simp] theorem Dgu.InRange.stopRiding (h : s.dgu.InRange) (i : Fin 32) : (s.stopRiding i).dgu.InRange := h.auditStop i

@[simp] theorem Dgu.InRange.resumeScrub (h : s.dgu.InRange) : s.resumeScrub.dgu.InRange := by
  unfold State.resumeScrub
  split
  · exact h
  · dsimp only
    split
    · split <;> simp [h]
    · simpa using h

@[simp] theorem Dgu.InRange.enterAudit (h : s.dgu.InRange) (i : Fin 32) : (s.enterAudit i).dgu.InRange := h.auditStart i

@[simp] theorem Dgu.InRange.stopAuditHere (h : s.dgu.InRange) : s.stopAuditHere.dgu.InRange := by
  unfold State.stopAuditHere
  split <;> simp [h]

@[simp] theorem Dgu.InRange.patrolIsolated (h : s.dgu.InRange) (m : Mode) : (s.patrolIsolated m).dgu.InRange := by
  unfold State.patrolIsolated
  split
  · simp [h]
  · simp [h]
  · split <;> simp [h]
  · split <;> simp [h]

@[simp] theorem Dgu.InRange.patrolFollows (h : s.dgu.InRange) (old new : Mode) : (s.patrolFollows old new).dgu.InRange := by
  unfold State.patrolFollows State.startVerify
  dsimp only
  split
  case h_3 => split <;> simp [h]
  all_goals simp [h]

/-! ### Changes of mode -/

@[simp] theorem Dgu.InRange.requestMode (h : s.dgu.InRange) (m : Mode) : (s.requestMode m).dgu.InRange := by
  unfold State.requestMode State.enterMode
  dsimp only
  split
  · split <;> simp [h]
  · exact h

@[simp] theorem Dgu.InRange.isolateFor (h : s.dgu.InRange) (c : Cause) : (s.isolateFor c).dgu.InRange := by
  unfold State.isolateFor State.enterIsolated
  dsimp only
  split
  · simp [h]
  · exact h

/-! ### The vote -/

@[simp] theorem Dgu.InRange.uncheckedLimit (h : s.dgu.InRange) : s.uncheckedLimit.dgu.InRange := by
  unfold State.uncheckedLimit
  split <;> simp [h]

@[simp] theorem Dgu.InRange.syncLimit (h : s.dgu.InRange) : s.syncLimit.dgu.InRange := by
  unfold State.syncLimit
  split <;> simp [h]

@[simp] theorem Dgu.InRange.voteConsequence (h : s.dgu.InRange) (o : VoteOutcome) (r : RegionResult) :
    (s.voteConsequence o r).dgu.InRange := by
  unfold State.voteConsequence State.syncOutcome State.runOutcome
  split
  · simp [h]
  · split <;> split <;> simp [h]

@[simp] theorem Dgu.InRange.decideRecord (h : s.dgu.InRange) (c : Word) : (s.decideRecord c).dgu.InRange := by
  unfold State.decideRecord State.decideWith
  split
  · exact h
  · split
    · split <;> simp [h]
    · exact h

@[simp] theorem Dgu.InRange.decideIfComplete (h : s.dgu.InRange) (c : Word) : (s.decideIfComplete c).dgu.InRange := by
  unfold State.decideIfComplete
  split
  · exact h
  · split <;> simp [h]

@[simp] theorem Dgu.InRange.voteDigest (h : s.dgu.InRange) (p : Port) (m : Word) (x : PartnerSet) :
    (s.voteDigest p m x).dgu.InRange := by
  unfold State.voteDigest State.takeSet
  dsimp only
  split
  · split
    · repeat' split
      all_goals simp [h]
    · simpa using h
  · simpa using h

@[simp] theorem Dgu.InRange.voteLinkDown (h : s.dgu.InRange) (p : Port) : (s.voteLinkDown p).dgu.InRange := by
  unfold State.voteLinkDown
  dsimp only
  split <;> simp [h]

@[simp] theorem Dgu.InRange.decideOthers (h : s.dgu.InRange) (n : Word) : (s.decideOthers n).dgu.InRange := by
  unfold State.decideOthers
  generalize s.vtu.records.map (·.cycle) = cs
  induction cs generalizing s with
  | nil => exact h
  | cons c cs ih =>
    rw [List.foldl_cons]
    split
    · exact ih h
    · exact ih (h.decideRecord c)

/-! ### Requests to a partner -/

@[simp] theorem Dgu.InRange.copyRefused (h : s.dgu.InRange) : s.copyRefused.dgu.InRange := by
  unfold State.copyRefused
  generalize 3 = k
  induction k generalizing s with
  | zero => exact h.isolateFor _
  | succ k ih =>
    unfold State.seekCopy
    split
    · exact h
    · split
      · exact h.isolateFor _
      · dsimp only
        split
        · simpa using h
        · exact ih (by simpa using h)

@[simp] theorem Dgu.InRange.blockRefused (h : s.dgu.InRange) : s.blockRefused.dgu.InRange := by
  unfold State.blockRefused
  generalize 3 = k
  induction k generalizing s with
  | zero => exact h.isolateFor _
  | succ k ih =>
    unfold State.seekBlock
    split
    · exact h
    · split
      · exact h.isolateFor _
      · split
        · simpa using h
        · exact ih (by simpa using h)

@[simp] theorem Dgu.InRange.askFrom (h : s.dgu.InRange) (p : Port) : (s.askFrom p).dgu.InRange := by
  unfold State.askFrom
  split
  · exact h
  · split <;> simp [h]

@[simp] theorem Dgu.InRange.askFirst (h : s.dgu.InRange) : s.askFirst.dgu.InRange := by
  unfold State.askFirst
  split <;> simp [h]

/-! ### Audits and uncorrectable words -/

@[simp] theorem Dgu.InRange.repairFailed (h : s.dgu.InRange) : s.repairFailed.dgu.InRange := h.isolateFor _

@[simp] theorem Dgu.InRange.repairSucceeded (h : s.dgu.InRange) : s.repairSucceeded.dgu.InRange := by
  unfold State.repairSucceeded
  simp [h]

@[simp] theorem Dgu.InRange.enterRepairAudit (h : s.dgu.InRange) (i : Fin 32) : (s.enterRepairAudit i).dgu.InRange := by
  unfold State.enterRepairAudit
  split <;> simp [h]

@[simp] theorem Dgu.InRange.beginRepairAudit (h : s.dgu.InRange) (is : List (Fin 32)) :
    (s.beginRepairAudit is).dgu.InRange := by
  unfold State.beginRepairAudit
  dsimp only
  split <;> simp [h]

@[simp] theorem Dgu.InRange.askRepairAudit (h : s.dgu.InRange) (is : List (Fin 32)) : (s.askRepairAudit is).dgu.InRange := by
  unfold State.askRepairAudit
  split <;> simp [h]

@[simp] theorem Dgu.InRange.abandonRiding (h : s.dgu.InRange) (i : Fin 32) : (s.abandonRiding i).dgu.InRange := by
  unfold State.abandonRiding
  split
  · split <;> simp [h]
  · split
    · split <;> simp [h]
    · exact h

@[simp] theorem Dgu.InRange.blockJoined (h : s.dgu.InRange) (i : Fin 32) : (s.blockJoined i).dgu.InRange := by
  have ha := h.abandonRiding i
  unfold State.blockJoined State.repairStopped
  dsimp only
  split
  · exact (Dgu.InRange.askFirst (Dgu.InRange.stopAuditHere (s := (s.abandonRiding i).forget WordOp.ofS) ha)).resumeScrub
  · split
    · simp [ha]
    · split <;> simp [ha]

@[simp] theorem Dgu.InRange.consequence (h : s.dgu.InRange) (pl : WordPlace) (a : Nat) : (s.consequence pl a).dgu.InRange := by
  have hr (i : Fin 32) (b : Nat) : (s.enterRepair i b).dgu.InRange := by
    unfold State.enterRepair
    exact Dgu.InRange.askFirst (by simp [h])
  have hj (i : Fin 32) (b : Nat) : (s.joinRepair i b).dgu.InRange := by
    unfold State.joinRepair
    split
    · exact h
    · split <;> simp [h]
  unfold State.consequence
  split <;> simp [h, hr, hj]

@[simp] theorem Dgu.InRange.reportOutcome (h : s.dgu.InRange) (g : Group) (o : ReadOutcome) :
    (s.reportOutcome g o).dgu.InRange := by
  unfold State.reportOutcome State.reportUncorrectable
  split
  · exact h
  · simpa using h
  · dsimp only
    split <;> simp [h]

@[simp] theorem Dgu.InRange.scrubEnd (h : s.dgu.InRange) (i : Fin 32) (w : Nat) (o : ReadOutcome) (v : Word) :
    (s.scrubEnd i w o v).dgu.InRange := by
  have hw : (s.scrubWord i w o v).dgu.InRange := by
    unfold State.scrubWord State.ridingAnswer State.ridingDrift
    dsimp only
    repeat' split
    all_goals simp [h]
  have hs := (hw.scrubTo i (w + 1)).skip
  unfold State.scrubEnd State.beginAsked
  split
  · exact hs
  · exact hs.beginRepairAudit _

@[simp] theorem Dgu.InRange.repairAnswer (h : s.dgu.InRange) (i : Fin 32) (w : Nat) (a : AuditAnswer) :
    (s.repairAnswer i w a).dgu.InRange := by
  unfold State.repairAnswer State.nextRepairAudit
  split
  case h_2 => split <;> simp [h]
  all_goals simp [h]

@[simp] theorem Dgu.InRange.verifyAnswer (h : s.dgu.InRange) (i : Fin 32) (w : Nat) (a : AuditAnswer) :
    (s.verifyAnswer i w a).dgu.InRange := by
  unfold State.verifyAnswer State.nextVerify
  split
  · simpa using h
  · split <;> simp [h]

@[simp] theorem Dgu.InRange.auditEnd (h : s.dgu.InRange) (i : Fin 32) (w : Nat) (o : ReadOutcome) (v : Word) :
    (s.auditEnd i w o v).dgu.InRange := by
  unfold State.auditEnd
  dsimp only
  split
  · simp [h]
  · split
    · simp [h]
    · split <;> simp [h]

@[simp] theorem Dgu.InRange.clearEnd (h : s.dgu.InRange) (i : Fin 32) (w : Nat) : (s.clearEnd i w).dgu.InRange := by
  unfold State.clearEnd
  split
  · simpa using h
  · split <;> simp [h]

end Sys2Proof.Machine
end

section
/-! The digest unit through the commands, the frames taken, the links and the ends of the groups, and every step (O8). -/

namespace Sys2Proof.Machine

variable {s : State}

/-! ### Management commands and accesses -/

/-- A command that its mode may refuse. -/
theorem Dgu.InRange.acceptedIn (h : s.dgu.InRange) (ms : Mode → Bool) (f : State → State) (hf : (f s).dgu.InRange) :
    (s.acceptedIn ms f).dgu.InRange := by
  unfold State.acceptedIn
  split
  · exact hf
  · simpa using h

theorem digestOf_lt (ws : List Word) : digestOf ws < Config.digestModulus := by
  cases ws with
  | nil => exact digestModulus_pos
  | cons => exact Nat.mod_lt _ digestModulus_pos

/-- The close makes every record INVALID and takes the table digest mod M (R7, R63). -/
theorem Dgu.InRange.cmdTableClose (h : s.dgu.InRange) : s.cmdTableClose.dgu.InRange := by
  unfold State.cmdTableClose State.closeTable
  refine h.acceptedIn _ _ ?_
  split
  · simpa using h
  · exact Dgu.InRange.requestMode (s := { s.invalidateAll with
      rgt := { s.rgt with closed := true }, dgu := { s.invalidateAll.dgu with tableDigest := digestOf s.rgt.image } })
      ⟨h.invalidateAll.records, digestOf_lt _⟩ .loaded

theorem Dgu.InRange.cmdCycleMark (h : s.dgu.InRange) : s.cmdCycleMark.dgu.InRange := by
  unfold State.cmdCycleMark State.acceptMark
  split
  · simpa using h
  · refine h.acceptedIn _ _ ?_
    dsimp only
    split <;> simp [h]

theorem Dgu.InRange.cmdReenter (h : s.dgu.InRange) : s.cmdReenter.dgu.InRange := by
  unfold State.cmdReenter
  refine h.acceptedIn _ _ ?_
  split
  · simpa using h
  · have hr : s.reenter.dgu.InRange := Dgu.InRange.copyRefused (by simp [h])
    simpa using hr

theorem Dgu.InRange.carryOut (h : s.dgu.InRange) : s.carryOut.dgu.InRange := by
  unfold State.carryOut
  split
  case h_4 => exact Dgu.InRange.initial
  case h_5 =>
    unfold State.cmdTableOpen
    refine h.acceptedIn _ _ ?_
    split
    · simpa using h
    · exact Dgu.InRange.requestMode (s := { s with rgt := Rgt.initial }) h .load
  case h_7 => exact h.cmdTableClose
  case h_9 => exact h.acceptedIn _ _ (h.requestMode .clearing)
  case h_10 => exact h.acceptedIn _ _ (h.isolateFor .commanded)
  case h_11 => exact h.cmdCycleMark
  case h_13 => exact h.cmdReenter
  all_goals simpa using h

theorem Dgu.InRange.writeWord (h : s.dgu.InRange) (i : Nat) (v : Word) : (s.writeWord i v).dgu.InRange := by
  unfold State.writeWord
  split
  · exact Dgu.InRange.carryOut (s := s.storeWord 0 v) h
  · split
    · simpa using h
    · exact h

@[simp] theorem Dgu.InRange.writeWords (h : s.dgu.InRange) (i : Nat) (vs : List Word) : (s.writeWords i vs).dgu.InRange := by
  induction vs generalizing s i with
  | nil => exact h
  | cons v vs ih => exact ih (h.writeWord i v) _

theorem Dgu.InRange.take (h : s.dgu.InRange) (a : Access) : (s.take a).dgu.InRange := by
  cases a with
  | transaction tr =>
    show (s.transaction tr).dgu.InRange
    unfold State.transaction State.aperture
    split
    · simpa using h
    · split
      · simpa using h
      · split <;> simp [h]
    · simpa using h
  | word i v => exact h.writeWord i v
  | command code ps => exact Dgu.InRange.carryOut (s := (s.storeParams ps).storeWord 0 code) (h.writeWords 1 ps)

theorem Dgu.InRange.takeAll (h : s.dgu.InRange) (as : List Access) : (s.takeAll as).dgu.InRange := by
  induction as generalizing s with
  | nil => exact h
  | cons a as ih =>
    unfold State.takeAll
    split
    · exact h
    · refine ih ?_
      unfold State.takeNext
      dsimp only
      split <;> exact h.take a

/-! ### Frames taken -/

@[simp] theorem Dgu.InRange.reentryHears (h : s.dgu.InRange) (p : Port) (b : Bool) : (s.reentryHears p b).dgu.InRange := by
  unfold State.reentryHears
  split
  · exact h
  · split <;> simp [h]

@[simp] theorem Dgu.InRange.repairHears (h : s.dgu.InRange) (p : Port) (m : Option Mode) :
    (s.repairHears p m).dgu.InRange := by
  unfold State.repairHears
  split
  · exact h
  · split <;> simp [h]

@[simp] theorem Dgu.InRange.takeIdle (h : s.dgu.InRange) (p : Port) (m : Option Mode) (c : Option Word) (x : Role) :
    (s.takeIdle p m c x).dgu.InRange := by
  unfold State.takeIdle
  simp [h]

@[simp] theorem Dgu.InRange.targetDigest (h : s.dgu.InRange) (p : Port) (m : Word) (x : PartnerSet) :
    (s.targetDigest p m x).dgu.InRange := by
  unfold State.targetDigest State.mirrorAgrees State.tryJoin State.joinNow State.joinMissed State.mirrorDiffers
  dsimp only
  repeat' split
  all_goals simp [h]

@[simp] theorem Dgu.InRange.takeDigest (h : s.dgu.InRange) (p : Port) (m : Word) (x : PartnerSet) :
    (s.takeDigest p m x).dgu.InRange := by
  unfold State.takeDigest
  exact (Dgu.InRange.reentryHears (by simp [h]) p _).repairHears p _ |>.targetDigest p m x

@[simp] theorem Dgu.InRange.takeCopyRefuse (h : s.dgu.InRange) (p : Port) : (s.takeCopyRefuse p).dgu.InRange := by
  unfold State.takeCopyRefuse
  repeat' split
  all_goals simp [h]

@[simp] theorem Dgu.InRange.takeAbandon (h : s.dgu.InRange) (p : Port) (w : Word) : (s.takeAbandon p w).dgu.InRange := by
  have he (s : State) (h : s.dgu.InRange) : (s.reentryAbandoned p w).dgu.InRange := by
    unfold State.reentryAbandoned
    repeat' split
    all_goals simp [h]
  have hp (s : State) (h : s.dgu.InRange) : (s.repairAbandoned p w).dgu.InRange := by
    unfold State.repairAbandoned
    repeat' split
    all_goals simp [h]
  exact hp _ (he _ (by simpa using h))

@[simp] theorem Dgu.InRange.takeSegment (h : s.dgu.InRange) (p : Port) (a : Nat) (ws : List Word) :
    (s.takeSegment p a ws).dgu.InRange := by
  unfold State.takeSegment State.repairSegment
  repeat' split
  all_goals simp [h]

@[simp] theorem Dgu.InRange.takeForward (h : s.dgu.InRange) (p : Port) (a : Nat) (w : Word) :
    (s.takeForward p a w).dgu.InRange := by
  unfold State.takeForward
  repeat' split
  all_goals simp [h]

@[simp] theorem Dgu.InRange.takeCopyEnd (h : s.dgu.InRange) (p : Port) : (s.takeCopyEnd p).dgu.InRange := by
  unfold State.takeCopyEnd
  repeat' split
  all_goals simp [h]

@[simp] theorem Dgu.InRange.takeRepairEnd (h : s.dgu.InRange) (p : Port) (b : Nat) : (s.takeRepairEnd p b).dgu.InRange := by
  unfold State.takeRepairEnd State.blockRestored
  dsimp only
  repeat' split
  all_goals simp [h]

/-! ### Links -/

@[simp] theorem Dgu.InRange.goDown (h : s.dgu.InRange) (p : Port) (d : LinkDetail) : (s.goDown p d).dgu.InRange := by
  have he (s : State) (h : s.dgu.InRange) : (s.reentryLinkDown p).dgu.InRange := by
    unfold State.reentryLinkDown
    repeat' split
    all_goals simp [h]
  have hp (s : State) (h : s.dgu.InRange) : (s.repairLinkDown p).dgu.InRange := by
    unfold State.repairLinkDown
    repeat' split
    all_goals simp [h]
  unfold State.goDown
  exact hp _ (he _ (by simp [h]))

@[simp] theorem Dgu.InRange.arrival (h : s.dgu.InRange) (p : Port) (w : WireFrame) : (s.arrival p w).dgu.InRange := by
  have hb (d : LinkDetail) : (s.badArrival p d).dgu.InRange := by
    unfold State.badArrival
    dsimp only
    split <;> simp [h]
  unfold State.arrival
  split
  · exact hb _
  · simpa using h
  · exact hb _
  · unfold State.goodArrival State.offerRx State.overrun
    dsimp only
    repeat' split
    all_goals simp [h]

/-! ### Groups that end -/

theorem Dgu.InRange.endGroup (h : s.dgu.InRange) : s.endGroup.dgu.InRange := by simpa using h

theorem Dgu.InRange.strayAudit (h : s.dgu.InRange) (g : Group) (i : Fin 32) (w : Nat) (o : ReadOutcome) (v : Word) :
    (s.strayAudit g i w o v).dgu.InRange := by
  unfold State.strayAudit
  split <;> simp [h]

/-- A read slot, its write-back and the report of its outcome. -/
theorem Dgu.InRange.readReported (h : s.dgu.InRange) (g : Group) (m : CellSample) (o : ReadOutcome) (v : Word) :
    (((s.readSlot g.row g.word m).1.writeBack g o v).reportOutcome g o).dgu.InRange := by
  simp [h]

theorem Dgu.InRange.scrubReadEnd (h : s.dgu.InRange) (g : Group) (i : Fin 32) (w : Nat) (m : CellSample) :
    (s.scrubReadEnd g i w m).dgu.InRange := by
  unfold State.scrubReadEnd
  apply Dgu.InRange.endGroup
  split
  · exact (h.readReported g m _ _).scrubEnd _ _ _ _
  · exact (h.readReported g m _ _).strayAudit _ _ _ _ _

theorem Dgu.InRange.auditReadEnd (h : s.dgu.InRange) (g : Group) (i : Fin 32) (w : Nat) (m : CellSample) :
    (s.auditReadEnd g i w m).dgu.InRange := by
  unfold State.auditReadEnd
  apply Dgu.InRange.endGroup
  split
  · exact (h.readReported g m _ _).auditEnd _ _ _ _
  · exact (h.readReported g m _ _).strayAudit _ _ _ _ _

theorem Dgu.InRange.clearWriteEnd (h : s.dgu.InRange) (g : Group) (i : Fin 32) (w : Nat) :
    (s.clearWriteEnd g i w).dgu.InRange := by
  unfold State.clearWriteEnd
  apply Dgu.InRange.endGroup
  split <;> simp [h]

theorem Dgu.InRange.copyReadEnd (h : s.dgu.InRange) (g : Group) (m : CellSample) : (s.copyReadEnd g m).dgu.InRange := by
  unfold State.copyReadEnd
  apply Dgu.InRange.endGroup
  split <;> simp [h]

theorem Dgu.InRange.frameWriteEnd (h : s.dgu.InRange) (g : Group) (p : Port) (v : Word) (m : CellSample) :
    (s.frameWriteEnd g p v m).dgu.InRange := by
  unfold State.frameWriteEnd
  apply Dgu.InRange.endGroup
  dsimp only
  split <;> split <;> simp [h]

theorem Dgu.InRange.rowMoveCopyEnd (h : s.dgu.InRange) (g : Group) (m : CellSample) :
    (s.rowMoveCopyEnd g m).dgu.InRange := by
  unfold State.rowMoveCopyEnd
  dsimp only
  split
  · apply Dgu.InRange.endGroup
    split <;> simp [h]
  · simp [h]

theorem Dgu.InRange.processorReadEnd (h : s.dgu.InRange) (g : Group) (m : CellSample) :
    (s.processorReadEnd g m).dgu.InRange := by
  unfold State.processorReadEnd
  simp [h]

theorem Dgu.InRange.processorWriteEnd (h : s.dgu.InRange) (g : Group) (v : Word) (m : CellSample) :
    (s.processorWriteEnd g v m).dgu.InRange := by
  unfold State.processorWriteEnd
  dsimp only
  split <;> simp [h]

theorem Dgu.InRange.partialWriteEnd (h : s.dgu.InRange) (g : Group) (v : Word) (k : BitVec 4) (m : CellSample) :
    (s.partialWriteEnd g v k m).dgu.InRange := by
  unfold State.partialWriteEnd
  simp [h]

/-- A processor group that ends, and the accesses that wait for its transaction. -/
theorem Dgu.InRange.thenTake {f : State → State} (hf : (f (s.setWaiting [])).dgu.InRange) : (s.thenTake f).dgu.InRange :=
  hf.takeAll _

/-! ### Every command -/

theorem exec_dgu_inRange (i : Instr) (s : State) (hp : ∀ c m, i ≠ .por c m) :
    ∃ t, exec i s = .next t ∧ (s.dgu.InRange → t.dgu.InRange) := by
  cases ha : accessOf i with
  | some a =>
    refine ⟨_, exec_of_access i a s ha, fun h => ?_⟩
    split
    · exact h
    · exact h.take a
  | none =>
    cases i
    case por c m => exact absurd rfl (hp c m)
    case processorTransaction tr => exact ⟨s, (exec_of_malformed s).1 tr ha, id⟩
    case apertureWordWrite k v => exact ⟨s, (exec_of_malformed s).2.1 k v ha, id⟩
    case unknownCommand code => exact ⟨s, (exec_of_malformed s).2.2 code ha, id⟩
    case processorReadEnd m =>
      obtain hs | ⟨g, _, -, -, hs⟩ := exec_processorReadEnd_cases m s
      · exact ⟨s, hs, id⟩
      · exact ⟨_, hs, fun h => .thenTake (Dgu.InRange.processorReadEnd (s := s.setWaiting []) h g m)⟩
    case processorWriteEnd m =>
      obtain hs | ⟨g, _, v, -, -, hs⟩ := exec_processorWriteEnd_cases m s
      · exact ⟨s, hs, id⟩
      · exact ⟨_, hs, fun h => .thenTake (Dgu.InRange.processorWriteEnd (s := s.setWaiting []) h g v m)⟩
    case partialWriteEnd m =>
      obtain hs | ⟨g, _, v, k, -, -, hs⟩ := exec_partialWriteEnd_cases m s
      · exact ⟨s, hs, id⟩
      · exact ⟨_, hs, fun h => .thenTake (Dgu.InRange.partialWriteEnd (s := s.setWaiting []) h g v k m)⟩
    case scrubReadEnd m =>
      obtain hs | ⟨g, _, _, _, -, -, hs⟩ := exec_scrubReadEnd_cases m s
      · exact ⟨s, hs, id⟩
      · exact ⟨_, hs, fun h => h.scrubReadEnd _ _ _ _⟩
    case auditReadEnd m =>
      obtain hs | ⟨g, _, _, _, -, -, hs⟩ := exec_auditReadEnd_cases m s
      · exact ⟨s, hs, id⟩
      · exact ⟨_, hs, fun h => h.auditReadEnd _ _ _ _⟩
    case clearWriteEnd =>
      obtain hs | ⟨g, _, _, _, -, -, hs⟩ := exec_clearWriteEnd_cases s
      · exact ⟨s, hs, id⟩
      · exact ⟨_, hs, fun h => h.clearWriteEnd _ _ _⟩
    case copyReadEnd m =>
      obtain hs | ⟨g, _, -, -, hs⟩ := exec_copyReadEnd_cases m s
      · exact ⟨s, hs, id⟩
      · exact ⟨_, hs, fun h => h.copyReadEnd _ _⟩
    case frameWriteEnd m =>
      obtain hs | ⟨g, _, _, _, -, -, hs⟩ := exec_frameWriteEnd_cases m s
      · exact ⟨s, hs, id⟩
      · exact ⟨_, hs, fun h => h.frameWriteEnd _ _ _ _⟩
    case restoringWriteEnd =>
      obtain hs | ⟨g, _, _, _, -, -, hs⟩ := exec_restoringWriteEnd_cases s
      · exact ⟨s, hs, id⟩
      · exact ⟨_, hs, fun h => by simpa using h⟩
    case rowMoveCopyEnd m =>
      obtain hs | ⟨g, _, -, -, hs⟩ := exec_rowMoveCopyEnd_cases m s
      · exact ⟨s, hs, id⟩
      · exact ⟨_, hs, fun h => h.rowMoveCopyEnd _ _⟩
    all_goals first | (cases ha; done) | refine ⟨_, rfl, fun h => ?_⟩
    case msTick => exact h
    all_goals repeat' split
    case idleFrameSend.isTrue p _ =>
      unfold State.sendIdle
      simpa using h
    all_goals simp [h]

/-- Settles O8: every command but POR keeps the digest unit in range (`exec_dgu_inRange`), and POR leaves its initial values. -/
theorem stepKeepsDigestsInRange : Obligations.StepKeepsDigestsInRange := by
  refine law_kept_by_step (fun _ _ => id) (fun c m p => (digestLaw_iff _).2 .initial) fun i s hp => ?_
  obtain ⟨t, ht, hd⟩ := exec_dgu_inRange i s hp
  exact ⟨t, ht, fun h => (digestLaw_iff t).2 (hd ((digestLaw_iff s).1 h))⟩

end Sys2Proof.Machine
end

section
/-! DIGEST_READ (O31): the words of section 13.3 field by field, and the command on the state it is put into. -/

namespace Sys2Proof.Machine

/-! ### The fields of the words -/

/-- A 61-bit value is read back from its two words (opening of chapter 13). -/
theorem joinWords_split (n : Nat) (h : n < 2 ^ 61) : joinWords (lowWord n) (highWord n) = n := by
  have hlow : (lowWord n).toNat = n % 2 ^ 32 := word_toNat _ (Nat.mod_lt _ (by decide))
  have hhigh : (highWord n).toNat = n / 2 ^ 32 % 2 ^ 29 := word_toNat _ (by omega)
  unfold joinWords bits
  rw [hlow, hhigh]
  omega

/-- The fields of a digest record's first word. -/
theorem digestWord_fields (d v r : Bool) : bit (word (flagAt 0 d + flagAt 1 v + flagAt 2 r)) 0 = d ∧
    bit (word (flagAt 0 d + flagAt 1 v + flagAt 2 r)) 1 = v ∧ bit (word (flagAt 0 d + flagAt 1 v + flagAt 2 r)) 2 = r ∧
    bits (word (flagAt 0 d + flagAt 1 v + flagAt 2 r)) 3 29 = 0 := by
  cases d <;> cases v <;> cases r <;> decide

theorem State.isDigestRegion_iff (s : State) (i : Fin 32) :
    s.isDigestRegion i = true ↔ ∃ r, s.region i = some r ∧ r.cls ≠ .nonvital := by
  unfold State.isDigestRegion Region.isDigest
  rw [Option.any_eq_true]
  simp

/-- The second result word: the region's words where it is a digest region, 0 where it is none. -/
theorem digestLength_word (s : State) (i : Fin 32) :
    (∀ r, s.region i = some r → r.cls ≠ .nonvital →
      word (if s.isDigestRegion i then s.regionWords i else 0) = word (r.length * 1024)) ∧
    ((∀ r, s.region i = some r → r.cls = .nonvital) → word (if s.isDigestRegion i then s.regionWords i else 0) = 0) := by
  refine ⟨fun r hr hc => ?_, fun h => ?_⟩
  · rw [if_pos ((s.isDigestRegion_iff i).2 ⟨r, hr, hc⟩)]
    unfold State.regionWords
    rw [hr]
    rfl
  · rw [if_neg]
    · rfl
    · intro hd
      obtain ⟨r, hr, hc⟩ := (s.isDigestRegion_iff i).1 hd
      exact hc (h r hr)

/-! ### The command -/

theorem State.cmdDigestRead_of_lt (s : State) (i : Fin 32) : (s.presented 0x0F [word i.val]).cmdDigestRead =
    (s.presented 0x0F [word i.val]).answer .done (s.digestWords i) := by
  have hp : ((s.presented 0x0F [word i.val]).param 1).toNat = i.val := by
    rw [s.presented_param 0x0F [word i.val] (by simp) 0 (by simp)]
    exact word_toNat _ (by omega)
  have hi : (⟨((s.presented 0x0F [word i.val]).param 1).toNat, by omega⟩ : Fin 32) = i := Fin.ext hp
  have hw : (s.presented 0x0F [word i.val]).digestWords i = s.digestWords i := by rw [s.presented_words]; rfl
  unfold State.cmdDigestRead
  rw [dif_pos (by omega), hi, hw]

theorem State.cmdDigestRead_table (s : State) : (s.presented 0x0F [32]).cmdDigestRead =
    (s.presented 0x0F [32]).answer .done [lowWord s.dgu.tableDigest, highWord s.dgu.tableDigest] := by
  have hp : ((s.presented 0x0F [32]).param 1).toNat = 32 := by
    rw [s.presented_param 0x0F [32] (by simp) 0 (by simp)]
    rfl
  unfold State.cmdDigestRead
  rw [dif_neg (by omega), if_pos hp, (s.presented_frame _ _).2.2.2.2.1]

theorem State.cmdDigestRead_above (s : State) (i : Word) (hi : 32 < i.toNat) :
    (s.presented 0x0F [i]).cmdDigestRead = (s.presented 0x0F [i]).answer .badParam [1] := by
  have hp : (s.presented 0x0F [i]).param 1 = i := s.presented_param 0x0F [i] (by simp) 0 (by simp)
  unfold State.cmdDigestRead
  rw [hp, dif_neg (by omega), if_neg (by omega)]
  rfl

/-- Settles O31. -/
theorem digestReadGivesRecord : Obligations.DigestReadGivesRecord := by
  refine ⟨fun s i hb => ?_, fun s hb => ?_, fun s i hb hi => ?_⟩
  · obtain ⟨hc, ho⟩ := s.issue_answered 0x0F [word i.val] _ .done _ hb (by simp) (s.cmdDigestRead_of_lt i)
    obtain ⟨hd, hv, hr, hz⟩ := digestWord_fields (s.isDigestRegion i) (s.record i).valid (s.record i).running
    obtain ⟨hlen, hnone⟩ := digestLength_word s i
    have h9 := hc.result 0 (by omega)
    have h10 := hc.result 1 (by omega)
    have h11 := hc.result 2 (by omega)
    have h12 := hc.result 3 (by omega)
    have h13 := hc.result 4 (by omega)
    have h14 := hc.result 5 (by omega)
    have h15 := hc.result 6 (by omega)
    simp only [Nat.reduceAdd] at h9 h10 h11 h12 h13 h14 h15
    refine ⟨_, _, rfl, hc, ho, ?_, ?_, ?_, ?_, fun r hreg hcls => ?_, fun h => ?_, fun h => ?_, fun h => ?_, h15⟩
    · rw [h9]
      exact hd ▸ s.isDigestRegion_iff i
    · rw [h9]; exact hv
    · rw [h9]; exact hr
    · rw [h9]; exact hz
    · rw [h10]; exact hlen r hreg hcls
    · rw [h10]; exact hnone h
    · rw [h11, h12]; exact joinWords_split _ h
    · rw [h13, h14]; exact joinWords_split _ h
  · obtain ⟨hc, ho⟩ := s.issue_answered 0x0F [32] _ .done _ hb (by simp) s.cmdDigestRead_table
    refine ⟨_, _, rfl, hc, ho, rfl, fun h => ?_⟩
    rw [hc.result 0 (by omega), hc.result 1 (by omega)]
    exact joinWords_split _ h
  · exact ⟨_, rfl, s.issue_answered 0x0F [i] _ .badParam [1] hb (by simp) (s.cmdDigestRead_above i hi)⟩

end Sys2Proof.Machine
end

section
/-! CYCLE_MARK: the DIGEST frame at the two ports, one of which may be the service port (R100, R138, R153; O41). -/

namespace Sys2Proof.Machine

variable {r s t : State} {p q : Port} {n : Word} {f : Frame} {v : Service}

/-! ### Events and captures through several offers -/

/-- No event has fired and no capture has changed. -/
def Unreported (s t : State) : Prop := Fired s t [] ∧ CapturesKept s t

theorem Unreported.of_evu (h : t.evu = s.evu) : Unreported s t :=
  ⟨fun ev => by unfold FlagSet; rw [h]; simp, fun k => by rw [h]⟩

theorem Unreported.trans (h : Unreported r s) (k : Unreported s t) : Unreported r t :=
  ⟨fun ev => by rw [k.1 ev, h.1 ev]; simp, fun c => (k.2 c).trans (h.2 c)⟩

theorem Unreported.offerFrame (s : State) (p : Port) (f : Frame) : Unreported s (s.offerFrame p f) := by
  obtain ⟨-, hf, hc, -⟩ := s.offerFrame_offered p f
  exact ⟨hf, hc⟩

theorem Unreported.count (s : State) (c : Counter) : Unreported s (s.count c) := by
  obtain ⟨hf, -, -, -, hc⟩ := s.count_evu c
  exact ⟨fun ev => by unfold FlagSet; rw [hf]; simp, hc⟩

/-! ### The service takes a mark (R138, R153) -/

theorem Service.takesMark_iff (v : Service) : v.takesMark = true ↔
    (v.kind = .repair ∨ ∀ e ∈ v.map, e.2 = .sent) ∧ v.queue.countP (fun f => f.kind == 1) < 2 := by
  unfold Service.takesMark Service.allSent Service.marks
  simp [Config.maxMarks]

theorem Service.takesMark_false (v : Service) (h : (v.kind = .reentry ∧ ∃ e ∈ v.map, e.2 ≠ .sent) ∨
    2 ≤ v.queue.countP (fun f => f.kind == 1)) : v.takesMark = false := by
  rw [Bool.eq_false_iff, Ne, v.takesMark_iff]
  rintro ⟨hs, hm⟩
  obtain ⟨hk, e, he, hne⟩ | h := h
  · obtain hr | hall := hs
    · rw [hk] at hr
      cases hr
    · exact hne (hall e he)
  · omega

/-- The service's queue takes the frame, or MARKS_SKIPPED counts it. -/
structure MarkTaken (s t : State) (v : Service) (f : Frame) : Prop where
  queues : v.takesMark = true → t.rse = { s.rse with service := some { v with queue := v.queue ++ [f] } } ∧
    t.evu.counters[(15 : Fin 16)] = s.evu.counters[(15 : Fin 16)]
  skips : v.takesMark = false → t.rse = s.rse ∧ t.evu.counters[(15 : Fin 16)] =
    if s.evu.counters[(15 : Fin 16)] < 65535 then s.evu.counters[(15 : Fin 16)] + 1 else s.evu.counters[(15 : Fin 16)]

theorem MarkTaken.offerMark (s : State) (v : Service) (f : Frame) : MarkTaken s (s.offerMark v f) v f where
  queues h := by
    unfold State.offerMark
    rw [if_pos h]
    exact ⟨rfl, rfl⟩
  skips h := by
    unfold State.offerMark
    rw [if_neg (by simp [h])]
    refine ⟨by simp, (s.count_counter .marksSkipped .marksSkipped).trans ?_⟩
    simp [Counter.index]

/-- The service and MARKS_SKIPPED stand. -/
def ServiceStands (s t : State) : Prop :=
  t.rse = s.rse ∧ t.evu.counters[(15 : Fin 16)] = s.evu.counters[(15 : Fin 16)]

theorem ServiceStands.offerFrame (s : State) (p : Port) (f : Frame) : ServiceStands s (s.offerFrame p f) := by
  obtain ⟨-, -, -, hc⟩ := s.offerFrame_offered p f
  refine ⟨by simp, (hc .marksSkipped).trans (if_neg ?_)⟩
  unfold dropped
  split <;> simp

theorem ServiceStands.trans (h : ServiceStands r s) (k : ServiceStands s t) : ServiceStands r t :=
  ⟨k.1.trans h.1, k.2.trans h.2⟩

theorem MarkTaken.after (h : ServiceStands r s) (k : MarkTaken s t v f) : MarkTaken r t v f := by
  obtain ⟨hr, hc⟩ := h
  obtain ⟨hq, hs⟩ := k
  rw [hr, hc] at hq hs
  exact ⟨hq, hs⟩

theorem MarkTaken.before (h : MarkTaken r s v f) (k : ServiceStands s t) : MarkTaken r t v f := by
  obtain ⟨hr, hc⟩ := k
  obtain ⟨hq, hs⟩ := h
  rw [← hr, ← hc] at hq hs
  exact ⟨hq, hs⟩

/-! ### The frame on one port -/

theorem State.offerFrame_down (h : (s.link p).up = false) : s.offerFrame p f = s := by
  unfold State.offerFrame State.offerResult
  simp [h]

theorem State.servicePort_of (hv : s.rse.service = some v) : s.servicePort = some v.port := by
  unfold State.servicePort
  rw [hv]
  rfl

theorem State.servicePort_some (h : s.servicePort = some p) : ∃ v, s.rse.service = some v ∧ v.port = p :=
  Option.map_eq_some_iff.1 h

/-- On a port other than the service port the frame is offered like any other. -/
theorem State.offerDigest_other (h : s.servicePort ≠ some p) : s.offerDigest p f = s.offerFrame p f := by
  unfold State.offerDigest
  cases hu : (s.link p).up with
  | false => rw [if_neg nofun, State.offerFrame_down hu]
  | true =>
    rw [if_pos rfl]
    split
    · rename_i v hv
      exact if_neg fun (hp : v.port = p) => h (by rw [State.servicePort_of hv, hp])
    · rfl

theorem State.offerDigest_service (hv : s.rse.service = some v) :
    s.offerDigest v.port f = if (s.link v.port).up then s.offerMark v f else s := by
  unfold State.offerDigest
  rw [hv]
  dsimp only
  rw [if_pos rfl]

theorem State.offerMark_servicePort (hv : s.rse.service = some v) : (s.offerMark v f).servicePort = s.servicePort := by
  unfold State.offerMark State.servicePort
  split
  · rw [hv]
    rfl
  · simp

theorem State.offerDigest_servicePort (s : State) (p : Port) (f : Frame) :
    (s.offerDigest p f).servicePort = s.servicePort := by
  by_cases h : s.servicePort = some p
  · obtain ⟨v, hv, rfl⟩ := State.servicePort_some h
    rw [State.offerDigest_service hv]
    split
    · exact State.offerMark_servicePort hv
    · rfl
  · rw [State.offerDigest_other h]
    unfold State.servicePort
    simp

theorem State.offerDigest_link (s : State) (p q : Port) (f : Frame) : (s.offerDigest p f).link q =
    { s.link q with tx := if p = q ∧ s.servicePort ≠ some q then queued (s.link q) f else (s.link q).tx } := by
  by_cases h : s.servicePort = some p
  · obtain ⟨v, hv, rfl⟩ := State.servicePort_some h
    have hl : (s.offerDigest v.port f).link q = s.link q := by
      rw [State.offerDigest_service hv]
      split
      · unfold State.link
        simp
      · rfl
    rw [hl, if_neg fun hq => hq.2 (hq.1 ▸ h)]
  · rw [State.offerDigest_other h, State.offerFrame_link]
    by_cases hq : p = q
    · subst hq
      simp [h]
    · simp [hq]

theorem Unreported.offerDigest (s : State) (p : Port) (f : Frame) : Unreported s (s.offerDigest p f) := by
  by_cases h : s.servicePort = some p
  · obtain ⟨v, hv, rfl⟩ := State.servicePort_some h
    rw [State.offerDigest_service hv]
    split
    · unfold State.offerMark
      split
      · exact .of_evu rfl
      · exact .count s _
    · exact .of_evu rfl
  · rw [State.offerDigest_other h]
    exact .offerFrame s p f

theorem ServiceStands.offerDigest (h : s.servicePort = some p → (s.link p).up = false) :
    ServiceStands s (s.offerDigest p f) := by
  by_cases hp : s.servicePort = some p
  · obtain ⟨v, hv, rfl⟩ := State.servicePort_some hp
    rw [State.offerDigest_service hv, if_neg (by simp [h hp])]
    exact ⟨rfl, rfl⟩
  · rw [State.offerDigest_other hp]
    exact .offerFrame s p f

theorem MarkTaken.offerDigest (hv : s.rse.service = some v) (hu : (s.link v.port).up = true) :
    MarkTaken s (s.offerDigest v.port f) v f := by
  rw [State.offerDigest_service hv, if_pos hu]
  exact .offerMark s v f

/-! ### The frame on both ports -/

/-- The frame has been offered on both ports. -/
def State.offerBoth (s : State) (f : Frame) : State := (s.offerDigest .a f).offerDigest .b f

@[simp] theorem State.offerBoth_frame (s : State) (f : Frame) :
    (s.offerBoth f).chanId = s.chanId ∧ (s.offerBoth f).msize = s.msize ∧ (s.offerBoth f).txi = s.txi ∧
    (s.offerBoth f).rgt = s.rgt ∧ (s.offerBoth f).msq = s.msq ∧ (s.offerBoth f).ret = s.ret ∧ (s.offerBoth f).srm = s.srm ∧
    (s.offerBoth f).dgu = s.dgu ∧ (s.offerBoth f).ptl = s.ptl ∧ (s.offerBoth f).vtu = s.vtu ∧ (s.offerBoth f).mdc = s.mdc ∧
    (s.offerBoth f).rse.reentry = s.rse.reentry ∧ (s.offerBoth f).rse.repair = s.rse.repair ∧
    (s.offerBoth f).rse.repairList = s.rse.repairList ∧ (s.offerBoth f).cmi = s.cmi ∧ (s.offerBoth f).mem = s.mem ∧
    (s.offerBoth f).pending = s.pending := by
  simp [State.offerBoth]

theorem State.offerBoth_link (s : State) (f : Frame) (q : Port) : (s.offerBoth f).link q =
    { s.link q with tx := if s.servicePort = some q then (s.link q).tx else queued (s.link q) f } := by
  unfold State.offerBoth
  rw [State.offerDigest_link, State.offerDigest_link, State.offerDigest_servicePort]
  by_cases h : s.servicePort = some q
  · simp [h]
  · cases q <;> simp [h]

theorem Unreported.offerBoth (s : State) (f : Frame) : Unreported s (s.offerBoth f) :=
  (Unreported.offerDigest s .a f).trans (.offerDigest _ .b f)

/-- Without a service, or with one on a DOWN port, nothing joins a service queue. -/
theorem ServiceStands.offerBoth (h : ∀ p, s.servicePort = some p → (s.link p).up = false) :
    ServiceStands s (s.offerBoth f) := by
  refine (ServiceStands.offerDigest (h .a)).trans (.offerDigest fun hp => ?_)
  rw [State.offerDigest_link]
  exact h .b ((State.offerDigest_servicePort ..).symm.trans hp)

/-- A service on an UP port takes the mark or skips it. -/
theorem MarkTaken.offerBoth (hv : s.rse.service = some v) (hu : (s.link v.port).up = true) :
    MarkTaken s (s.offerBoth f) v f := by
  have hsp : s.servicePort = some v.port := State.servicePort_of hv
  cases hp : v.port with
  | a =>
    have ht := MarkTaken.offerDigest (f := f) hv hu
    rw [hp] at ht
    exact ht.before (.offerDigest fun h => by rw [State.offerDigest_servicePort, hsp, hp] at h; cases h)
  | b =>
    have hstands : ServiceStands s (s.offerDigest .a f) := .offerDigest fun h => by rw [hsp, hp] at h; cases h
    have ht := MarkTaken.offerDigest (s := s.offerDigest .a f) (f := f) (v := v) (by rw [hstands.1, hv])
      (by rw [State.offerDigest_link]; exact hu)
    rw [hp] at ht
    exact ht.after hstands

/-- The number of ports that an answer names where no service is given. -/
theorem State.markPorts_free (s : State) (hn : s.rse.service = none) : s.markPorts =
    [Port.a, Port.b].countP (fun p => (s.link p).up && decide ((s.link p).tx.length < 16)) := by
  have h (p : Port) : s.digestQueued p = ((s.link p).up && decide ((s.link p).tx.length < 16)) := by
    unfold State.digestQueued State.offerResult Config.txQueueSize
    rw [hn]
    cases (s.link p).up with
    | false => rfl
    | true =>
      by_cases hl : (s.link p).tx.length < 16 <;> simp [hl]
  unfold State.markPorts
  rw [h, h, List.countP_cons, List.countP_cons, List.countP_nil, Nat.zero_add, Nat.add_comm]

end Sys2Proof.Machine
end

section
/-! CYCLE_MARK: the record of the mark and the decisions that follow (R99, R106), and the statement (O41). -/

namespace Sys2Proof.Machine

variable {r s t : State} {p : Port} {m n : Word} {v : VoteRecord} {l : Snapshot}

/-! ### The record is opened -/

theorem State.createRecord_recordFor (h : s.recordFor m = none) (last : Word) :
    (s.createRecord last m).recordFor m = some (VoteRecord.new m) := by
  have hnone : (makeRoom last s.vtu.records).find? (fun r => r.cycle == m) = none :=
    List.find?_eq_none.2 fun w hw => List.find?_eq_none.1 h w (makeRoom_subset _ _ w hw)
  show (makeRoom last s.vtu.records ++ [VoteRecord.new m]).find? (fun r => r.cycle == m) = _
  rw [List.find?_append, hnone]
  simp [VoteRecord.new]

/-- What an open record of a cycle holds after its mark, before it is decided (R99). -/
structure Opened (s : State) (n : Word) (v : VoteRecord) : Prop where
  cycle : v.cycle = n
  snapshot : v.snapshot = some s.snapshot
  expects : ∀ p, v.expects p = s.expectedVoter p
  deadline : v.deadline = some s.cmi.settings.voteDeadline
  undecided : v.outcome = none

/-- The record of a mark is there, and holds a partner's set only where it was there before. -/
theorem State.openRecord_opened (s : State) (n : Word) : ∃ v, (s.openRecord n).recordFor n = some v ∧ Opened s n v ∧
    (s.recordFor n = none → ∀ p, v.setOf p = none) := by
  obtain ⟨z, w, hz, hw, hnew⟩ : ∃ z w, (if (s.recordFor n).isSome then s else s.createRecord n n) = z ∧
      z.recordFor n = some w ∧ (s.recordFor n = none → w = VoteRecord.new n) := by
    cases h : s.recordFor n with
    | some w => exact ⟨s, w, rfl, h, nofun⟩
    | none => exact ⟨_, _, rfl, State.createRecord_recordFor h n, fun _ => rfl⟩
  have hc : w.cycle = n := State.recordFor_cycle hw
  let x : VoteRecord := { w with
    snapshot := some s.snapshot, expectA := s.expectedVoter .a, expectB := s.expectedVoter .b
    deadline := some s.cmi.settings.voteDeadline, outcome := none, results := [] }
  have hopen : s.openRecord n = z.putRecord x := by
    unfold State.openRecord
    dsimp only
    rw [hz, hw]
  have hx : (z.putRecord x).recordFor x.cycle = some x :=
    State.putRecord_recordFor (by rw [show x.cycle = n from hc, hw]; rfl)
  rw [show x.cycle = n from hc] at hx
  refine ⟨x, by rw [hopen, hx], ⟨hc, rfl, fun p => by cases p <;> rfl, rfl, rfl⟩, fun h p => ?_⟩
  show w.setOf p = none
  rw [hnew h]
  cases p <;> rfl

/-- The other records are as before the mark. -/
theorem State.openRecord_others (s : State) (n : Word) :
    ∀ w ∈ (s.openRecord n).vtu.records, w.cycle ≠ n → w ∈ s.vtu.records := by
  intro w hw hne
  unfold State.openRecord at hw
  have hroom : w ∈ (if (s.recordFor n).isSome then s else s.createRecord n n).vtu.records → w ∈ s.vtu.records := by
    split
    · exact id
    · intro h
      obtain h | h := List.mem_append.1 h
      · exact makeRoom_subset _ _ w h
      · rw [List.mem_singleton.1 h] at hne
        exact absurd rfl hne
  dsimp only at hw
  split at hw
  · exact hroom hw
  · rename_i x hx
    obtain ⟨y, hy, rfl⟩ := List.mem_map.1 hw
    split at hne
    · exact absurd (State.recordFor_cycle hx) hne
    · rename_i hcyc
      rw [if_neg hcyc] at hroom ⊢
      exact hroom hy

theorem State.openRecord_vtu (s : State) (n : Word) :
    (s.openRecord n).vtu = { s.vtu with records := (s.openRecord n).vtu.records } := by
  unfold State.openRecord
  dsimp only
  split <;> split <;> rfl

/-- The mark has opened its record, and the DIGEST frame has been offered: the decisions are to follow. -/
def State.markSent (s : State) (n : Word) : State := ((s.markLast n).openRecord n).offerBoth (s.digestFrame n)

theorem State.acceptMark_eq (s : State) (n : Word) :
    s.acceptMark n = ((s.markSent n).decideOthers n).decideIfComplete n := rfl

theorem State.markSent_vtu (s : State) (n : Word) : (s.markSent n).vtu =
    { s.vtu with last := some n, watchdog := some 0, records := (s.markSent n).vtu.records } := by
  have hv : (s.markSent n).vtu = ((s.markLast n).openRecord n).vtu := by simp [State.markSent]
  rw [hv]
  exact State.openRecord_vtu _ n

theorem State.markSent_blocks (s : State) (n : Word) : s.markSent n = { s with
    vtu := { s.vtu with last := some n, watchdog := some 0, records := (s.markSent n).vtu.records }
    lkc := (s.markSent n).lkc, evu := (s.markSent n).evu
    rse := { s.rse with service := (s.markSent n).rse.service } } := by
  have hr : (s.markSent n).rse = { s.rse with service := (s.markSent n).rse.service } := by
    obtain ⟨hreentry, hrepair, hlist⟩ : (s.markSent n).rse.reentry = s.rse.reentry ∧
        (s.markSent n).rse.repair = s.rse.repair ∧ (s.markSent n).rse.repairList = s.rse.repairList := by simp [State.markSent]
    dsimp only
    rw [← hreentry, ← hrepair, ← hlist]
  have hv := s.markSent_vtu n
  refine State.eq_of_blocks ⟨?_, ?_, ?_, ?_, ?_, ?_, ?_, ?_, ?_, rfl, hv, ?_, hr, rfl, ?_, ?_, ?_⟩ <;> simp [State.markSent]

theorem State.markSent_link (s : State) (n : Word) (q : Port) : (s.markSent n).link q = { s.link q with
    tx := if s.servicePort = some q then (s.link q).tx else queued (s.link q) (s.digestFrame n) } := by
  have hl : ((s.markLast n).openRecord n).link q = s.link q := by
    unfold State.link
    simp
  have hs : ((s.markLast n).openRecord n).servicePort = s.servicePort := by
    unfold State.servicePort
    simp
  unfold State.markSent
  rw [State.offerBoth_link, hl, hs]

theorem Unreported.markSent (s : State) (n : Word) : Unreported s (s.markSent n) :=
  (Unreported.of_evu (t := (s.markLast n).openRecord n) (by simp)).trans (.offerBoth _ _)

theorem State.markSent_opened (s : State) (n : Word) : ∃ v, (s.markSent n).recordFor n = some v ∧ Opened s n v ∧
    (s.recordFor n = none → ∀ p, v.setOf p = none) := by
  obtain ⟨v, hv, ho, hs⟩ := (s.markLast n).openRecord_opened n
  refine ⟨v, ?_, ⟨ho.cycle, ho.snapshot, ho.expects, ho.deadline, ho.undecided⟩, hs⟩
  rw [← hv]
  unfold State.recordFor State.markSent
  simp

/-! ### What the decisions leave of the mark -/

/-- L stands, and the watchdog but for an isolation; frames queued stay queued; the record of n keeps what it was opened with,
and stands while it is not decided. -/
structure MarkKept (n : Word) (s t : State) : Prop where
  last : t.vtu.last = s.vtu.last
  isolated : s.mdc.mode = .isolated → t.mdc.mode = .isolated
  watchdog : t.mdc.mode = .isolated ∨ t.vtu.watchdog = s.vtu.watchdog
  tx : ∀ p, (s.link p).tx <+: (t.link p).tx
  record : ∀ v, s.recordFor n = some v → ∃ w, t.recordFor n = some w ∧ w.snapshot = v.snapshot ∧ w.expectA = v.expectA ∧
    w.expectB = v.expectB ∧ (w.outcome = none → w = v)

theorem MarkKept.refl (n : Word) (s : State) : MarkKept n s s :=
  ⟨rfl, id, .inr rfl, fun _ => ⟨[], List.append_nil _⟩, fun v hv => ⟨v, hv, rfl, rfl, rfl, fun _ => rfl⟩⟩

theorem MarkKept.trans (h : MarkKept n r s) (k : MarkKept n s t) : MarkKept n r t where
  last := k.last.trans h.last
  isolated hi := k.isolated (h.isolated hi)
  watchdog := by
    obtain hi | hw := h.watchdog
    · exact .inl (k.isolated hi)
    · exact k.watchdog.imp_right fun hk => hk.trans hw
  tx p := (h.tx p).trans (k.tx p)
  record v hv := by
    obtain ⟨w, hw, hs, ha, hb, ho⟩ := h.record v hv
    obtain ⟨x, hx, hs', ha', hb', ho'⟩ := k.record w hw
    refine ⟨x, hx, hs'.trans hs, ha'.trans ha, hb'.trans hb, fun hn => ?_⟩
    obtain rfl := ho' hn
    exact ho hn

/-- A change that leaves the mode, the ports and the records. -/
theorem MarkKept.of_same (hl : t.vtu.last = s.vtu.last) (hw : t.vtu.watchdog = s.vtu.watchdog)
    (hr : t.vtu.records = s.vtu.records) (hm : t.mdc = s.mdc) (hk : t.lkc = s.lkc) : MarkKept n s t where
  last := hl
  isolated h := by rw [hm, h]
  watchdog := .inr hw
  tx p := by unfold State.link; rw [hk]
  record v hv := by
    unfold State.recordFor at hv ⊢
    rw [hr]
    exact ⟨v, hv, rfl, rfl, rfl, fun _ => rfl⟩

theorem tx_queued (x : LinkPort) (f : Frame) : x.tx <+: queued x f := by
  unfold queued
  split
  · exact ⟨_, rfl⟩
  · exact ⟨[], List.append_nil _⟩

theorem State.servicesOver_tx (s : State) (w : Word) (b : Bool) (p : Port) :
    (s.link p).tx <+: ((s.servicesOver w b).link p).tx := by
  have hoffer (x : LinkPort) (c : Prop) [Decidable c] : x.tx <+: if c then queued x (.abandon w) else x.tx := by
    split
    · exact tx_queued x _
    · exact ⟨[], List.append_nil _⟩
  unfold State.servicesOver
  rw [State.endRepair_link]
  refine List.IsPrefix.trans ?_ (hoffer _ _)
  rw [State.endReentry_link]
  refine List.IsPrefix.trans ?_ (hoffer _ _)
  rw [State.endService_link]
  exact hoffer _ _

theorem VoteRecord.close_keeps (v : VoteRecord) : v.close.cycle = v.cycle ∧ v.close.snapshot = v.snapshot ∧
    v.close.expectA = v.expectA ∧ v.close.expectB = v.expectB ∧ (v.close.outcome = none → v.close = v) := by
  unfold VoteRecord.close
  split
  · exact ⟨rfl, rfl, rfl, rfl, nofun⟩
  · exact ⟨rfl, rfl, rfl, rfl, fun _ => rfl⟩

theorem MarkKept.isolateFor (s : State) (c : Cause) : MarkKept n s (s.isolateFor c) := by
  by_cases hi : s.mdc.mode.isolable = true
  · have hv := s.isolateFor_vtu c hi
    have hm : (s.isolateFor c).mdc.mode = .isolated := by rw [(s.isolateFor_mdc c hi).1]
    refine ⟨by rw [hv]; rfl, fun _ => hm, .inl hm, fun p => ?_, fun v hr => ?_⟩
    · rw [s.isolateFor_link c hi]
      exact s.servicesOver_tx ..
    · obtain ⟨-, hs, ha, hb, ho⟩ := v.close_keeps
      refine ⟨v.close, ?_, hs, ha, hb, ho⟩
      unfold State.recordFor at hr ⊢
      rw [hv]
      show (s.vtu.records.map VoteRecord.close).find? _ = _
      rw [find_cycle_map _ _ fun x => x.close_keeps.1, hr, Option.map_some]
  · unfold State.isolateFor
    rw [if_neg hi]
    exact .refl n s

theorem MarkKept.requestMode_run (s : State) : MarkKept n s (s.requestMode .run) := by
  obtain ⟨hl, hv, -⟩ := s.requestMode_run_frame
  refine ⟨by rw [hv], fun hi => ?_, .inr (by rw [hv]), fun p => by unfold State.link; rw [hl], fun v hr => ?_⟩
  · rw [State.requestMode_run, hi]
    exact hi
  · unfold State.recordFor at hr ⊢
    rw [hv]
    exact ⟨v, hr, rfl, rfl, rfl, fun _ => rfl⟩

/-- The counts of R112 and R113. -/
theorem MarkKept.counts (s : State) (i k : Nat) :
    MarkKept n s (s.setVtu { s.vtu with unchecked := i, syncCount := k }) := .of_same rfl rfl rfl rfl rfl

theorem MarkKept.voteConsequence (s : State) (o : VoteOutcome) (x : RegionResult) : MarkKept n s (s.voteConsequence o x) := by
  unfold State.voteConsequence
  split
  · exact (MarkKept.counts s 0 s.vtu.syncCount).trans (.isolateFor _ _)
  · split
    · unfold State.syncOutcome State.syncLimit
      split
      · exact (MarkKept.counts s s.vtu.unchecked 0).trans (.requestMode_run _)
      · refine (MarkKept.counts s s.vtu.unchecked (s.vtu.syncCount + 1)).trans ?_
        split
        · exact .isolateFor _ _
        · exact .refl n _
    · unfold State.runOutcome State.uncheckedLimit
      split
      · refine (MarkKept.counts s (s.vtu.unchecked + 1) s.vtu.syncCount).trans ?_
        split
        · exact .isolateFor _ _
        · exact .refl n _
      · exact .counts s 0 s.vtu.syncCount

/-- A record decided, of n or of another cycle, before its consequence. -/
theorem MarkKept.voteNoted (hc : s.recordFor m = some v) (l : Snapshot) : MarkKept n s (s.voteNoted v l) := by
  have hv : (s.voteNoted v l).vtu = (s.putRecord (s.decidedRecord v l)).vtu := by
    rw [s.voteNoted_blocks]
    exact (s.voteMarked_blocks v l).2.2.2.2.2.2.2.2
  have hm : (s.voteNoted v l).mdc = s.mdc := (s.voteNoted_stands v l).1
  refine ⟨by rw [hv]; rfl, fun hi => by rw [hm, hi], .inr (by rw [hv]; rfl), fun p => by rw [s.voteNoted_link],
    fun w hw => ?_⟩
  have hfind : (s.voteNoted v l).recordFor n = some (if w.cycle = v.cycle then s.decidedRecord v l else w) := by
    unfold State.recordFor at hw ⊢
    rw [hv]
    show (s.vtu.records.map fun x => if x.cycle = v.cycle then s.decidedRecord v l else x).find? _ = _
    rw [find_cycle_map _ _ fun x => by split <;> simp_all [State.decidedRecord], hw, Option.map_some]
  rw [hfind]
  split
  · rename_i he
    have hmn : n = m := (State.recordFor_cycle hw).symm.trans (he.trans (State.recordFor_cycle hc))
    rw [hmn, hc, Option.some.injEq] at hw
    exact ⟨_, rfl, by rw [← hw]; rfl, by rw [← hw]; rfl, by rw [← hw]; rfl, nofun⟩
  · exact ⟨w, rfl, rfl, rfl, rfl, fun _ => rfl⟩

theorem MarkKept.decideRecord (n : Word) (s : State) (c : Word) : MarkKept n s (s.decideRecord c) := by
  unfold State.decideRecord
  split
  · exact .refl n s
  · rename_i v hv
    split
    · split
      · rename_i l _
        exact (MarkKept.voteNoted hv l).trans (.voteConsequence _ _ _)
      · exact .refl n s
    · exact .refl n s

theorem MarkKept.decideOthers (n : Word) (s : State) : MarkKept n s (s.decideOthers n) := by
  unfold State.decideOthers
  generalize s.vtu.records.map (·.cycle) = cs
  induction cs generalizing s with
  | nil => exact .refl n s
  | cons c cs ih =>
    rw [List.foldl_cons]
    split
    · exact ih s
    · exact (MarkKept.decideRecord n s c).trans (ih _)

theorem MarkKept.decideIfComplete (n : Word) (s : State) : MarkKept n s (s.decideIfComplete n) := by
  unfold State.decideIfComplete
  split
  · exact .refl n s
  · split
    · exact .decideRecord n s n
    · exact .refl n s

/-- A record that is complete is decided at once (R106). -/
theorem State.decideIfComplete_decides (hv : s.recordFor n = some v) (ho : v.outcome = none) (hs : v.snapshot = some l)
    (hc : v.complete = true) : (s.decideIfComplete n).recordFor n = some (s.decidedRecord v l) := by
  have hcyc := State.recordFor_cycle hv
  have he : s.decideIfComplete n = s.decideWith v l := by
    unfold State.decideIfComplete State.decideRecord VoteRecord.isOpen
    rw [hv]
    simp [hc, ho, hs]
  have hd := State.decideWith_record (s := s) (v := v) l (by rw [hcyc, hv])
  rwa [← he, hcyc] at hd

/-! ### An accepted mark -/

/-- What every accepted mark leaves (R99, R100). -/
theorem State.acceptMark_opened (s : State) (n : Word) : ∃ w, (s.acceptMark n).recordFor n = some w ∧
    w.snapshot = some s.snapshot ∧ w.expectA = s.expectedVoter .a ∧ w.expectB = s.expectedVoter .b ∧
    (w.outcome = none → w.deadline = some s.cmi.settings.voteDeadline ∧
      (s.expectedVoter .a = true ∨ s.expectedVoter .b = true)) := by
  obtain ⟨v, hv, hopen, -⟩ := s.markSent_opened n
  obtain ⟨x, hx, hs, ha, hb, ho⟩ := (MarkKept.decideOthers n (s.markSent n)).record v hv
  obtain ⟨w, hw, hs', ha', hb', ho'⟩ := (MarkKept.decideIfComplete n ((s.markSent n).decideOthers n)).record x hx
  refine ⟨w, hw, hs'.trans (hs.trans hopen.snapshot), ha'.trans (ha.trans (hopen.expects .a)),
    hb'.trans (hb.trans (hopen.expects .b)), fun hn => ?_⟩
  obtain rfl := ho' hn
  obtain rfl := ho hn
  refine ⟨hopen.deadline, ?_⟩
  by_contra hnone
  have hexp (p : Port) : w.expects p = false := by
    rw [hopen.expects]
    cases p <;> simp_all
  have hc : w.complete = true := (w.complete_iff).2 fun p hp => by rw [hexp p] at hp; cases hp
  rw [State.decideIfComplete_decides hx hn hopen.snapshot hc, Option.some.injEq] at hw
  rw [← hw] at hn
  cases hn

theorem State.acceptMark_kept (s : State) (n : Word) : MarkKept n (s.markSent n) (s.acceptMark n) :=
  (MarkKept.decideOthers n _).trans (.decideIfComplete n _)

/-- The frame stands in the queue of a port that had room and is not the service port. -/
theorem State.acceptMark_tx (n : Word) (hu : (s.link p).up = true) (hs : s.servicePort ≠ some p)
    (hroom : (s.link p).tx.length < 16) :
    ∃ rest, ((s.acceptMark n).link p).tx = (s.link p).tx ++ s.digestFrame n :: rest := by
  obtain ⟨rest, hrest⟩ := (s.acceptMark_kept n).tx p
  have hq : ((s.markSent n).link p).tx = (s.link p).tx ++ [s.digestFrame n] := by
    rw [State.markSent_link, if_neg hs]
    exact if_pos ⟨hu, hroom⟩
  exact ⟨rest, by rw [← hrest, hq, List.append_assoc]; rfl⟩

/-- Where no other record is to be decided and a partner is expected, the mark ends with the frames offered. -/
theorem State.acceptMark_alone (h : ∀ q ∈ s.vtu.records, q.cycle ≠ n ∧ (q.outcome = none → q.snapshot = none))
    (he : s.expectedVoter .a = true ∨ s.expectedVoter .b = true) : s.acceptMark n = s.markSent n := by
  have hothers : (s.markSent n).decideOthers n = s.markSent n := by
    unfold State.decideOthers
    generalize (s.markSent n).vtu.records.map (·.cycle) = cs
    induction cs with
    | nil => rfl
    | cons c cs ih =>
      rw [List.foldl_cons]
      split
      · exact ih
      · rename_i hc
        have hstays : (s.markSent n).decideRecord c = s.markSent n := by
          unfold State.decideRecord
          cases hr : (s.markSent n).recordFor c with
          | none => rfl
          | some w =>
            have hmem : w ∈ ((s.markLast n).openRecord n).vtu.records := by
              have := List.mem_of_find?_eq_some hr
              simpa [State.markSent] using this
            have hw := h w ((s.markLast n).openRecord_others n w hmem (by rwa [State.recordFor_cycle hr]))
            dsimp only
            split
            · rename_i ho
              rw [hw.2 (Option.isNone_iff_eq_none.1 ho)]
            · rfl
        rw [hstays]
        exact ih
  obtain ⟨v, hv, hopen, hset⟩ := s.markSent_opened n
  have hnone := hset (State.recordFor_none fun w hw => (h w hw).1)
  have hc : ¬ v.complete = true := fun hc => by
    obtain he | he := he
    · exact v.complete_iff.1 hc .a ((hopen.expects .a).trans he) (hnone .a)
    · exact v.complete_iff.1 hc .b ((hopen.expects .b).trans he) (hnone .b)
  rw [State.acceptMark_eq, hothers]
  unfold State.decideIfComplete
  rw [hv]
  exact if_neg hc

end Sys2Proof.Machine
end

section
/-! CYCLE_MARK as a command, by the mode and by the sequence of its number (O41). -/

namespace Sys2Proof.Machine

variable {s : State} {n : Word} {v : Service}

/-! ### Out of sequence, and in ISOLATED -/

theorem State.presented_mark (s : State) (n : Word) :
    ∃ ws, s.presented 0x0B [n] = { s with cmi := { s.cmi with words := ws } } := ⟨_, s.presented_words 0x0B [n]⟩

theorem Voting.presented (h : Voting s) {code : Word} {ps : List Word} : Voting (s.presented code ps) := by
  unfold Voting
  rwa [(s.presented_frame code ps).2.2.2.2.2.1]

theorem State.cmdCycleMark_voting (h : Voting s) : s.cmdCycleMark =
    if s.inSequence (s.param 1) then
      (s.acceptMark (s.param 1)).answer .done [word s.markPorts, word s.expectedSet]
    else s.answer .sequence [wordOr s.vtu.last] := by
  have hne : s.mdc.mode ≠ .isolated := by obtain h | h | h := h <;> (rw [h]; exact nofun)
  unfold State.cmdCycleMark
  rw [if_neg hne, s.acceptedIn_of _ _ (by obtain h | h | h := h <;> (rw [h]; rfl))]

theorem exec_cycleMark_sequence {l : Word} (hb : BusFree s) (hm : Voting s) (hl : s.vtu.last = some l) (hn : n ≠ l + 1) :
    ∃ t, exec (.cycleMark n) s = .next t ∧ Commanded s t 0x0B [n] .sequence [l] ∧ OnlyAnswers s t := by
  refine ⟨_, rfl, s.issue_answered 0x0B [n] _ .sequence [l] hb (by simp) ?_⟩
  have hp : (s.presented 0x0B [n]).param 1 = n := s.presented_param 0x0B [n] (by simp) 0 (by simp)
  have hlast : (s.presented 0x0B [n]).vtu.last = some l := by rw [s.presented_words]; exact hl
  have hseq : (s.presented 0x0B [n]).inSequence n = false := by
    unfold State.inSequence
    rw [hlast]
    simpa using hn
  rw [State.cmdCycleMark_voting hm.presented, hp, hseq, hlast]
  rfl

/-- Two offers, of which one at most is dropped. -/
theorem State.offers_counted (s : State) (f : Frame) (h : dropped (s.link .a) = [] ∨ dropped (s.link .b) = []) :
    Counted s ((s.offerFrame .a f).offerFrame .b f) (dropped (s.link .a) ++ dropped (s.link .b)) := by
  obtain ⟨⟨-, hother⟩, -, -, ha⟩ := s.offerFrame_offered .a f
  obtain ⟨-, -, -, hb⟩ := (s.offerFrame .a f).offerFrame_offered .b f
  rw [hother .b nofun] at hb
  intro c
  rw [hb c, ha c]
  obtain h | h := h <;> simp [h]

theorem exec_cycleMark_isolated (hb : BusFree s) (hm : s.mdc.mode = .isolated) : ∃ t, exec (.cycleMark n) s = .next t ∧
    Commanded s t 0x0B [n] .notNow [7] ∧ (∀ p, t.link p = { s.link p with
      tx := if Config.isolatedDigest s.vtu.last n then queued (s.link p) (s.digestFrame n) else (s.link p).tx }) ∧
    Unreported s t ∧
    (dropped (s.link .a) = [] ∨ dropped (s.link .b) = [] → Config.isolatedDigest s.vtu.last n = true →
      Counted s t (dropped (s.link .a) ++ dropped (s.link .b))) ∧
    (Config.isolatedDigest s.vtu.last n = false → OnlyAnswers s t) ∧
    t = { s with txi := t.txi, cmi := { s.cmi with words := t.cmi.words }, lkc := t.lkc, evu := t.evu } := by
  obtain ⟨ws, hz⟩ := s.presented_mark n
  have hp : (s.presented 0x0B [n]).param 1 = n := s.presented_param 0x0B [n] (by simp) 0 (by simp)
  let z : State := { s with cmi := { s.cmi with words := ws } }
  have hf : (s.presented 0x0B [n]).cmdCycleMark = (z.isolatedMark n).answer .notNow [7] := by
    unfold State.cmdCycleMark
    rw [hp, hz, if_pos hm]
    unfold State.notNow
    rw [show (z.isolatedMark n).mdc.mode = .isolated by simpa [z] using hm]
    rfl
  obtain ⟨hc, x, ws', ht⟩ := s.issue_changed 0x0B [n] _ _ _ _ hb (by simp) hf (by rw [hz]; simp [z]) (by simp [z])
  refine ⟨_, rfl, hc, fun p => ?_, ?_, fun hd ho => ?_, fun ho => ?_, ?_⟩
  · rw [ht]
    exact z.isolatedMark_link n p
  · rw [ht]
    show Unreported z (z.isolatedMark n)
    unfold State.isolatedMark
    split
    · exact (Unreported.offerFrame z .a _).trans (.offerFrame _ .b _)
    · exact .of_evu rfl
  · rw [ht]
    show Counted z (z.isolatedMark n) _
    unfold State.isolatedMark
    rw [show z.vtu.last = s.vtu.last from rfl, if_pos ho]
    exact z.offers_counted _ hd
  · rw [ht]
    unfold OnlyAnswers State.isolatedMark
    rw [show z.vtu.last = s.vtu.last from rfl, if_neg (by rw [ho]; exact nofun)]
  · rw [ht]
    exact State.eq_of_blocks (by simp [z])

/-! ### In sequence -/

theorem State.inSequence_of (h : s.vtu.last = none ∨ s.vtu.last = some (n - 1)) : s.inSequence n = true := by
  unfold State.inSequence
  obtain h | h := h <;> rw [h]
  simp

/-- An accepted mark, but for the aperture and the processor's answer (R99). -/
theorem exec_cycleMark_accepted (hb : BusFree s) (hm : Voting s) (hl : s.vtu.last = none ∨ s.vtu.last = some (n - 1)) :
    ∃ t ws x ws', exec (.cycleMark n) s = .next t ∧ Commanded s t 0x0B [n] .done [word s.markPorts, word s.expectedSet] ∧
      t = { ({ s with cmi := { s.cmi with words := ws } } : State).acceptMark n with
        txi := x, cmi := { s.cmi with words := ws' } } := by
  obtain ⟨ws, hz⟩ := s.presented_mark n
  have hp : (s.presented 0x0B [n]).param 1 = n := s.presented_param 0x0B [n] (by simp) 0 (by simp)
  let z : State := { s with cmi := { s.cmi with words := ws } }
  have hf : (s.presented 0x0B [n]).cmdCycleMark =
      (z.acceptMark n).answer .done [word s.markPorts, word s.expectedSet] := by
    rw [State.cmdCycleMark_voting hm.presented, hp, hz]
    exact if_pos (State.inSequence_of (s := z) hl)
  obtain ⟨hc, x, ws', ht⟩ := s.issue_changed 0x0B [n] _ _ _ _ hb (by simp) hf (by rw [hz]; simp [z]) (by simp [z])
  rw [show (z.acceptMark n).cmi = z.cmi by simp] at ht
  exact ⟨_, ws, x, ws', rfl, hc, ht⟩

/-- The service at an accepted mark that ends with the frames offered (R138, R153). -/
theorem State.markSent_service (hv : s.rse.service = some v) :
    ((s.link v.port).up = false → ServiceStands s (s.markSent n)) ∧
    ((s.link v.port).up = true → MarkTaken s (s.markSent n) v (s.digestFrame n)) := by
  let z : State := (s.markLast n).openRecord n
  have hstands : ServiceStands s z := ⟨by simp [z], by simp [z]⟩
  have hlink (p : Port) : z.link p = s.link p := by
    unfold State.link
    simp [z]
  have hzv : z.rse.service = some v := by rw [hstands.1, hv]
  refine ⟨fun hu => hstands.trans (.offerBoth fun p hp => ?_), fun hu =>
    (MarkTaken.offerBoth hzv (by rw [hlink, hu])).after hstands⟩
  obtain ⟨v', hv', rfl⟩ := State.servicePort_some hp
  rw [hzv, Option.some.injEq] at hv'
  rw [hlink, ← hv', hu]

/-- Settles O41: the mode and the sequence decide whether a mark is accepted; an accepted one opens its record and offers its
frame (`State.markSent`), and the decisions that follow keep both (`MarkKept`). -/
theorem cycleMarkOpensRecord : Obligations.CycleMarkOpensRecord := by
  refine ⟨fun s n l hb hm hl hn => exec_cycleMark_sequence hb hm hl hn, fun s n hb hm => ?_, fun s n hb hm hl => ?_⟩
  · obtain ⟨t, he, hc, hlink, ⟨hf, hk⟩, hcount, honly, hrest⟩ := exec_cycleMark_isolated (n := n) hb hm
    refine ⟨t, s.snapshot, he, hc, rfl, rfl, fun p => ?_, hf, hk, hcount, honly, hrest⟩
    rw [hlink p]
    unfold State.digestFrame
    rw [hm]
  · obtain ⟨t, ws, x, ws', he, hc, ht⟩ := exec_cycleMark_accepted hb hm hl
    let z : State := { s with cmi := { s.cmi with words := ws } }
    obtain ⟨r, hr, hsnap, ha, hbx, hopen⟩ := z.acceptMark_opened n
    have hkept := z.acceptMark_kept n
    have hvtu := z.markSent_vtu n
    refine ⟨t, r, word s.markPorts, he, hc, fun hs => by rw [s.markPorts_free hs], ?_, ?_, ?_, ha, hbx,
      ⟨s.snapshot, hsnap, rfl, rfl, fun p hu hs hroom => ?_⟩, hopen, ?_, fun halone hexp => ?_⟩
    · rw [ht]
      exact hkept.last.trans (by rw [hvtu])
    · rw [ht]
      exact hkept.watchdog.imp_right fun h => h.trans (by rw [hvtu])
    · rw [ht]
      exact hr
    · rw [ht]
      refine State.acceptMark_tx (s := z) n hu (fun h => ?_) hroom
      obtain ⟨v, hv, hp⟩ := State.servicePort_some h
      exact hs v hv hp
    · rw [ht]
      exact State.eq_of_blocks (by simp)
    · have hsent : z.acceptMark n = z.markSent n := State.acceptMark_alone halone hexp
      rw [hsent] at ht hr
      have hlink (p : Port) : t.link p = { s.link p with
          tx := if s.servicePort = some p then (s.link p).tx else queued (s.link p) (s.digestFrame n) } := by
        rw [ht]
        exact z.markSent_link n p
      obtain ⟨v, hv, hov, -⟩ := z.markSent_opened n
      rw [hr, Option.some.injEq] at hv
      obtain ⟨hf, hk⟩ := Unreported.markSent z n
      refine ⟨by rw [ht]; exact hf, by rw [ht]; exact hk, by rw [ht]; exact congrArg Vtu.watchdog hvtu,
        by rw [hv]; exact hov.undecided, fun hs p => ?_, fun v hv => ?_, ?_⟩
      · rw [hlink p, if_neg (by unfold State.servicePort; rw [hs]; exact nofun)]
        rfl
      · have hport : s.servicePort = some v.port := State.servicePort_of hv
        obtain ⟨hdown, hup⟩ := State.markSent_service (s := z) (n := n) hv
        refine ⟨by rw [hlink, if_pos hport], fun q hq => ?_, fun hu => ?_, fun hu hk hm => ?_, fun hu hk => ?_⟩
        · rw [hlink q, if_neg (by rw [hport]; simpa using hq.symm)]
          rfl
        · rw [ht]
          exact hdown hu
        · rw [ht]
          exact (hup hu).queues (v.takesMark_iff.2 ⟨hk, hm⟩)
        · rw [ht]
          exact (hup hu).skips (v.takesMark_false hk)
      · rw [ht]
        refine State.eq_of_blocks ?_
        have hblocks := z.markSent_blocks n
        rw [hblocks]
        exact ⟨rfl, rfl, rfl, rfl, rfl, rfl, rfl, rfl, rfl, rfl, rfl, rfl, rfl, rfl, rfl, rfl, rfl⟩

end Sys2Proof.Machine
end
